-- ==== Sys2Proof/Word.lean ====
section
/-! DEFINITION. The byte, and the index types of the part's fixed sets of channels, slots and probes. -/

namespace Sys2Proof

/-- One byte of a message, of the configuration memory or of a grid cell (R86, R180, R200). -/
abbrev Byte := BitVec 8

/-- A channel of the main site. `Fin` value `c` is channel number `c + 1` of the manual (1-32, 00 section 5.3). -/
abbrev Chan := Fin 32

/-- An air slot, 0-7 (00 section 5.3). -/
abbrev SlotId := Fin 8

/-- A probe input, P0-P3 (00 section 5.3). -/
abbrev ProbeId := Fin 4

/-- A line address; the manual's stations are 1-30 (R179). Kept as the number itself. -/
abbrev Addr := Nat

end Sys2Proof
end

