-- ==== Sys2Proof/Syntax.lean ====
section
/-! DEFINITION. The commands: one constructor per row of spec/opcode_table.json, with the row's operands. -/

namespace Sys2Proof

/-- What the line interface received between a busy and an idle of the line (R180, R185): whether a start
delimiter opened it, and the bytes it carried. -/
structure Reception where
  delimiter : Bool
  bytes : List Byte
  deriving DecidableEq, Repr

/-- The commands of the block. `dt` is the oscillator time, in units of 1/60,000 s, that has passed since the
last timing command (`framePulse`, `flywheelEntry`, `substituteFrameEvent`). -/
inductive Instr where
  /-- FULL_RESET, R198. -/
  | fullReset
  /-- CONFIG_READ_COMPLETE, R199: the strap pins and what the configuration memory answered, if it did. -/
  | configReadComplete (straps : BitVec 5) (block : Option (List Byte))
  /-- FRAME_PULSE, R1. -/
  | framePulse (dt : Nat)
  /-- FLYWHEEL_ENTRY, R2. -/
  | flywheelEntry (dt : Nat)
  /-- SUBSTITUTE_FRAME_EVENT, R2. -/
  | substituteFrameEvent (dt : Nat)
  /-- TIMEMARK_RECEIVED, R10. -/
  | timemarkReceived (rx : Reception)
  /-- TIME_MARK_JUDGEMENT, R11. -/
  | timeMarkJudgement
  /-- BEAT_ANCHOR_EXPIRY, R34. -/
  | beatAnchorExpiry (c : Chan)
  /-- AIRBEAT_RECEIVED, R65. -/
  | airbeatReceived (rx : Reception)
  /-- RELAYSTATE_RECEIVED, R68. -/
  | relaystateReceived (rx : Reception)
  /-- EDIT_RECEIVED, R37. -/
  | editReceived (rx : Reception)
  /-- PARKED_EDIT_TIMEOUT, R42: for the channel of the parked entries. -/
  | parkedEditTimeout (c : Chan)
  /-- IMAGEREQ_OFFER_RETRY, R53. -/
  | imagereqOfferRetry (c : Chan)
  /-- IMAGEREQ_ECHO, R53. -/
  | imagereqEcho
  /-- IMAGE_TARGET_TIMEOUT, R53. -/
  | imageTargetTimeout (c : Chan)
  /-- IMAGE_ROUND_RESTART, R53. -/
  | imageRoundRestart (c : Chan)
  /-- IMAGE_SEGMENT_RECEIVED, R54. -/
  | imageSegmentReceived (rx : Reception)
  /-- IMAGE_LOAD_TIMEOUT, R57. -/
  | imageLoadTimeout (c : Chan)
  /-- IMAGEREQ_RECEIVED, R58. -/
  | imagereqReceived (rx : Reception)
  /-- IMAGE_SEGMENT_QUEUED, R59. -/
  | imageSegmentQueued
  /-- IMAGE_ECHO, R59. -/
  | imageEcho
  /-- BEAT_LOST, R66. -/
  | beatLost (c : Chan)
  /-- RELAY_SILENT, R68: the relay's address, 17-20. -/
  | relaySilent (a : Addr)
  /-- VERDICT_RECEIVED, R69. -/
  | verdictReceived (rx : Reception)
  /-- VERDICT_SOURCE_STALE, R70. -/
  | verdictSourceStale (c : Chan)
  /-- GRID_DELIVERY, R86: the probe number, the front end's lock flag and the cell values delivered. -/
  | gridDelivery (probe : Nat) (lock : Bool) (cells : List Byte)
  /-- PROBE_SILENT, R87. -/
  | probeSilent (p : ProbeId)
  /-- VERDICT_REPEAT, R99. -/
  | verdictRepeat (p : ProbeId)
  /-- VERDICT_OFFER_RETRY, R99. -/
  | verdictOfferRetry (p : ProbeId)
  /-- BEACON_OFFERED, R103. -/
  | beaconOffered
  /-- BEACON_OFFER_RETRY, R183. -/
  | beaconOfferRetry
  /-- BEACON_RECEIVED, R104. -/
  | beaconReceived (rx : Reception)
  /-- PEER_SILENT, R105: the peer's address, 1-16. -/
  | peerSilent (a : Addr)
  /-- CLAIM_ECHO, R115. -/
  | claimEcho
  /-- CLAIM_HEARD, R116. -/
  | claimHeard (rx : Reception)
  /-- CLAIM_WINDOW_EXPIRY, R118. -/
  | claimWindowExpiry
  /-- TAKE_OFFER_RETRY, R118. -/
  | takeOfferRetry
  /-- TAKE_HEARD, R108. -/
  | takeHeard (rx : Reception)
  /-- TAKE_ECHO, R119. -/
  | takeEcho
  /-- DEAD_WINNER_EXCLUSION, R121. -/
  | deadWinnerExclusion (c : Chan)
  /-- EXCLUSION_EXPIRY, R121. -/
  | exclusionExpiry (c : Chan)
  /-- PENDING_FORCE_LATCH_RUN, R123. -/
  | pendingForceLatchRun
  /-- INELIGIBLE_EXPIRY, R125. -/
  | ineligibleExpiry (c : Chan)
  /-- JOIN_CUE_ISSUE, R137. -/
  | joinCueIssue (n : SlotId)
  /-- JOIN_CUE_FIRE, R140. -/
  | joinCueFire (n : SlotId)
  /-- LINE_PULSE_END, R158. -/
  | linePulseEnd (n : SlotId)
  /-- LOCK_POINT, R150. -/
  | lockPoint (n : SlotId)
  /-- CUE_FIRE, R151. -/
  | cueFire (n : SlotId)
  /-- ARM_NEXT_CUE, R148. -/
  | armNextCue (n : SlotId)
  /-- RESTART_PLAY, R160. -/
  | restartPlay (n : SlotId)
  /-- SERVER_FAULT_ACTION, R160. -/
  | serverFaultAction (n : SlotId)
  /-- SCHEDULE_RUN_OUT, R153. -/
  | scheduleRunOut (n : SlotId)
  /-- CONFIRM_WINDOW_EXPIRY, R159. -/
  | confirmWindowExpiry (n : SlotId)
  /-- FALLBACK_TIMEOUT, R161. -/
  | fallbackTimeout (n : SlotId)
  /-- SECONDARY_OCCURRENCE, R158. -/
  | secondaryOccurrence (n : SlotId)
  /-- TALLY_RISE, R159. -/
  | tallyRise (n : SlotId)
  /-- TALLY_FALL, R159. -/
  | tallyFall (n : SlotId)
  /-- SLOT_RELEASE, R165. -/
  | slotRelease (n : SlotId)
  /-- RELEASE_OUTBOX_OFFER, R166. -/
  | releaseOutboxOffer
  /-- RELEASE_ECHO, R166. -/
  | releaseEcho
  /-- RELEASE_HEARD, R167. -/
  | releaseHeard (rx : Reception)
  /-- HANDBACK_COMMIT_CHECK, R172. -/
  | handbackCommitCheck (n : SlotId)
  /-- HANDBACK_BOUNDARY, R172. -/
  | handbackBoundary (n : SlotId)
  /-- HANDOVER_CANCEL_OFFER, R174. -/
  | handoverCancelOffer
  /-- HANDOVER_ECHO, R170. -/
  | handoverEcho
  /-- HANDOVER_HEARD, R185. -/
  | handoverHeard (rx : Reception)
  /-- LINE_IDLE, R181. -/
  | lineIdle
  /-- LADDER_WAIT_EXPIRY, R181. -/
  | ladderWaitExpiry
  /-- MESSAGE_ECHO, R184. -/
  | messageEcho
  /-- ECHO_FAILED, R184. -/
  | echoFailed
  /-- MESSAGE_DISCARDED, R185. -/
  | messageDiscarded (rx : Reception)
  /-- QUERY_STATION, R192. -/
  | queryStation (rx : Reception)
  /-- QUERY_CHANNEL, R192. -/
  | queryChannel (rx : Reception)
  /-- QUERY_LIST, R193. -/
  | queryList (rx : Reception)
  /-- QUERY_ASRUN, R177. -/
  | queryAsrun (rx : Reception)
  /-- FORCE_TAKE, R122. -/
  | forceTake (rx : Reception)
  /-- FORCE_RELEASE, R194. -/
  | forceRelease (rx : Reception)
  /-- INHIBIT, R195. -/
  | inhibit (rx : Reception)
  /-- NEXT, R155. -/
  | nextCmd (rx : Reception)
  /-- HANDBACK, R168. -/
  | handback (rx : Reception)
  /-- EDIT_REQUEST, R61. -/
  | editRequest (rx : Reception)
  /-- RESTART, R197. -/
  | restart (rx : Reception)
  /-- BAD_COMMAND, R191. -/
  | badCommand (rx : Reception)
  /-- RELEASE_PHASE_END, R203. -/
  | releasePhaseEnd
  /-- RELEASE_PHASE_TIMEOUT, R203. -/
  | releasePhaseTimeout
  /-- LISTENING_COUNT_EXPIRY, R202. -/
  | listeningCountExpiry
  /-- LINE_GOES_BUSY, R181. -/
  | lineGoesBusy
  /-- RESET_RELEASED, R198. -/
  | resetReleased
  deriving DecidableEq, Repr

end Sys2Proof
end

