-- ==== Sys2Proof/Decode.lean ====
section
/-! DEFINITION. Reading a command from a word by the bits of spec/opcode_table.json. -/

namespace Sys2Proof

/-- The command a word spells. No row of the table gives bits: commands reach the part as messages, pins and
frame events, not as words, so no word spells one. -/
def decodeTableWord (_nbits _w : Nat) : Option Instr := none

end Sys2Proof
end

