-- ==== Sys2Proof/Config.lean ====
section
/-! DEFINITION. The free values: what the manual leaves unstated and no proof may know. -/

namespace Sys2Proof.Config

/-- Free value (log 9): the byte sent in a place of an IMAGE of count 0 to which no rule gives a content
(its epoch, image id, base sequence and segment index, R58 and R187). The argument is a fresh number each time. -/
opaque freeByte : Nat → Byte

/-- Free value (log 15): the material position given to the server where the sum of R133 or R160 lies above the
field's top, 4,294,967,295. The argument is that sum. -/
opaque freeMaterialPosition : Nat → BitVec 32

/-- Free value (log 28): which of two rules that differ ends a confirm window. R13's last words and R1 have it expire as
a count of frame events; R159 and R162 have it end at the expected-by position, judged by R13. True for the count. -/
opaque confirmByCount : Bool

/-- Free value (log 53): which of two rules that differ gives the tally position of a fire that is confirmed a second
time, after a restart PLAY. R159 has it written at each confirmation; R175 has an entry's fields change by one addition
only. True for the second position, false for the first. -/
opaque secondTally : Bool

end Sys2Proof.Config
end

