-- ==== Sys2Proof/Machine/Bytes.lean ====
section
/-! DEFINITION. Byte order, reading fields off a payload, and the check code (R180, R186). -/

namespace Sys2Proof.Machine

/-- The number a run of bytes spells, most significant byte first (R186). -/
def beNat (bs : List Byte) : Nat := bs.foldl (fun n b => n * 256 + b.toNat) 0

/-- `n` in `k` bytes, most significant byte first (R186). -/
def toBE : Nat → Nat → List Byte
  | 0, _ => []
  | k + 1, n => BitVec.ofNat 8 (n / 256 ^ k) :: toBE k n

/-- The first `k` bytes and the rest, when there are that many. -/
def takeBytes (k : Nat) (bs : List Byte) : Option (List Byte × List Byte) :=
  if k ≤ bs.length then some (bs.take k, bs.drop k) else none

/-- A number of `k` bytes off the front. -/
def readNat (k : Nat) (bs : List Byte) : Option (Nat × List Byte) :=
  (takeBytes k bs).map fun p => (beNat p.1, p.2)

/-- A field present only when `present` says so. -/
def readWhen (present : Bool) (k : Nat) (bs : List Byte) : Option (Option Nat × List Byte) :=
  if present then (readNat k bs).map fun p => (some p.1, p.2) else some (none, bs)

/-- One shift of the check register: generator x^16 + x^12 + x^5 + 1 (R180). -/
def crcShift (r : BitVec 16) : BitVec 16 :=
  if r.msb then (r <<< 1) ^^^ 0x1021#16 else r <<< 1

/-- One byte, most significant bit first (R180). -/
def crcByte (r : BitVec 16) (b : Byte) : BitVec 16 :=
  let r := r ^^^ (b.setWidth 16 <<< 8)
  crcShift (crcShift (crcShift (crcShift (crcShift (crcShift (crcShift (crcShift r)))))))

/-- The check code: the register starts at 65,535 and is not inverted (R180, R201). -/
def crc (bs : List Byte) : BitVec 16 := bs.foldl crcByte 0xFFFF#16

/-- A flag byte (R186). -/
def flagByte (b : Bool) : Byte := if b then 1#8 else 0#8

/-- A two's complement number in 4 bytes, taken to the nearer of the bounds of R189. -/
def toBESigned (n : Int) : List Byte :=
  let m : Int := if n < -2147483647 then -2147483647 else if n > 2147483647 then 2147483647 else n
  toBE 4 (m % 4294967296).toNat

/-- The largest value of a 4-byte field. -/
def max32 : Nat := 4294967295

end Sys2Proof.Machine
end

