-- ==== Sys2Proof/Machine/State.lean ====
section
/-! DEFINITION. The state of the part as plain data, every piece of it that the manual names, and its reset values. -/

namespace Sys2Proof.Machine

/-! ### Names of states, kinds, modes and reasons (R186 lists them in order) -/

/-- Site rate (R1, R200). -/
inductive Rate where
  | rate25 | rate30df
  deriving DecidableEq, Repr

/-- Station state (R199, R202). -/
inductive StationState where
  | start | listening | ready | degraded | inert
  deriving DecidableEq, Repr

/-- Time state (R11, R12, R14). -/
inductive TimeState where
  | unset | set | disputed
  deriving DecidableEq, Repr

/-- Reference state (R1 to R3). -/
inductive RefState where
  | pulsed | flywheel
  deriving DecidableEq, Repr

/-- Main state of a beat entry (R65). -/
inductive MainState where
  | onAir | standby | fault
  deriving DecidableEq, Repr

/-- Link state of a relay (R68). -/
inductive LinkState where
  | up | down
  deriving DecidableEq, Repr

/-- Replica state (R17, R49). -/
inductive ReplicaState where
  | empty | loading | current | stale
  deriving DecidableEq, Repr

/-- Stale cause (R49). -/
inductive StaleCause where
  | gap | overflow | diverged | epoch | poolFull | mismatch | handback | restart
  deriving DecidableEq, Repr

/-- Authority over a channel's schedule (R17, R37). -/
inductive Authority where
  | main | site
  deriving DecidableEq, Repr

/-- Source of an anchor (R33). -/
inductive AnchorSource where
  | beat | air
  deriving DecidableEq, Repr

/-- Health of a watched channel (R64, R73). -/
inductive Health where
  | nominal | suspect | failed | linkLost | recovered
  deriving DecidableEq, Repr

/-- Probe verdict (R69, R95). -/
inductive Verdict where
  | nominal | frozen | flat | dark | noSignal | unknown
  deriving DecidableEq, Repr

/-- Contest state (R106). -/
inductive Contest where
  | idle | claiming | deferred | taking | taken
  deriving DecidableEq, Repr

/-- Slot state (R143). -/
inductive SlotState where
  | free | reserved | joining | onAir | holding | fallback
  deriving DecidableEq, Repr

/-- Release reason (R164). -/
inductive ReleaseReason where
  | handback | duplicate | operator | airFault | restart
  deriving DecidableEq, Repr

/-- Join policy (R15). -/
inductive JoinPolicy where
  | joinable | whole
  deriving DecidableEq, Repr

/-- Secondary action (R158). -/
inductive SecAction where
  | pulse | set | clear | toggle
  deriving DecidableEq, Repr

/-- Plan kind (R130). -/
inductive PlanKind where
  | wholeStart | grace | mid | skip | gapSlate | endOfSchedule
  deriving DecidableEq, Repr

/-- Basis of a plan (R128). -/
inductive Basis where
  | anchored | unanchored
  deriving DecidableEq, Repr

/-- As-run kind (R175). -/
inductive AsRunKind where
  | fired | late | cut | skipped | slateFill | restart | serverFault | fallback | take | release
  | handbackAborted | timeStep
  deriving DecidableEq, Repr

/-- Result code of a REPLY (R186). -/
inductive ResultCode where
  | done | notWatched | notOnAirHere | onAirElsewhere | noSlot | notCurrent | timeUnset | notReady | busy
  | locked | notFound | noAnchor | duplicateId | listFull | poolFull | badTime | badOrder | outOfHorizon
  | handbackPending | noBoundary | mainSilent | badCommand
  deriving DecidableEq, Repr

/-- Class of an outgoing message (R182). -/
inductive Cls where
  | zero | one | two
  deriving DecidableEq, Repr

/-! ### Positions, events and channel records -/

/-- A house position: day and frame of day (00 section 5.2, R4). -/
structure Pos where
  day : Nat
  frame : Nat
  deriving DecidableEq, Repr

/-- Kind and source of an event (R15). `live i` is router input `i`, `slate n` slate `n`. -/
inductive Source where
  | clip (material : List Byte) (inPoint : Nat)
  | live (input : Nat)
  | slate (n : Nat)
  deriving DecidableEq, Repr

/-- Start mode, a FIXED event with its stated start (R15). -/
inductive StartMode where
  | fixed (start : Pos)
  | follow
  | locked
  deriving DecidableEq, Repr

/-- End mode, with the duration or planned duration (R15). -/
inductive EndMode where
  | timed (duration : Nat)
  | openEnd (planned : Option Nat)
  deriving DecidableEq, Repr

/-- A secondary cue (R15). `line` 0-3 stands for lines 1-4. -/
structure SecCue where
  offset : Nat
  line : Fin 4
  action : SecAction
  count : Nat
  period : Nat
  deriving DecidableEq, Repr

/-- The stated fields of an event record (R15). -/
structure Stated where
  id : Nat
  source : Source
  start : StartMode
  lockKey : Option Nat
  stop : EndMode
  join : JoinPolicy
  cues : List SecCue
  deriving DecidableEq, Repr

/-- The derived fields of an event record (R16); the resolved flag is computed from `start` and `stop`. -/
structure Derived where
  start : Option Pos
  stop : Option Pos
  eclipsed : Bool
  truncated : Bool
  lateStart : Bool
  gap : Nat
  past : Bool
  deriving DecidableEq, Repr

/-- An event record: its index in the pool (R20), stated and derived fields. -/
structure Rec where
  idx : Nat
  stated : Stated
  derived : Derived
  deriving DecidableEq, Repr

/-- An anchor (R33). -/
structure Anchor where
  event : Nat
  actual : Pos
  source : AnchorSource
  report : Pos
  deriving DecidableEq, Repr

/-- A channel's profile (R18). Cell `i` of the mask is bit `i` counted from the most significant (R188). -/
structure Profile where
  name : List Byte
  slate : Nat
  leader : Option Chan
  preference : List Addr
  dl : Nat
  nd : Nat
  fl : Nat
  fp : Nat
  nf : Nat
  cl : Nat
  cs : Nat
  k : Nat
  nz : Nat
  mask : BitVec 144
  deriving DecidableEq, Repr

/-- The shadow list of an image load (R54, R55): segments in rising index order with their records; `prior` is
the replica state and cause before the load (R57), `age` the frame events since the last accepted segment. -/
structure Shadow where
  imageId : Nat
  epoch : Nat
  base : Nat
  count : Nat
  segments : List (Nat × List Rec)
  profile : Option Profile
  prior : ReplicaState × Option StaleCause
  age : Nat
  deriving DecidableEq, Repr

/-- Stage of an image request (R51). -/
inductive RequestStage where
  | asking | loading | waiting
  deriving DecidableEq, Repr

/-- What has become of the IMAGEREQ to the present target (R53). -/
inductive AskState where
  | unqueued | queued | echoed
  deriving DecidableEq, Repr

/-- The image request context of a channel (R51). -/
structure ImageRequest where
  asked : List Addr
  target : Option Addr
  timer : Nat
  stage : RequestStage
  ask : AskState
  deriving DecidableEq, Repr

/-- A channel record (R17), with the channel's image request (R51). -/
structure ChannelRec where
  watched : Bool
  replica : ReplicaState
  cause : Option StaleCause
  epoch : Nat
  nextSeq : Nat
  authority : Authority
  withheld : Bool
  anchor : Option Anchor
  list : List Rec
  shadow : Option Shadow
  profile : Profile
  request : Option ImageRequest
  deriving DecidableEq, Repr

/-- A parked edit (R40). -/
structure Parked where
  chan : Chan
  epoch : Nat
  seq : Nat
  sender : Addr
  op : Byte
  operands : List Byte
  age : Nat
  deriving DecidableEq, Repr

/-- The image being served (R59): `next` is the index of the segment to build next. -/
structure Serving where
  imageId : Nat
  epoch : Nat
  base : Nat
  count : Nat
  next : Nat
  deriving DecidableEq, Repr

/-! ### Watch records and probe contexts -/

/-- An accepted beat entry (R64, R65). -/
structure BeatEntry where
  epoch : Nat
  main : MainState
  event : Nat
  offset : Nat
  report : Pos
  prepared : Option (Nat × Pos)
  deriving DecidableEq, Repr

/-- An evidence flag (R71). -/
structure EvFlag where
  value : Bool
  since : Pos
  duration : Nat
  deriving DecidableEq, Repr

/-- A verdict source (R69). -/
structure VerdictSource where
  addr : Addr
  verdict : Verdict
  heardAt : Pos
  deriving DecidableEq, Repr

/-- A watch record (R64). -/
structure WatchRec where
  beatTimer : Nat
  lastBeat : Option BeatEntry
  beatLost : EvFlag
  mainFault : EvFlag
  pictureBad : EvFlag
  pictureUnknown : EvFlag
  linkDown : EvFlag
  sources : List VerdictSource
  health : Health
  inhibit : Bool
  orphan : Bool
  deriving DecidableEq, Repr

/-- A probe context (R85). -/
structure Probe where
  chan : Option Chan
  silence : Nat
  lockLoss : Nat
  reference : Option (List Byte)
  gridCount : Nat
  darkRun : Nat
  flatRun : Nat
  freezeRun : Nat
  verdict : Verdict
  mean : Option Nat
  active : Option Nat
  repeatTimer : Nat
  sendPending : Bool
  deriving DecidableEq, Repr

/-! ### Peer records and takeover views -/

/-- A peer record (R102): `heard` says that the station was ever heard, `present` that it is (R105). -/
structure Peer where
  heard : Bool
  present : Bool
  count : Nat
  station : Option StationState
  time : Option TimeState
  freeSlots : Nat
  onAir : List (Chan × Nat)
  current : BitVec 32
  contest : Nat
  link : LinkState
  deriving DecidableEq, Repr

/-- A claim's forced flag and weight (R107, R111). -/
structure Claim where
  forced : Bool
  weight : Nat
  deriving DecidableEq, Repr

/-- A best rival (R106). -/
structure Rival where
  addr : Addr
  claim : Claim
  heardAt : Pos
  deriving DecidableEq, Repr

/-- A pending duplicate (R124). -/
structure Duplicate where
  addr : Addr
  epoch : Nat
  claim : Option Claim
  deriving DecidableEq, Repr

/-- A takeover view (R106). `serial` is the model's own number of the contest's latest CLAIM (log 5). -/
structure View where
  holder : Option Addr
  holderEpoch : Nat
  holderClaim : Option Claim
  contest : Contest
  own : Option Claim
  serial : Nat
  window : Option Nat
  rival : Option Rival
  exclusions : List (Addr × Pos)
  ineligible : Option Pos
  orphanSource : Option Addr
  duplicate : Option Duplicate
  deriving DecidableEq, Repr

/-! ### Slot contexts -/

/-- A join plan, kept by the slot as its join cue (R131, R137). `material` is the position a CLIP is cued at. -/
structure Plan where
  kind : PlanKind
  basis : Basis
  join : Pos
  event : Option Nat
  offset : Nat
  source : Source
  material : Option Nat
  actual : Option Pos
  fillEnd : Option Pos
  deriving DecidableEq, Repr

/-- A current cue (R143, R147). `event` is none for a fill; `anchored` is the start occurrences are reckoned
from and `cues` the secondary cues that yield them (R157; empty where the fire generates none). -/
structure Cue where
  event : Option Nat
  source : Source
  firePos : Pos
  actual : Pos
  material : Option Nat
  cueEnd : Option Pos
  anchored : Pos
  cues : List SecCue
  deriving DecidableEq, Repr

/-- An armed next cue (R143, R148). `cueOwed` says that its CUE word is still to be issued at step 9 (R146). -/
structure Armed where
  event : Nat
  firePos : Pos
  armedAt : Pos
  lateBy : Nat
  locked : Bool
  skipped : List Nat
  cueOwed : Bool
  deriving DecidableEq, Repr

/-- A pending occurrence (R157): due position, line and action, with the cue's place and the repeat index. -/
structure Occ where
  due : Pos
  line : Fin 4
  action : SecAction
  cue : Nat
  rep : Nat
  deriving DecidableEq, Repr

/-- A handback plan (R170). -/
structure HandbackPlan where
  event : Nat
  boundary : Pos
  returnEpoch : Nat
  noticeSent : Bool
  committed : Bool
  deriving DecidableEq, Repr

/-- A slot context (R143). `fired`, `faultDue` and `stepsDone` are the model's own marks of how far the slot's
work of the open frame event has gone (log 1). `sincePlay` counts the frame events since the PLAY whose confirm window is
open (R13's last words, R1; log 28). -/
structure Slot where
  state : SlotState
  chan : Option Chan
  epoch : Option Nat
  join : Option Plan
  joinOwed : Bool
  cur : Option Cue
  armed : Option Armed
  pending : List Occ
  nextRepeat : List Nat
  lines : Vector Bool 4
  pulsed : Vector Bool 4
  expectedBy : Option Pos
  sincePlay : Nat
  restarts : Nat
  restartPlay : Option Pos
  faultPending : Bool
  faultDue : Bool
  tally : Bool
  highSincePlay : Bool
  confirmed : Bool
  playPos : Option Pos
  firedSeq : Option Nat
  fallbackSince : Option Pos
  handback : Option HandbackPlan
  releasePending : Option ReleaseReason
  owedFill : Option Nat
  fired : Bool
  stepsDone : Nat
  deriving DecidableEq, Repr

/-! ### Log, line and outputs -/

/-- An as-run entry (R175). -/
structure AsRun where
  seq : Nat
  pos : Pos
  kind : AsRunKind
  slot : Option SlotId
  chan : Option Chan
  event : Option Nat
  lateness : Option Int
  tally : Option Pos
  reason : Option ReleaseReason
  deriving DecidableEq, Repr

/-- An outgoing message (R182, R187). A BEACON's contents are filled in when it begins to be sent (R103).
`ofPhase` marks a RELEASE of a soft restart's release phase (R203). -/
inductive OutMsg where
  | claim (c : Chan) (claim : Claim) (serial : Nat)
  | take (c : Chan) (claim : Claim) (epoch : Nat)
  | release (c : Chan) (reason : ReleaseReason) (pos : Pos) (returnEpoch : Option Nat) (ofPhase : Bool)
  | handover (c : Chan) (event : Nat) (boundary : Pos) (returnEpoch : Nat) (cancel : Bool)
  | beacon
  | verdict (c : Chan) (v : Verdict)
  | edit (c : Chan) (epoch seq : Nat) (op : Byte) (operands : List Byte)
  | imagereq (c : Chan) (dst : Addr)
  | reply (dst : Addr) (tag : Nat) (code : ResultCode) (part count : Nat) (items : List Byte)
  | image (dst : Addr) (c : Chan) (epoch imageId base index count records : Nat) (body : List Byte)
  | imageNone (dst : Addr) (chan : Byte) (fresh : Nat)
  deriving DecidableEq, Repr

/-- An entry of a class queue: the message, and whether it has begun to be sent (R182). -/
structure QEntry where
  msg : OutMsg
  begun : Bool
  deriving DecidableEq, Repr

/-- A running ladder wait (R181): the class it was worked out for and its length in gap units. -/
structure Wait where
  cls : Cls
  units : Nat
  deriving DecidableEq, Repr

/-- A cue word (R145). -/
inductive CueWord where
  | cue (material : List Byte) (position : Nat)
  | play
  | stop
  | route (input : Nat)
  | slate (n : Nat)
  | line (l : Fin 4) (on : Bool)
  deriving DecidableEq, Repr

/-- What the part drives: a cue word on a server port, or a message started on the line. -/
inductive Output where
  | word (n : SlotId) (w : CueWord)
  | line (bytes : List Byte)
  deriving DecidableEq, Repr

/-! ### The blocks and the whole state -/

/-- The values of the configuration memory (R200). -/
structure Settings where
  rate : Rate
  watch : BitVec 32
  probeMap : Vector (Option Chan) 4
  tb : Nat
  tu : Nat
  tp : Nat
  tr : Nat
  ta : Nat
  tw : Nat
  lead : Nat
  tailMargin : Nat
  grace : Nat
  armLead : Nat
  lockLead : Nat
  confirm : Nat
  handbackLead : Nat
  deriving DecidableEq, Repr

/-- The time base (R14). `sinceFrame` and `sinceMark` count 1/60,000 s from the last frame event and from the
mark that loss is measured from (R1 to R3); `frameOpen` is the model's own mark that a frame event's work is
not finished (log 1). -/
structure TimeBase where
  running : Bool
  pos : Pos
  timeState : TimeState
  refState : RefState
  pendingMark : Option Pos
  sinceFrame : Nat
  sinceMark : Nat
  frameOpen : Bool
  deriving DecidableEq, Repr

/-- The start-up loader (R198 to R203). `releasePhase` counts frame events since the phase began. -/
structure Loader where
  station : StationState
  resetHeld : Bool
  cold : Bool
  address : Option Addr
  clamped : Bool
  defaulted : Bool
  listening : Nat
  releasePhase : Option Nat
  cfg : Settings
  deriving DecidableEq, Repr

/-- The replication unit's queues (R40, R58, R59). -/
structure Replication where
  parked : List Parked
  service : List (Addr × Chan)
  serving : Option Serving
  zeroAnswers : List (Addr × Byte)
  imageId : Nat
  deriving DecidableEq, Repr

/-- The claim engine's station-wide items (R106) and the model's own number of the last CLAIM (log 5). -/
structure ClaimEngine where
  current : Option Chan
  latch : Option Chan
  serial : Nat
  deriving DecidableEq, Repr

/-- The line interface (R181 to R190), with the release outbox (R166) and the cancels waiting (R174). `receiving` says
that another station's message is on the line, and `spoilt` that it was so when the station entered START, or began in
START or INERT, so that it is discarded (R179, log 7). -/
structure Line where
  q0 : List QEntry
  q1 : List QEntry
  q2 : List QEntry
  courtesy1 : Bool
  courtesy2 : Bool
  idle : Bool
  wait : Option Wait
  sending : Option Cls
  receiving : Bool
  spoilt : Bool
  beaconHeld : Bool
  beaconTimer : Nat
  outbox : List OutMsg
  cancels : List OutMsg
  deriving DecidableEq, Repr

/-- The state of the part. -/
structure State where
  pending : List Instr
  out : List Output
  freeCount : Nat
  time : TimeBase
  loader : Loader
  free : List Nat
  chans : Vector ChannelRec 32
  repl : Replication
  watch : Vector (Option WatchRec) 32
  probes : Vector Probe 4
  peers : Vector Peer 30
  views : Vector View 32
  claims : ClaimEngine
  slots : Vector Slot 8
  log : List AsRun
  logNext : Nat
  line : Line
  deriving DecidableEq, Repr

/-! ### Outcomes that stop the machine -/

/-- Faults. The manual names no event that stops the part, so no command raises one (safe: nothing is cut off). -/
inductive Fault where
  deriving DecidableEq, Repr

/-- Refusals. -/
inductive Refusal where
  /-- Raised by `exec` for a row whose meaning is not written; safe. -/
  | notModelled (mnemonic : String)
  deriving DecidableEq, Repr

/-! ### Full-reset values -/

/-- The profile with every field at its default (R18). -/
def Profile.default : Profile :=
  { name := [], slate := 1, leader := none, preference := [], dl := 24, nd := 50, fl := 6, fp := 1, nf := 50,
    cl := 3, cs := 2, k := 4, nz := 75, mask := 0 }

/-- The defaults of R200. -/
def Settings.default : Settings :=
  { rate := .rate25, watch := 0, probeMap := Vector.replicate 4 none, tb := 50, tu := 125, tp := 250, tr := 250,
    ta := 250, tw := 6, lead := 12, tailMargin := 50, grace := 3, armLead := 50, lockLead := 8, confirm := 4,
    handbackLead := 250 }

/-- R14. -/
def TimeBase.reset : TimeBase :=
  { running := false, pos := ⟨0, 0⟩, timeState := .unset, refState := .flywheel, pendingMark := none,
    sinceFrame := 0, sinceMark := 0, frameOpen := false }

/-- R198, R199, with the reset pin still held (log 3). -/
def Loader.reset : Loader :=
  { station := .start, resetHeld := true, cold := true, address := none, clamped := false, defaulted := false,
    listening := 0, releasePhase := none, cfg := Settings.default }

/-- R36. -/
def ChannelRec.reset : ChannelRec :=
  { watched := false, replica := .empty, cause := none, epoch := 0, nextSeq := 0, authority := .main,
    withheld := false, anchor := none, list := [], shadow := none, profile := Profile.default, request := none }

/-- R63. -/
def Replication.reset : Replication :=
  { parked := [], service := [], serving := none, zeroAnswers := [], imageId := 0 }

/-- R101. -/
def Probe.reset : Probe :=
  { chan := none, silence := 0, lockLoss := 0, reference := none, gridCount := 0, darkRun := 0, flatRun := 0,
    freezeRun := 0, verdict := .unknown, mean := none, active := none, repeatTimer := 0, sendPending := false }

/-- R126. -/
def Peer.reset : Peer :=
  { heard := false, present := false, count := 0, station := none, time := none, freeSlots := 0, onAir := [],
    current := 0, contest := 0, link := .down }

/-- R126. -/
def View.reset : View :=
  { holder := none, holderEpoch := 0, holderClaim := none, contest := .idle, own := none, serial := 0,
    window := none, rival := none, exclusions := [], ineligible := none, orphanSource := none, duplicate := none }

/-- R163, for a slot whose tally input stands at `tally`. -/
def Slot.reset (tally : Bool) : Slot :=
  { state := .free, chan := none, epoch := none, join := none, joinOwed := false, cur := none, armed := none,
    pending := [], nextRepeat := [], lines := Vector.replicate 4 false, pulsed := Vector.replicate 4 false,
    expectedBy := none, sincePlay := 0, restarts := 0, restartPlay := none, faultPending := false, faultDue := false,
    tally := tally, highSincePlay := false, confirmed := false, playPos := none, firedSeq := none,
    fallbackSince := none, handback := none, releasePending := none, owedFill := none, fired := false,
    stepsDone := 0 }

/-- R178, R190. -/
def Line.reset : Line :=
  { q0 := [], q1 := [], q2 := [], courtesy1 := false, courtesy2 := false, idle := false, wait := none,
    sending := none, receiving := false, spoilt := false, beaconHeld := false, beaconTimer := 0, outbox := [], cancels := [] }

/-- R126. -/
def ClaimEngine.reset : ClaimEngine := { current := none, latch := none, serial := 0 }

/-- The part right after a full reset, the pin still held: every block at its full-reset values (R198). -/
def State.reset : State :=
  { pending := [], out := [], freeCount := 0, time := TimeBase.reset, loader := Loader.reset,
    free := List.range 2048, chans := Vector.replicate 32 ChannelRec.reset, repl := Replication.reset,
    watch := Vector.replicate 32 none, probes := Vector.replicate 4 Probe.reset,
    peers := Vector.replicate 30 Peer.reset, views := Vector.replicate 32 View.reset,
    claims := ClaimEngine.reset, slots := Vector.replicate 8 (Slot.reset false), log := [], logNext := 0,
    line := Line.reset }

end Sys2Proof.Machine
end

