-- ==== Sys2Proof/Machine/Codes.lean ====
section
/-! DEFINITION. The places of the named values in their sets, counted from 1 (R186), both ways. -/

namespace Sys2Proof.Machine

/-- A channel from its number 1-32 (00 section 5.3). -/
def chanOf (n : Nat) : Option Chan :=
  if h : 1 ≤ n ∧ n ≤ 32 then some ⟨n - 1, by omega⟩ else none

/-- The manual's number of a channel. -/
def chanNo (c : Chan) : Nat := c.val + 1

/-- A channel's number, 0 for none (R189). -/
def chanNo? (c : Option Chan) : Nat := c.elim 0 chanNo

def Rate.ofCode : Nat → Option Rate
  | 1 => some .rate25 | 2 => some .rate30df | _ => none

def StationState.code : StationState → Nat
  | .start => 1 | .listening => 2 | .ready => 3 | .degraded => 4 | .inert => 5

def StationState.ofCode : Nat → Option StationState
  | 1 => some .start | 2 => some .listening | 3 => some .ready | 4 => some .degraded | 5 => some .inert | _ => none

def TimeState.code : TimeState → Nat
  | .unset => 1 | .set => 2 | .disputed => 3

def TimeState.ofCode : Nat → Option TimeState
  | 1 => some .unset | 2 => some .set | 3 => some .disputed | _ => none

def RefState.code : RefState → Nat
  | .pulsed => 1 | .flywheel => 2

def RefState.ofCode : Nat → Option RefState
  | 1 => some .pulsed | 2 => some .flywheel | _ => none

def MainState.code : MainState → Nat
  | .onAir => 1 | .standby => 2 | .fault => 3

def MainState.ofCode : Nat → Option MainState
  | 1 => some .onAir | 2 => some .standby | 3 => some .fault | _ => none

def LinkState.code : LinkState → Nat
  | .up => 1 | .down => 2

def LinkState.ofCode : Nat → Option LinkState
  | 1 => some .up | 2 => some .down | _ => none

def ReplicaState.code : ReplicaState → Nat
  | .empty => 1 | .loading => 2 | .current => 3 | .stale => 4

def StaleCause.code : StaleCause → Nat
  | .gap => 1 | .overflow => 2 | .diverged => 3 | .epoch => 4 | .poolFull => 5 | .mismatch => 6 | .handback => 7
  | .restart => 8

def Authority.code : Authority → Nat
  | .main => 1 | .site => 2

def AnchorSource.code : AnchorSource → Nat
  | .beat => 1 | .air => 2

def Health.code : Health → Nat
  | .nominal => 1 | .suspect => 2 | .failed => 3 | .linkLost => 4 | .recovered => 5

def Verdict.code : Verdict → Nat
  | .nominal => 1 | .frozen => 2 | .flat => 3 | .dark => 4 | .noSignal => 5 | .unknown => 6

def Verdict.ofCode : Nat → Option Verdict
  | 1 => some .nominal | 2 => some .frozen | 3 => some .flat | 4 => some .dark | 5 => some .noSignal
  | 6 => some .unknown | _ => none

def Contest.code : Contest → Nat
  | .idle => 1 | .claiming => 2 | .deferred => 3 | .taking => 4 | .taken => 5

def SlotState.code : SlotState → Nat
  | .free => 1 | .reserved => 2 | .joining => 3 | .onAir => 4 | .holding => 5 | .fallback => 6

def ReleaseReason.code : ReleaseReason → Nat
  | .handback => 1 | .duplicate => 2 | .operator => 3 | .airFault => 4 | .restart => 5

def ReleaseReason.ofCode : Nat → Option ReleaseReason
  | 1 => some .handback | 2 => some .duplicate | 3 => some .operator | 4 => some .airFault | 5 => some .restart
  | _ => none

def JoinPolicy.code : JoinPolicy → Nat
  | .joinable => 1 | .whole => 2

def JoinPolicy.ofCode : Nat → Option JoinPolicy
  | 1 => some .joinable | 2 => some .whole | _ => none

def SecAction.code : SecAction → Nat
  | .pulse => 1 | .set => 2 | .clear => 3 | .toggle => 4

def SecAction.ofCode : Nat → Option SecAction
  | 1 => some .pulse | 2 => some .set | 3 => some .clear | 4 => some .toggle | _ => none

def PlanKind.code : PlanKind → Nat
  | .wholeStart => 1 | .grace => 2 | .mid => 3 | .skip => 4 | .gapSlate => 5 | .endOfSchedule => 6

def Basis.code : Basis → Nat
  | .anchored => 1 | .unanchored => 2

def AsRunKind.code : AsRunKind → Nat
  | .fired => 1 | .late => 2 | .cut => 3 | .skipped => 4 | .slateFill => 5 | .restart => 6 | .serverFault => 7
  | .fallback => 8 | .take => 9 | .release => 10 | .handbackAborted => 11 | .timeStep => 12

def ResultCode.code : ResultCode → Nat
  | .done => 1 | .notWatched => 2 | .notOnAirHere => 3 | .onAirElsewhere => 4 | .noSlot => 5 | .notCurrent => 6
  | .timeUnset => 7 | .notReady => 8 | .busy => 9 | .locked => 10 | .notFound => 11 | .noAnchor => 12
  | .duplicateId => 13 | .listFull => 14 | .poolFull => 15 | .badTime => 16 | .badOrder => 17 | .outOfHorizon => 18
  | .handbackPending => 19 | .noBoundary => 20 | .mainSilent => 21 | .badCommand => 22

/-- Message kinds (R186). -/
inductive Kind where
  | airbeat | timemark | relaystate | edit | image | imagereq | beacon | verdict | claim | take | release
  | handover | command | reply
  deriving DecidableEq, Repr

def Kind.code : Kind → Nat
  | .airbeat => 1 | .timemark => 2 | .relaystate => 3 | .edit => 4 | .image => 5 | .imagereq => 6 | .beacon => 7
  | .verdict => 8 | .claim => 9 | .take => 10 | .release => 11 | .handover => 12 | .command => 13 | .reply => 14

def Kind.ofCode : Nat → Option Kind
  | 1 => some .airbeat | 2 => some .timemark | 3 => some .relaystate | 4 => some .edit | 5 => some .image
  | 6 => some .imagereq | 7 => some .beacon | 8 => some .verdict | 9 => some .claim | 10 => some .take
  | 11 => some .release | 12 => some .handover | 13 => some .command | 14 => some .reply | _ => none

/-- A flag byte, none for a value that is neither 0 nor 1 (R186). -/
def flagOf : Nat → Option Bool
  | 0 => some false | 1 => some true | _ => none

end Sys2Proof.Machine
end

