-- ==== Sys2Proof/Machine/Time.lean ====
section
/-! DEFINITION. Positions and timecode: the ring comparison, the horizon and the label conversions (R4 to R9). -/

namespace Sys2Proof.Machine

/-- Frames in a day, FPD (00 section 5.2). -/
def Rate.fpd : Rate → Nat
  | .rate25 => 2160000
  | .rate30df => 2589408

/-- The nominal frame period in units of 1/60,000 s (R1): 40 ms, or 1001/30000 s. -/
def Rate.period : Rate → Nat
  | .rate25 => 2400
  | .rate30df => 2002

/-- Half a period (R1). -/
def Rate.half (r : Rate) : Nat := r.period / 2

/-- One and a half periods (R2). -/
def Rate.loss (r : Rate) : Nat := r.period + r.period / 2

/-- The number of absolute frames, 65,536 x FPD (R5). -/
def Rate.ring (r : Rate) : Nat := 65536 * r.fpd

/-- The absolute frame of a position (R5). -/
def Pos.abs (r : Rate) (p : Pos) : Nat := p.day * r.fpd + p.frame

/-- The position of an absolute frame, taken on the ring (R5). -/
def Pos.ofAbs (r : Rate) (n : Nat) : Pos := ⟨n / r.fpd % 65536, n % r.fpd⟩

/-- The difference from `y` to `x` (R5). -/
def Pos.diff (r : Rate) (y x : Pos) : Int :=
  let d : Int := ((x.abs r : Int) - (y.abs r : Int)) % (r.ring : Int)
  if d < (32768 * r.fpd : Nat) then d else d - (r.ring : Int)

/-- `x` is at or past `y` (R5). -/
def Pos.atOrPast (r : Rate) (x y : Pos) : Bool := decide (0 ≤ Pos.diff r y x)

/-- `x` is after `y` (R5). -/
def Pos.after (r : Rate) (x y : Pos) : Bool := decide (0 < Pos.diff r y x)

/-- `x` is before `y` (R5). -/
def Pos.before (r : Rate) (x y : Pos) : Bool := decide (Pos.diff r y x < 0)

/-- The position `n` frames after `p` (R5). -/
def Pos.add (r : Rate) (p : Pos) (n : Nat) : Pos := Pos.ofAbs r (p.abs r + n)

/-- The position `n` frames before `p` (R5). -/
def Pos.sub (r : Rate) (p : Pos) (n : Nat) : Pos :=
  Pos.ofAbs r (((p.abs r : Int) - (n : Int)) % (r.ring : Int)).toNat

/-- The earlier of two positions (R5). -/
def Pos.earlier (r : Rate) (x y : Pos) : Pos := if Pos.before r y x then y else x

/-- The later of two positions (R5). -/
def Pos.later (r : Rate) (x y : Pos) : Pos := if Pos.after r y x then y else x

/-- The earlier of two positions that may be unresolved, using whichever is resolved (R27). -/
def Pos.earlier? (r : Rate) : Option Pos → Option Pos → Option Pos
  | some x, some y => some (Pos.earlier r x y)
  | some x, none => some x
  | none, y => y

/-- The one-frame advance of R4: frame of day, then day, each wrapping at its top. -/
def Pos.succ (r : Rate) (p : Pos) : Pos :=
  if p.frame + 1 ≥ r.fpd then ⟨if p.day ≥ 65535 then 0 else p.day + 1, 0⟩ else ⟨p.day, p.frame + 1⟩

/-- A position in its ranges (00 section 5.2). -/
def Pos.valid (r : Rate) (p : Pos) : Bool := decide (p.day < 65536) && decide (p.frame < r.fpd)

/-- Within the schedule horizon at `now` (R6). -/
def Pos.inHorizon (r : Rate) (now p : Pos) : Bool :=
  let d := Pos.diff r now p
  decide (-(r.fpd : Int) ≤ d) && decide (d ≤ 14 * (r.fpd : Int))

/-- A timecode label. -/
structure Label where
  hh : Nat
  mm : Nat
  ss : Nat
  ff : Nat
  deriving DecidableEq, Repr

/-- R7: the frame of day of a label at RATE25. -/
def Label.frame25 (l : Label) : Option Nat :=
  if l.hh ≤ 23 && l.mm ≤ 59 && l.ss ≤ 59 && l.ff ≤ 24 then
    some (((l.hh * 60 + l.mm) * 60 + l.ss) * 25 + l.ff)
  else none

/-- R8: a label that drop-frame timecode leaves out is read with FF 2. -/
def Label.dropFF (l : Label) : Nat :=
  if l.mm % 10 ≠ 0 ∧ l.ss = 0 ∧ l.ff < 2 then 2 else l.ff

/-- R8: the frame of day of a label at RATE30DF. -/
def Label.frame30 (l : Label) : Option Nat :=
  if l.hh ≤ 23 && l.mm ≤ 59 && l.ss ≤ 59 && l.ff ≤ 29 then
    some (107892 * l.hh + 17982 * (l.mm / 10) +
      (if l.mm % 10 = 0 then l.ss * 30 + l.ff
       else 1800 + (l.mm % 10 - 1) * 1798 + l.ss * 30 + l.dropFF - 2))
  else none

/-- The frame of day of a label at the site rate, none for BAD TIME (R7, R8). -/
def Label.toFrame : Rate → Label → Option Nat
  | .rate25, l => l.frame25
  | .rate30df, l => l.frame30

/-- R9: the label of a frame of day. -/
def Label.ofFrame : Rate → Nat → Label
  | .rate25, f => ⟨f / 90000, f % 90000 / 1500, f % 1500 / 25, f % 25⟩
  | .rate30df, f =>
    let m := f % 107892
    let d := m / 17982
    let m' := m % 17982
    if m' < 1800 then ⟨f / 107892, 10 * d, m' / 30, m' % 30⟩
    else
      let q := (m' - 1800) % 1798 + 2
      ⟨f / 107892, 10 * d + 1 + (m' - 1800) / 1798, q / 30, q % 30⟩

end Sys2Proof.Machine
end

