-- ==== Sys2Proof/Machine/Record.lean ====
section
/-! DEFINITION. Event records and profiles on the line, and the form checks on them (R15, R18, R43, R188). -/

namespace Sys2Proof.Machine

/-- A secondary cue as carried. -/
structure RawCue where
  offset : Nat
  line : Nat
  action : Nat
  count : Nat
  period : Nat
  deriving DecidableEq, Repr

/-- An event record as carried, before its ranges are judged. `stated` is the day and the label. -/
structure RawRecord where
  id : Nat
  startMode : Nat
  endMode : Nat
  join : Nat
  presence : Nat
  stated : Option (Nat × Label)
  lockKey : Option Nat
  duration : Option Nat
  source : Source
  cues : List RawCue
  deriving DecidableEq, Repr

/-- A stated start of 6 bytes: day, HH, MM, SS, FF (R186). -/
def readStated (bs : List Byte) : Option ((Nat × Label) × List Byte) := do
  let (day, bs) ← readNat 2 bs
  let (hh, bs) ← readNat 1 bs
  let (mm, bs) ← readNat 1 bs
  let (ss, bs) ← readNat 1 bs
  let (ff, bs) ← readNat 1 bs
  some ((day, ⟨hh, mm, ss, ff⟩), bs)

/-- The source field of a record of kind `k` (R188); none when no kind bears that code. -/
def readSource (k : Nat) (bs : List Byte) : Option (Source × List Byte) :=
  match k with
  | 1 => do
    let (n, bs) ← readNat 1 bs
    let (m, bs) ← takeBytes n bs
    let (p, bs) ← readNat 4 bs
    some (.clip m p, bs)
  | 2 => (readNat 2 bs).map fun p => (.live p.1, p.2)
  | 3 => (readNat 1 bs).map fun p => (.slate p.1, p.2)
  | _ => none

/-- One secondary cue of 9 bytes (R188). -/
def readCue (bs : List Byte) : Option (RawCue × List Byte) := do
  let (off, bs) ← readNat 4 bs
  let (line, bs) ← readNat 1 bs
  let (act, bs) ← readNat 1 bs
  let (cnt, bs) ← readNat 1 bs
  let (per, bs) ← readNat 2 bs
  some (⟨off, line, act, cnt, per⟩, bs)

/-- `n` secondary cues. -/
def readCues : Nat → List Byte → Option (List RawCue × List Byte)
  | 0, bs => some ([], bs)
  | n + 1, bs => do
    let (c, bs) ← readCue bs
    let (cs, bs) ← readCues n bs
    some (c :: cs, bs)

/-- An event record off the front of a payload (R188); none when its fields run past the end. -/
def readRecord (bs : List Byte) : Option (RawRecord × List Byte) := do
  let (id, bs) ← readNat 4 bs
  let (kind, bs) ← readNat 1 bs
  let (sm, bs) ← readNat 1 bs
  let (em, bs) ← readNat 1 bs
  let (jp, bs) ← readNat 1 bs
  let (pres, bs) ← readNat 1 bs
  let (stated, bs) ← if pres % 2 = 1 then (readStated bs).map fun p => (some p.1, p.2) else some (none, bs)
  let (key, bs) ← readWhen (pres / 2 % 2 = 1) 4 bs
  let (dur, bs) ← readWhen (pres / 4 % 2 = 1) 4 bs
  let (src, bs) ← readSource kind bs
  let (n, bs) ← readNat 1 bs
  let (cues, bs) ← readCues n bs
  some (⟨id, sm, em, jp, pres, stated, key, dur, src, cues⟩, bs)

/-- A printable character (R15, R18): 32-126 (PRESUMED, log 12). -/
def printable (b : Byte) : Bool := decide (32 ≤ b.toNat) && decide (b.toNat ≤ 126)

/-- The source's fields in their ranges, other than the in-point (R15, R43 step 1). -/
def Source.formed : Source → Bool
  | .clip m _ => decide (1 ≤ m.length) && decide (m.length ≤ 24) && m.all printable
  | .live i => decide (1 ≤ i) && decide (i ≤ 256)
  | .slate n => decide (1 ≤ n) && decide (n ≤ 16)

/-- A secondary cue's fields in their ranges, other than the offset (R15). The period is ignored at count 1. -/
def RawCue.formed (c : RawCue) : Bool :=
  decide (1 ≤ c.line) && decide (c.line ≤ 4) && (SecAction.ofCode c.action).isSome &&
    decide (1 ≤ c.count) && decide (c.count ≤ 16) && (decide (c.count = 1) || decide (1 ≤ c.period))

/-- Step 1 of R43 for a record: the fields its modes call for are present, none they exclude, each but the time
fields in its range. -/
def RawRecord.formed (r : RawRecord) : Bool :=
  decide (1 ≤ r.id) && decide (r.presence < 8) && r.source.formed && (JoinPolicy.ofCode r.join).isSome &&
    decide (r.cues.length ≤ 4) && r.cues.all RawCue.formed &&
    (match r.startMode with
      | 1 => r.stated.isSome
      | 2 => r.stated.isNone
      | 3 => r.stated.isNone && r.lockKey.isSome
      | _ => false) &&
    (match r.endMode with
      | 1 => r.duration.isSome
      | 2 => true
      | _ => false)

/-- A duration in 1 to FPD (R15, R43 step 2). -/
def durationOk (r : Rate) (d : Nat) : Bool := decide (1 ≤ d) && decide (d ≤ r.fpd)

/-- The position of a carried stated start (R7, R8). -/
def statedPos (rate : Rate) (s : Nat × Label) : Option Pos :=
  (s.2.toFrame rate).map fun f => ⟨s.1, f⟩

/-- Step 2 of R43 for a record: the time fields are legal. -/
def RawRecord.timely (rate : Rate) (r : RawRecord) : Bool :=
  (match r.stated with
    | some s => (statedPos rate s).isSome
    | none => true) &&
  (match r.duration with
    | some d => durationOk rate d
    | none => true) &&
  (match r.source with
    | .clip _ p => decide (p < rate.fpd)
    | _ => true) &&
  r.cues.all fun c => decide (c.offset < rate.fpd)

/-- The stated fields of a record that passed steps 1 and 2. -/
def RawRecord.stated! (rate : Rate) (r : RawRecord) : Stated :=
  { id := r.id
    source := r.source
    start := match r.startMode, r.stated with
      | 1, some s => .fixed ((statedPos rate s).getD ⟨0, 0⟩)
      | 3, _ => .locked
      | _, _ => .follow
    lockKey := r.lockKey
    stop := match r.endMode, r.duration with
      | 1, some d => .timed d
      | _, d => .openEnd d
    join := (JoinPolicy.ofCode r.join).getD .joinable
    cues := r.cues.map fun c =>
      { offset := c.offset, line := ⟨(c.line - 1) % 4, Nat.mod_lt _ (by decide)⟩,
        action := (SecAction.ofCode c.action).getD .pulse, count := c.count, period := c.period } }

/-- Steps 1 and 2 of R43 for a record. -/
def RawRecord.judge (rate : Rate) (r : RawRecord) : Except ResultCode Stated :=
  if !r.formed then .error .badCommand
  else if !r.timely rate then .error .badTime
  else .ok (r.stated! rate)

/-- A position in 5 bytes (R186). -/
def Pos.bytes (p : Pos) : List Byte := toBE 2 p.day ++ toBE 3 p.frame

/-- A label's four bytes. -/
def Label.bytes (l : Label) : List Byte := toBE 1 l.hh ++ toBE 1 l.mm ++ toBE 1 l.ss ++ toBE 1 l.ff

/-- The kind code of a source (R186). -/
def Source.code : Source → Nat
  | .clip _ _ => 1 | .live _ => 2 | .slate _ => 3

/-- The source field as sent (R188). -/
def Source.bytes : Source → List Byte
  | .clip m p => toBE 1 m.length ++ m ++ toBE 4 p
  | .live i => toBE 2 i
  | .slate n => toBE 1 n

/-- A secondary cue as sent (R188). -/
def SecCue.bytes (c : SecCue) : List Byte :=
  toBE 4 c.offset ++ toBE 1 (c.line.val + 1) ++ toBE 1 c.action.code ++ toBE 1 c.count ++ toBE 2 c.period

/-- The duration field of an end mode (R188). -/
def EndMode.field : EndMode → Option Nat
  | .timed d => some d
  | .openEnd p => p

/-- An event record as sent (R188), its stated start as the label of its frame (R9). -/
def Stated.bytes (rate : Rate) (st : Stated) : List Byte :=
  let sm := match st.start with | .fixed _ => 1 | .follow => 2 | .locked => 3
  let em := match st.stop with | .timed _ => 1 | .openEnd _ => 2
  let fixed := match st.start with
    | .fixed p => toBE 2 p.day ++ (Label.ofFrame rate p.frame).bytes
    | _ => []
  let pres := (match st.start with | .fixed _ => 1 | _ => 0) + (if st.lockKey.isSome then 2 else 0) +
    (if st.stop.field.isSome then 4 else 0)
  toBE 4 st.id ++ toBE 1 st.source.code ++ toBE 1 sm ++ toBE 1 em ++ toBE 1 st.join.code ++ toBE 1 pres ++
    fixed ++ (st.lockKey.elim [] (toBE 4)) ++ (st.stop.field.elim [] (toBE 4)) ++ st.source.bytes ++
    toBE 1 st.cues.length ++ st.cues.flatMap SecCue.bytes

/-- A profile as carried (R188). -/
structure RawProfile where
  name : List Byte
  slate : Nat
  leader : Nat
  preference : List Nat
  levels : List Nat
  mask : Nat
  deriving DecidableEq, Repr

/-- A profile off the front of a payload (R188); none when a field is missing. -/
def readProfile (bs : List Byte) : Option (RawProfile × List Byte) := do
  let (n, bs) ← readNat 1 bs
  let (name, bs) ← takeBytes n bs
  let (slate, bs) ← readNat 1 bs
  let (leader, bs) ← readNat 1 bs
  let (pref, bs) ← takeBytes 4 bs
  let (levels, bs) ← takeBytes 9 bs
  let (mask, bs) ← readNat 18 bs
  some (⟨name, slate, leader, pref.map BitVec.toNat, levels.map BitVec.toNat, mask⟩, bs)

/-- The nearer bound (R18, R201). -/
def clamp (lo hi n : Nat) : Nat := max lo (min hi n)

/-- The first of each address, 1-16 only (R18). -/
def distinctPeers : List Nat → List Addr → List Addr
  | [], acc => acc
  | a :: as, acc =>
    if 1 ≤ a ∧ a ≤ 16 ∧ a ∉ acc then distinctPeers as (acc ++ [a]) else distinctPeers as acc

/-- The profile as stored, each value clamped silently (R18). -/
def RawProfile.store (p : RawProfile) : Profile :=
  let lv := fun i => p.levels.getD i 0
  { name := p.name.take 12, slate := clamp 1 16 p.slate, leader := chanOf p.leader,
    preference := distinctPeers p.preference [],
    dl := clamp 0 255 (lv 0), nd := clamp 1 250 (lv 1), fl := clamp 0 63 (lv 2), fp := clamp 0 3 (lv 3),
    nf := clamp 1 250 (lv 4), cl := clamp 1 63 (lv 5), cs := clamp 1 144 (lv 6), k := clamp 1 64 (lv 7),
    nz := clamp 1 250 (lv 8), mask := BitVec.ofNat 144 p.mask }

/-- A profile as sent (R188). -/
def Profile.bytes (p : Profile) : List Byte :=
  toBE 1 p.name.length ++ p.name ++ toBE 1 p.slate ++ toBE 1 (chanNo? p.leader) ++
    ((List.range 4).map fun i => BitVec.ofNat 8 (p.preference.getD i 0)) ++
    toBE 1 p.dl ++ toBE 1 p.nd ++ toBE 1 p.fl ++ toBE 1 p.fp ++ toBE 1 p.nf ++ toBE 1 p.cl ++ toBE 1 p.cs ++
    toBE 1 p.k ++ toBE 1 p.nz ++ toBE 18 p.mask.toNat

/-- Whether cell `i` is masked (R86, R188). -/
def Profile.masked (p : Profile) (i : Nat) : Bool := p.mask.getMsbD i

end Sys2Proof.Machine
end

