-- ==== Sys2Proof/Machine/Message.lean ====
section
/-! DEFINITION. Messages on the line: the receive checks, the layouts, and messages as sent (R180, R185 to R188). -/

namespace Sys2Proof.Machine

/-- A channel entry of an AIRBEAT as carried (R187). -/
structure RawBeat where
  chan : Nat
  epoch : Nat
  main : Nat
  event : Nat
  offset : Nat
  report : Pos
  present : Nat
  preparedEvent : Nat
  preparedPos : Pos
  deriving DecidableEq, Repr

/-- A BEACON as carried (R187). -/
structure RawBeacon where
  station : Nat
  time : Nat
  ref : Nat
  flags : Nat
  freeSlots : Nat
  contest : Nat
  current : BitVec 32
  onAir : List (Nat × Nat)
  deriving DecidableEq, Repr

/-- A received message whose length fits its kind (R187, R189). -/
inductive Msg where
  | airbeat (entries : List RawBeat)
  | timemark (rate : Nat) (pos : Pos)
  | relaystate (link : Nat)
  | edit (chan epoch seq : Nat) (op : Byte) (operands : List Byte)
  | image (chan epoch imageId base index count records : Nat) (body : List Byte)
  | imagereq (chan : Byte)
  | beacon (b : RawBeacon)
  | verdict (chan verdict : Nat)
  | claim (chan weight forced : Nat)
  | take (chan weight forced epoch : Nat)
  | release (chan reason : Nat) (pos : Pos) (present returnEpoch : Nat)
  | handover (chan event : Nat) (boundary : Pos) (returnEpoch cancel : Nat)
  | command (tag code : Nat) (operands : List Byte)
  deriving DecidableEq, Repr

/-- A position of 5 bytes (R186). -/
def readPos (bs : List Byte) : Option (Pos × List Byte) := do
  let (d, bs) ← readNat 2 bs
  let (f, bs) ← readNat 3 bs
  some (⟨d, f⟩, bs)

/-- One AIRBEAT entry of 29 bytes (R187). -/
def readBeat (bs : List Byte) : Option (RawBeat × List Byte) := do
  let (c, bs) ← readNat 1 bs
  let (e, bs) ← readNat 4 bs
  let (m, bs) ← readNat 1 bs
  let (ev, bs) ← readNat 4 bs
  let (off, bs) ← readNat 4 bs
  let (rep, bs) ← readPos bs
  let (pr, bs) ← readNat 1 bs
  let (pe, bs) ← readNat 4 bs
  let (pp, bs) ← readPos bs
  some (⟨c, e, m, ev, off, rep, pr, pe, pp⟩, bs)

def readBeats : Nat → List Byte → Option (List RawBeat)
  | 0, _ => some []
  | n + 1, bs => do
    let (b, bs) ← readBeat bs
    let rest ← readBeats n bs
    some (b :: rest)

/-- The on-air entries of a BEACON, 5 bytes each (R187). -/
def readOnAir : Nat → List Byte → Option (List (Nat × Nat))
  | 0, _ => some []
  | n + 1, bs => do
    let (c, bs) ← readNat 1 bs
    let (e, bs) ← readNat 4 bs
    let rest ← readOnAir n bs
    some ((c, e) :: rest)

/-- The length test of step 6 of R185 for a payload of a kind (R187, R189). -/
def lengthFits (k : Kind) (p : List Byte) : Bool :=
  match k with
  | .airbeat =>
    match p with
    | n :: _ => decide (1 ≤ n.toNat) && decide (n.toNat ≤ 8) && decide (p.length = 1 + 29 * n.toNat)
    | [] => false
  | .timemark => decide (p.length = 6)
  | .relaystate => decide (p.length = 1)
  | .edit => decide (10 ≤ p.length)
  | .image => decide (18 ≤ p.length)
  | .imagereq => decide (p.length = 1)
  | .beacon =>
    match p[10]? with
    | some n => decide (n.toNat ≤ 8) && decide (p.length = 11 + 5 * n.toNat)
    | none => false
  | .verdict => decide (p.length = 2)
  | .claim => decide (p.length = 4)
  | .take => decide (p.length = 8)
  | .release => decide (p.length = 12)
  | .handover => decide (p.length = 15)
  | .command => decide (3 ≤ p.length)
  | .reply => false

/-- The fields of a payload whose length fits (R187, R189). -/
def readMsg (k : Kind) (p : List Byte) : Option Msg :=
  match k with
  | .airbeat => do
    let (n, bs) ← readNat 1 p
    (readBeats n bs).map .airbeat
  | .timemark => do
    let (r, bs) ← readNat 1 p
    let (pos, _) ← readPos bs
    some (.timemark r pos)
  | .relaystate => (readNat 1 p).map fun x => .relaystate x.1
  | .edit => do
    let (c, bs) ← readNat 1 p
    let (e, bs) ← readNat 4 bs
    let (s, bs) ← readNat 4 bs
    let (op, bs) ← readNat 1 bs
    some (.edit c e s (BitVec.ofNat 8 op) bs)
  | .image => do
    let (c, bs) ← readNat 1 p
    let (e, bs) ← readNat 4 bs
    let (i, bs) ← readNat 4 bs
    let (b, bs) ← readNat 4 bs
    let (x, bs) ← readNat 2 bs
    let (n, bs) ← readNat 2 bs
    let (r, bs) ← readNat 1 bs
    some (.image c e i b x n r bs)
  | .imagereq => (readNat 1 p).map fun x => .imagereq (BitVec.ofNat 8 x.1)
  | .beacon => do
    let (st, bs) ← readNat 1 p
    let (t, bs) ← readNat 1 bs
    let (rf, bs) ← readNat 1 bs
    let (fl, bs) ← readNat 1 bs
    let (fs, bs) ← readNat 1 bs
    let (co, bs) ← readNat 1 bs
    let (cu, bs) ← readNat 4 bs
    let (n, bs) ← readNat 1 bs
    let oa ← readOnAir n bs
    some (.beacon ⟨st, t, rf, fl, fs, co, BitVec.ofNat 32 cu, oa⟩)
  | .verdict => do
    let (c, bs) ← readNat 1 p
    let (v, _) ← readNat 1 bs
    some (.verdict c v)
  | .claim => do
    let (c, bs) ← readNat 1 p
    let (w, bs) ← readNat 2 bs
    let (f, _) ← readNat 1 bs
    some (.claim c w f)
  | .take => do
    let (c, bs) ← readNat 1 p
    let (w, bs) ← readNat 2 bs
    let (f, bs) ← readNat 1 bs
    let (e, _) ← readNat 4 bs
    some (.take c w f e)
  | .release => do
    let (c, bs) ← readNat 1 p
    let (r, bs) ← readNat 1 bs
    let (pos, bs) ← readPos bs
    let (f, bs) ← readNat 1 bs
    let (e, _) ← readNat 4 bs
    some (.release c r pos f e)
  | .handover => do
    let (c, bs) ← readNat 1 p
    let (ev, bs) ← readNat 4 bs
    let (h, bs) ← readPos bs
    let (e, bs) ← readNat 4 bs
    let (x, _) ← readNat 1 bs
    some (.handover c ev h e x)
  | .command => do
    let (t, bs) ← readNat 2 p
    let (c, bs) ← readNat 1 bs
    some (.command t c bs)
  | .reply => none

/-- A message off the line: destination, source, kind byte and payload (R180). -/
structure Frame where
  dst : Nat
  src : Nat
  kind : Nat
  payload : List Byte
  deriving DecidableEq, Repr

/-- Steps 1 and 2 of R185: the delimiter, the length and the check code. -/
def readFrame (rx : Reception) : Option Frame :=
  if !rx.delimiter then none
  else
    match rx.bytes with
    | d :: s :: k :: n :: rest =>
      if n.toNat ≤ 240 ∧ rest.length = n.toNat + 2 ∧
          (crc (rx.bytes.take (4 + n.toNat))).toNat = beNat (rest.drop n.toNat) then
        some ⟨d.toNat, s.toNat, k.toNat, rest.take n.toNat⟩
      else none
    | _ => none

/-- Step 5 of R185: the kinds a source's role may send. -/
def roleSends (src : Addr) (k : Kind) : Bool :=
  if src ≤ 16 then
    k ∈ [.edit, .image, .imagereq, .beacon, .verdict, .claim, .take, .release, .handover]
  else if src ≤ 20 then k ∈ [.airbeat, .timemark, .relaystate, .edit, .image]
  else k = .command

/-- The outcome of the receive checks (R185). -/
inductive Received where
  /-- Discarded silently. -/
  | discard
  /-- A COMMAND directed to this station whose length does not fit: the console and the tag to answer. -/
  | badLength (src : Addr) (tag : Nat)
  /-- Passed steps 1 to 6. -/
  | deliver (src dst : Addr) (m : Msg)
  deriving DecidableEq, Repr

/-- Steps 3 to 6 of R185 for the station at address `me`. -/
def judgeFrame (me : Addr) (f : Frame) : Received :=
  if f.dst ≠ 0 ∧ f.dst ≠ me then .discard
  else if f.src < 1 ∨ 30 < f.src ∨ f.src = me then .discard
  else
    match Kind.ofCode f.kind with
    | none => .discard
    | some k =>
      if !roleSends f.src k then .discard
      else if !lengthFits k f.payload then
        if k = .command ∧ f.dst ≠ 0 then
          .badLength f.src (if 2 ≤ f.payload.length then beNat (f.payload.take 2) else 0)
        else .discard
      else
        match readMsg k f.payload with
        | some m => .deliver f.src f.dst m
        | none => .discard

/-- The bytes of a message after its start delimiter, check code last (R180). -/
def frameBytes (dst src : Addr) (k : Kind) (payload : List Byte) : List Byte :=
  let body := BitVec.ofNat 8 dst :: BitVec.ofNat 8 src :: BitVec.ofNat 8 k.code ::
    BitVec.ofNat 8 payload.length :: payload
  body ++ toBE 2 (crc body).toNat

/-- The class of an outgoing message (R182). -/
def OutMsg.cls : OutMsg → Cls
  | .claim .. | .take .. | .release .. | .handover .. => .zero
  | .beacon | .verdict .. | .edit .. | .imagereq .. | .reply .. => .one
  | .image .. | .imageNone .. => .two

/-- The kind of an outgoing message (R182). -/
def OutMsg.kind : OutMsg → Kind
  | .claim .. => .claim | .take .. => .take | .release .. => .release | .handover .. => .handover
  | .beacon => .beacon | .verdict .. => .verdict | .edit .. => .edit | .imagereq .. => .imagereq
  | .reply .. => .reply | .image .. => .image | .imageNone .. => .image

/-- The destination of an outgoing message: 0 for a broadcast. -/
def OutMsg.dst : OutMsg → Addr
  | .imagereq _ d => d
  | .reply d .. => d
  | .image d .. => d
  | .imageNone d .. => d
  | _ => 0

end Sys2Proof.Machine
end

