-- ==== Sys2Proof/Machine/Ops.lean ====
section
/-! DEFINITION. The named operations on the state: records by channel, slot, probe and address; outputs; the
as-run log; the class queues and the offers to them (R166, R174, R175, R176, R181 to R183). -/

namespace Sys2Proof.Machine

/-- Replace the entry at `i` by `f` of it. -/
def vmod {α : Type} {n : Nat} (v : Vector α n) (i : Fin n) (f : α → α) : Vector α n :=
  v.set i.val (f (v.get i)) i.isLt

namespace State

/-- The house position of the last frame event (00 section 5.2: "now"). -/
def now (s : State) : Pos := s.time.pos

/-- The site rate. -/
def rate (s : State) : Rate := s.loader.cfg.rate

/-- The configuration values. -/
def cfg (s : State) : Settings := s.loader.cfg

/-- The station's line address; 0 while it has none. -/
def me (s : State) : Addr := s.loader.address.getD 0

/-- The age of a recorded position (R5). -/
def age (s : State) (p : Pos) : Int := Pos.diff s.rate p s.now

/-- Whether now is at or past a position (R5, R13). -/
def reached (s : State) (p : Pos) : Bool := Pos.atOrPast s.rate s.now p

/-- LISTENING, READY or DEGRADED: the states in which the line interface works (R179). -/
def active (s : State) : Bool :=
  s.loader.station = .listening || s.loader.station = .ready || s.loader.station = .degraded

def chan (s : State) (c : Chan) : ChannelRec := s.chans.get c

def modChan (s : State) (c : Chan) (f : ChannelRec → ChannelRec) : State := { s with chans := vmod s.chans c f }

def view (s : State) (c : Chan) : View := s.views.get c

def modView (s : State) (c : Chan) (f : View → View) : State := { s with views := vmod s.views c f }

def slot (s : State) (n : SlotId) : Slot := s.slots.get n

def modSlot (s : State) (n : SlotId) (f : Slot → Slot) : State := { s with slots := vmod s.slots n f }

def watchRec (s : State) (c : Chan) : Option WatchRec := s.watch.get c

def modWatch (s : State) (c : Chan) (f : WatchRec → WatchRec) : State :=
  { s with watch := vmod s.watch c (Option.map f) }

def probe (s : State) (p : ProbeId) : Probe := s.probes.get p

def modProbe (s : State) (p : ProbeId) (f : Probe → Probe) : State := { s with probes := vmod s.probes p f }

/-- The place of an address in the peer table (R102). -/
def peerIdx (a : Nat) : Option (Fin 30) := if h : 1 ≤ a ∧ a ≤ 30 then some ⟨a - 1, by omega⟩ else none

/-- The peer record of an address; an address outside 1-30 has none and reads as never heard. -/
def peer (s : State) (a : Addr) : Peer := (peerIdx a).elim Peer.reset fun i => s.peers.get i

def modPeer (s : State) (a : Addr) (f : Peer → Peer) : State :=
  { s with peers := (peerIdx a).elim s.peers fun i => vmod s.peers i f }

def setLine (s : State) (f : Line → Line) : State := { s with line := f s.line }

def setTime (s : State) (f : TimeBase → TimeBase) : State := { s with time := f s.time }

def setLoader (s : State) (f : Loader → Loader) : State := { s with loader := f s.loader }

def setRepl (s : State) (f : Replication → Replication) : State := { s with repl := f s.repl }

def setClaims (s : State) (f : ClaimEngine → ClaimEngine) : State := { s with claims := f s.claims }

/-- A cue word leaves a slot's server port (R145). -/
def emit (s : State) (n : SlotId) (w : CueWord) : State := { s with out := s.out ++ [.word n w] }

/-! ### The as-run log (R175, R176) -/

/-- Write an entry: it takes the next sequence number, and the oldest goes when 512 are held (R176). -/
def writeEntry (s : State) (kind : AsRunKind) (slot : Option SlotId) (chan : Option Chan) (event : Option Nat)
    (lateness : Option Int) (reason : Option ReleaseReason) : State :=
  let e : AsRun := { seq := s.logNext, pos := s.now, kind := kind, slot := slot, chan := chan, event := event,
                     lateness := lateness, tally := none, reason := reason }
  { s with log := (if s.log.length < 512 then s.log else s.log.drop 1) ++ [e]
           logNext := (s.logNext + 1) % 4294967296 }

/-- An entry about what slot `n` holds. -/
def slotEntry (s : State) (n : SlotId) (kind : AsRunKind) (event : Option Nat) (lateness : Option Int) : State :=
  s.writeEntry kind (some n) (s.slot n).chan event lateness none

/-- The tally position enters the entry with that sequence, if it is still held (R159, R175). R159 writes it at any
confirmation and R175 allows the entry one addition; the two differ at a second confirmation of one fire, after a restart
PLAY, and which of its two positions the entry holds then is a free value (log 53). -/
def confirmEntry (s : State) (seq : Nat) (p : Pos) : State :=
  { s with log := s.log.map fun e =>
      if e.seq = seq then { e with tally := if e.tally.isNone || Config.secondTally then some p else e.tally } else e }

/-! ### The class queues (R181 to R183) -/

/-- A queue's depth (R182). -/
def depth : Cls → Nat
  | .zero => 12 | .one => 8 | .two => 16

def queue (s : State) : Cls → List QEntry
  | .zero => s.line.q0 | .one => s.line.q1 | .two => s.line.q2

def setQueue (s : State) (k : Cls) (q : List QEntry) : State :=
  s.setLine fun l =>
    match k with
    | .zero => { l with q0 := q }
    | .one => { l with q1 := q }
    | .two => { l with q2 := q }

/-- Whether a queue has a free entry. -/
def hasRoom (s : State) (k : Cls) : Bool := (s.queue k).length < depth k

/-- The class whose head the station offers at an idle: the most urgent queue that is not empty (R182). -/
def offered (s : State) : Option Cls :=
  if !s.line.q0.isEmpty then some .zero
  else if !s.line.q1.isEmpty then some .one
  else if !s.line.q2.isEmpty then some .two
  else none

/-- The `k` of R181: the class, raised by one when its courtesy step is set. -/
def rung (s : State) : Cls → Nat
  | .zero => 0
  | .one => if s.line.courtesy1 then 2 else 1
  | .two => if s.line.courtesy2 then 3 else 2

/-- The wait that runs now: with the line idle, none running and nothing being sent, a station with a message queued
starts its wait for the class it offers (R181). -/
def nextWait (s : State) : Option Wait :=
  if s.line.idle && s.line.wait.isNone && s.line.sending.isNone && s.active then
    s.offered.map fun k => ⟨k, 8 + 32 * s.rung k + s.me⟩
  else s.line.wait

/-- A station that may start its wait starts it (R181). -/
def startWait (s : State) : State := s.setLine fun l => { l with wait := s.nextWait }

/-- A message enters the tail of the queue of its class; the caller has seen a free entry. -/
def enqueue (s : State) (m : OutMsg) : State :=
  (s.setQueue m.cls (s.queue m.cls ++ [⟨m, false⟩])).startWait

/-- Take back the messages of a class that `p` names and that have not begun to be sent (R182). -/
def takeBack (s : State) (k : Cls) (p : OutMsg → Bool) : State :=
  s.setQueue k ((s.queue k).filter fun e => e.begun || !p e.msg)

/-- A waiting entry of the class 1 queue that `p` names gives its place to `m` (R183). -/
def replaceWaiting (s : State) (p : OutMsg → Bool) (m : OutMsg) : State :=
  s.setQueue .one ((s.queue .one).map fun e => if !e.begun && p e.msg then ⟨m, false⟩ else e)

/-- Whether an entry that `p` names waits unsent in class 1. -/
def waiting (s : State) (p : OutMsg → Bool) : Bool := (s.queue .one).any fun e => !e.begun && p e.msg

def isBeacon : OutMsg → Bool
  | .beacon => true | _ => false

def isVerdictOf (c : Chan) : OutMsg → Bool
  | .verdict c' _ => c = c' | _ => false

def isReply : OutMsg → Bool
  | .reply .. => true | _ => false

/-- A BEACON is offered: it replaces a waiting one, takes a free entry, or is held (R183). -/
def offerBeacon (s : State) : State :=
  if s.waiting isBeacon then (s.replaceWaiting isBeacon .beacon).setLine fun l => { l with beaconHeld := false }
  else if s.hasRoom .one then (s.enqueue .beacon).setLine fun l => { l with beaconHeld := false }
  else s.setLine fun l => { l with beaconHeld := true }

/-- A probe with its send pending flag set puts its VERDICT into class 1; the flag clears when the line interface takes
it (R99, R183). An older one offered again so replaces a waiting VERDICT of the channel that another probe gave later,
where R99 has the one given last reported; the model follows R183's replacement (log 34). -/
def putVerdict (s : State) (p : ProbeId) : State :=
  let x := s.probe p
  match x.chan, x.sendPending with
  | some c, true =>
    if s.waiting (isVerdictOf c) then
      (s.replaceWaiting (isVerdictOf c) (.verdict c x.verdict)).modProbe p fun x => { x with sendPending := false }
    else if s.hasRoom .one then
      (s.enqueue (.verdict c x.verdict)).modProbe p fun x => { x with sendPending := false }
    else s
  | _, _ => s

/-- Remove the first entry that `p` names and has not begun to be sent. -/
def dropFirst (p : OutMsg → Bool) : List QEntry → List QEntry
  | [] => []
  | e :: es => if !e.begun && p e.msg then es else e :: dropFirst p es

/-- A REPLY is offered: with the queue full, the oldest waiting REPLY makes room, and with none waiting it is
dropped (R183). -/
def offerReply (s : State) (m : OutMsg) : State :=
  if s.hasRoom .one then s.enqueue m
  else if s.waiting isReply then (s.setQueue .one (dropFirst isReply (s.queue .one))).enqueue m
  else s

/-- Move messages of a waiting list into free class 0 entries, from the head; the second part is what is left. -/
def drainInto : List OutMsg → State → State × List OutMsg
  | [], s => (s, [])
  | m :: ms, s => if s.hasRoom .zero then drainInto ms (s.enqueue m) else (s, m :: ms)

/-- The outbox is offered to the class 0 queue (R166). -/
def offerOutbox (s : State) : State :=
  let x := drainInto s.line.outbox s
  x.1.setLine fun l => { l with outbox := x.2 }

/-- The waiting cancels are offered to the class 0 queue (R174); the outbox goes first (R183). -/
def offerCancels (s : State) : State :=
  let x := drainInto s.offerOutbox.line.cancels s.offerOutbox
  x.1.setLine fun l => { l with cancels := x.2 }

/-- A RELEASE enters class 0 behind those of the outbox, or joins the outbox's tail (R166, R183). -/
def offerRelease (s : State) (m : OutMsg) : State :=
  let t := s.offerOutbox
  if t.hasRoom .zero then t.enqueue m else t.setLine fun l => { l with outbox := l.outbox ++ [m] }

/-- A HANDOVER with the cancel flag enters class 0 behind what already waits for it, or waits (R174, R183). -/
def offerCancel (s : State) (m : OutMsg) : State :=
  let t := s.offerCancels
  if t.hasRoom .zero then t.enqueue m else t.setLine fun l => { l with cancels := l.cancels ++ [m] }

end State

/-! ### Folds over the part's fixed sets -/

/-- Every channel in rising order. -/
def forChans (f : Chan → State → State) (s : State) : State := (List.finRange 32).foldl (fun s c => f c s) s

/-- Every slot in rising order. -/
def forSlots (f : SlotId → State → State) (s : State) : State := (List.finRange 8).foldl (fun s n => f n s) s

/-- Every probe in rising order. -/
def forProbes (f : ProbeId → State → State) (s : State) : State := (List.finRange 4).foldl (fun s p => f p s) s

namespace State

/-- A held BEACON is offered again (R103, R183). -/
def beaconRetry (s : State) : State := if s.active && s.line.beaconHeld then s.offerBeacon else s

/-- What goes into class 1 before the VERDICT of probe `k` at a frame event: a held BEACON, and the pending VERDICTs of
the probes below it (R183). -/
def beforeVerdict (s : State) (k : Nat) : State :=
  if s.time.frameOpen then forProbes (fun p t => if p.val < k then t.putVerdict p else t) s.beaconRetry else s

/-- A probe with its send pending flag set offers its VERDICT (R99, R183). -/
def offerVerdict (s : State) (p : ProbeId) : State := (s.beforeVerdict p.val).putVerdict p

end State

end Sys2Proof.Machine
end

