-- ==== Sys2Proof/Machine/Walk.lean ====
section
/-! DEFINITION. The timing walk over one list, marking past and trimming (R23, R24, R26 to R31). -/

namespace Sys2Proof.Machine

/-- The derived fields a record has on entering a list (R16). -/
def Derived.fresh : Derived :=
  { start := none, stop := none, eclipsed := false, truncated := false, lateStart := false, gap := 0, past := false }

/-- The resolved flag (R16, R31). -/
def Derived.resolved (d : Derived) : Bool := d.start.isSome && d.stop.isSome

/-- The natural end of an event that starts at `start` (R31). -/
def Stated.naturalFrom (r : Rate) (st : Stated) (start : Pos) : Option Pos :=
  match st.stop with
  | .timed d => some (start.add r d)
  | .openEnd (some d) => some (start.add r d)
  | .openEnd none => none

/-- What R26 settles about an event: no hard start, a hard start, or a LOCKED event eclipsed by its leader start. -/
inductive Hard where
  | soft
  | hard (p : Pos)
  | eclipsed
  deriving DecidableEq, Repr

/-- The hard start of one event; `nearest` is the hard start of the nearest earlier event considered that has one,
and `lead` finds the leader start of a lock key (R26). -/
def hardOf (r : Rate) (lead : Nat → Option Pos) (nearest : Option Pos) (st : Stated) : Hard :=
  match st.start with
  | .fixed p => .hard p
  | .follow => .soft
  | .locked =>
    match st.lockKey.bind lead with
    | none => .soft
    | some p =>
      match nearest with
      | some h => if Pos.before r p h then .eclipsed else .hard p
      | none => .hard p

/-- The hard starts of a list from its starting point on (R26). -/
def hards (r : Rate) (lead : Nat → Option Pos) : Option Pos → List Rec → List (Rec × Hard)
  | _, [] => []
  | nearest, e :: es =>
    let h := hardOf r lead nearest e.stated
    (e, h) :: hards r lead (match h with | .hard p => some p | _ => nearest) es

/-- The first hard start in a list. -/
def firstHard : List (Rec × Hard) → Option Pos
  | [] => none
  | (_, .hard p) :: _ => some p
  | _ :: es => firstHard es

/-- The derived start, late-start flag and gap of an event not eclipsed by R26, at running end `t` (R30). -/
def startOf (r : Rate) (t : Option Pos) (st : Stated) (h : Hard) : Option Pos × Bool × Nat :=
  match h, st.start with
  | .hard p, _ =>
    match t with
    | some t =>
      if Pos.before r p t then (some t, true, 0)
      else if Pos.after r p t then (some p, false, min (Pos.diff r t p).toNat (14 * r.fpd))
      else (some p, false, 0)
    | none => (some p, false, 0)
  | _, .follow => (t, false, 0)
  | _, _ => (none, false, 0)

/-- The ceiling of an event: the first later nominal hard start, raised to the event's own start (R29). -/
def ceilingOf (r : Rate) (start : Pos) (next : Option Pos) : Option Pos :=
  next.map fun h => if Pos.before r h start then start else h

/-- One event of the walk after the starting point: its derived fields and the running end after it
(R29 to R31). R31 does not apply to a LOCKED event that R26 eclipses, and no rule says what becomes of its truncated
flag: the model clears it (log 26). -/
def walkOne (r : Rate) (t : Option Pos) (e : Rec) (h : Hard) (next : Option Pos) : Rec × Option Pos :=
  match h with
  | .eclipsed =>
    ({ e with derived := { start := t, stop := t, eclipsed := true, truncated := false, lateStart := false,
                           gap := 0, past := e.derived.past } }, t)
  | _ =>
    let (start, late, gap) := startOf r t e.stated h
    let natural := start.bind (e.stated.naturalFrom r)
    let stop := start.bind fun p => Pos.earlier? r natural (ceilingOf r p next)
    let cut := match natural, stop with
      | some n, some p => Pos.before r p n
      | _, _ => false
    let ecl := match start, stop with
      | some a, some b => decide (a = b)
      | _, _ => false
    ({ e with derived := { start := start, stop := stop, eclipsed := ecl, truncated := cut, lateStart := late,
                           gap := gap, past := e.derived.past } }, stop)

/-- The walk of the events after the anchor event, or from the first event not past (R28 to R31). A past event, which an
INSERT can leave behind one that is not past, is not derived afresh (R23). That the running end passes it by, as R28 has
it for the past events before the walk's start, and that its hard start still counts (R26), is the model's choice
(log 26). -/
def walkFrom (r : Rate) : Option Pos → List (Rec × Hard) → List Rec
  | _, [] => []
  | t, (e, h) :: es =>
    if e.derived.past then e :: walkFrom r t es
    else
      let x := walkOne r t e h (firstHard es)
      x.1 :: walkFrom r x.2 es

/-- The cap that the anchor sets on an event before it (R27). An event inserted before the anchor so gets both times at
the actual start, which can lie after its successor's start; R32 says that neither this nor an end after the next start
occurs, and the model follows R27 and R28 (log 30). R27 names the times and the eclipsed flag only: that the truncated
flag, the late-start flag and the gap before stay as they were, also where the cap brings the end before the natural end
(R16), is the model's choice (log 47). -/
def capAt (r : Rate) (a : Pos) (e : Rec) : Rec :=
  let cap := fun (p : Option Pos) => match p with
    | some p => if Pos.after r p a then a else p
    | none => a
  let d := e.derived
  let start := cap d.start
  let stop := cap d.stop
  if d.start = some start ∧ d.stop = some stop then e
  else { e with derived := { d with start := some start, stop := some stop,
                                    eclipsed := d.eclipsed || decide (start = stop) } }

/-- The value R27 reaches for the anchor event before its floor of P + 1; R147 reads it as the cue end. -/
def anchorEnd (r : Rate) (a : Anchor) (st : Stated) (next : Option Pos) : Option Pos :=
  Pos.earlier? r (st.naturalFrom r a.actual) next

/-- The anchor event (R27). `p` is the report position, or the position of the walk for an AIR anchor. -/
def walkAnchor (r : Rate) (p : Pos) (a : Anchor) (e : Rec) (next : Option Pos) : Rec :=
  let stop := (anchorEnd r a e.stated next).map fun q => Pos.later r q (p.add r 1)
  let cut := match e.stated.naturalFrom r a.actual, stop with
    | some n, some q => Pos.before r q n
    | _, _ => false
  { e with derived := { start := some a.actual, stop := stop, eclipsed := false, truncated := cut,
                        lateStart := false, gap := 0, past := e.derived.past } }

/-- Split a list at the first event of an id: the events before it, and it with those after. -/
def splitAt (id : Nat) : List Rec → Option (List Rec × Rec × List Rec)
  | [] => none
  | e :: es =>
    if e.stated.id = id then some ([], e, es)
    else (splitAt id es).map fun (b, x, a) => (e :: b, x, a)

/-- The timing walk of a list (R26 to R31). With an anchor whose event is not in the list it runs unanchored. An
unanchored walk begins with an unresolved time (R28), also where a past event before it ends later (R32; log 30). -/
def walkList (r : Rate) (now : Pos) (lead : Nat → Option Pos) (anchor : Option Anchor) (list : List Rec) :
    List Rec :=
  match anchor.bind fun a => (splitAt a.event list).map fun x => (a, x) with
  | some (a, before, e, after) =>
    let p := match a.source with | .beat => a.report | .air => now
    match hards r lead none (e :: after) with
    | [] => list
    | (_, _) :: later =>
      let e' := walkAnchor r p a e (firstHard later)
      before.map (capAt r a.actual) ++ e' :: walkFrom r e'.derived.stop later
  | none =>
    let x := list.span fun e => e.derived.past
    x.1 ++ walkFrom r none (hards r lead none x.2)

/-- Mark past the events before the anchor event whose derived end is at or before now (R23). -/
def markPastList (r : Rate) (now : Pos) (anchor : Option Anchor) (list : List Rec) : List Rec :=
  match anchor.bind fun a => splitAt a.event list with
  | some (before, e, after) =>
    (before.map fun x => match x.derived.stop with
      | some p => if Pos.atOrPast r now p then { x with derived := { x.derived with past := true } } else x
      | none => x) ++ e :: after
  | none => list

/-- Clear the past flag of an event and of every event after it (R23: an anchor written on a past event). -/
def clearPastFrom (id : Nat) (list : List Rec) : List Rec :=
  match splitAt id list with
  | some (before, e, after) =>
    if e.derived.past then
      before ++ (e :: after).map fun x => { x with derived := { x.derived with past := false } }
    else list
  | none => list

/-- The number of past events. -/
def pastCount (list : List Rec) : Nat := (list.filter fun e => e.derived.past).length

/-- Take `n` past events off a list, the oldest first: the events taken, and the list left (R24). -/
def takePast : Nat → List Rec → List Rec × List Rec
  | 0, l => ([], l)
  | _, [] => ([], [])
  | n + 1, e :: es =>
    if e.derived.past then
      let (t, l) := takePast n es
      (e :: t, l)
    else
      let (t, l) := takePast (n + 1) es
      (t, e :: l)

/-- Trimming: past events beyond four are taken, the oldest first (R24). -/
def trimList (list : List Rec) : List Rec × List Rec := takePast (pastCount list - 4) list

/-- The event after an id, and those behind it. -/
def eventsAfter (id : Nat) (list : List Rec) : List Rec := ((splitAt id list).map fun x => x.2.2).getD []

/-- The record of an event id. -/
def findEvent (id : Nat) (list : List Rec) : Option Rec := (splitAt id list).map fun x => x.2.1

end Sys2Proof.Machine
end

