-- ==== Sys2Proof/Machine/Slots.lean ====
section
/-! DEFINITION. What a slot reads from the schedule: its cue end, its arm candidate, arming, re-arming and its
pending occurrences (R147 to R150, R153, R157). Nothing here walks a list or fires a cue. -/

namespace Sys2Proof.Machine

/-- JOINING, ON AIR, HOLDING or FALLBACK: the states that hold a channel (R164). -/
def SlotState.holds : SlotState → Bool
  | .joining | .onAir | .holding | .fallback => true
  | _ => false

namespace State

/-- The slot that holds a channel, if one does. -/
def holdingSlot (s : State) (c : Chan) : Option SlotId :=
  (List.finRange 8).find? fun n => (s.slot n).state.holds && decide ((s.slot n).chan = some c)

/-- The slot that holds a channel or is reserved for it. -/
def slotFor (s : State) (c : Chan) : Option SlotId :=
  (List.finRange 8).find? fun n => decide ((s.slot n).state ≠ .free) && decide ((s.slot n).chan = some c)

/-- The number of FREE slots. -/
def freeSlots (s : State) : Nat := ((List.finRange 8).filter fun n => (s.slot n).state = .free).length

/-- The lowest-numbered FREE slot (R114). -/
def firstFree (s : State) : Option SlotId := (List.finRange 8).find? fun n => (s.slot n).state = .free

/-- The leader of a channel by R19. -/
def leaderOf (s : State) (c : Chan) : Option Chan :=
  match (s.chan c).profile.leader with
  | some l => if l ≠ c ∧ (s.chan l).profile.leader = none then some l else none
  | none => none

/-- The leader start of a lock key for a channel's walk (R26): the derived start of the first event of the
leader's list that carries the key and is not eclipsed. -/
def leaderStart (s : State) (c : Chan) (key : Nat) : Option Pos :=
  (s.leaderOf c).bind fun l =>
    ((s.chan l).list.find? fun e => decide (e.stated.lockKey = some key) && !e.derived.eclipsed).bind
      fun e => e.derived.start

/-- The default slate of a channel's profile (R18). -/
def defaultSlate (s : State) (c : Chan) : Nat := (s.chan c).profile.slate

end State

/-- The event of the current cue, the join cue standing for it while JOINING (R148); none for a fill. -/
def Slot.curEvent (x : Slot) : Option Nat :=
  if x.state = .joining then
    x.join.bind fun p => match p.kind with
      | .gapSlate | .endOfSchedule => none
      | _ => p.event
  else x.cur.bind Cue.event

/-- The event of an AIR anchor, if one stands. -/
def ChannelRec.airEvent (ch : ChannelRec) : Option Nat :=
  ch.anchor.bind fun a => if a.source = .air then some a.event else none

/-- From the events after the current one: the first neither eclipsed nor past, with the eclipsed events passed
over to reach it; past events are not recorded (R148, R155). -/
def firstOpen : List Rec → Option (Rec × List Nat)
  | [] => none
  | e :: es =>
    if e.derived.past then firstOpen es
    else if e.derived.eclipsed then (firstOpen es).map fun x => (x.1, e.stated.id :: x.2)
    else some (e, [])

/-- For a fill: the first event not eclipsed, not past, with a derived start after `p` (R148). -/
def firstAhead (r : Rate) (p : Pos) : List Rec → Option (Rec × List Nat)
  | [] => none
  | e :: es =>
    if e.derived.past then firstAhead r p es
    else if e.derived.eclipsed then (firstAhead r p es).map fun x => (x.1, e.stated.id :: x.2)
    else
      match e.derived.start with
      | some q => if Pos.after r q p then some (e, []) else firstAhead r p es
      | none => firstAhead r p es

/-- The events a fill's search runs over: those after the AIR anchor's event, else those from the first that is not
past (R148). -/
def ChannelRec.fillSearch (ch : ChannelRec) : List Rec :=
  match ch.airEvent.bind fun id => splitAt id ch.list with
  | some (_, _, after) => after
  | none => ch.list.dropWhile fun e => e.derived.past

/-- An event other than the join event that is over by the join point of a JOINING slot: the fill begins at that point,
so that it is no next cue of it (R135, R136; log 27). -/
def Slot.overByJoin (r : Rate) (x : Slot) (e : Rec) : Bool :=
  match x.state, x.join, e.derived.stop with
  | .joining, some p, some q =>
    decide (p.event ≠ some e.stated.id) && !e.derived.eclipsed && Pos.atOrPast r p.join q
  | _, _, _ => false

namespace State

/-- The event that NEXT arms (R155): for a current event the first open event after it, resolved or not; for a
fill the candidate of R148. While JOINING, the search for a fill passes over what is over by the join point, and a join
event that has left the list is searched behind as a fill, where the manual is silent (log 27). -/
def nextEvent (s : State) (n : SlotId) : Option (Rec × List Nat) :=
  match (s.slot n).chan with
  | none => none
  | some c =>
    let ch := s.chan c
    match (s.slot n).curEvent.bind fun id => splitAt id ch.list with
    | some (_, _, after) => firstOpen after
    | none => firstAhead s.rate s.now (ch.fillSearch.filter fun e => !(s.slot n).overByJoin s.rate e)

/-- The arm candidate with its fire position and the eclipsed events passed over (R148). The event of a handback
plan fires at the plan's boundary (R171). -/
def candidate (s : State) (n : SlotId) : Option (Rec × Pos × List Nat) :=
  (s.nextEvent n).bind fun (e, skipped) =>
    e.derived.start.map fun p =>
      match (s.slot n).handback with
      | some h => if h.event = e.stated.id then (e, h.boundary, skipped) else (e, p, skipped)
      | none => (e, p, skipped)

/-- Whether a fire position lies no more than the arm lead ahead of now (R148). -/
def withinArmLead (s : State) (p : Pos) : Bool := decide (Pos.diff s.rate s.now p ≤ (s.cfg.armLead : Int))

end State

def Source.isClip : Source → Bool
  | .clip _ _ => true
  | _ => false

/-- The armed next cue made of a candidate at now, moved to now + lock lead when it comes too soon (R148). -/
def armedFrom (r : Rate) (now : Pos) (lockLead : Nat) (e : Rec) (p : Pos) (skipped : List Nat) (owed : Bool) :
    Armed :=
  let floor := now.add r lockLead
  let late := Pos.before r p floor
  { event := e.stated.id, firePos := if late then floor else p, armedAt := now,
    lateBy := if late then (Pos.diff r p floor).toNat else 0, locked := late, skipped := skipped, cueOwed := owed }

namespace State

/-- Arm the candidate when no next cue is armed and it lies within the arm lead (R148). -/
def armIfReady (s : State) (n : SlotId) : State :=
  if (s.slot n).armed.isNone && (s.slot n).state.holds then
    match s.candidate n with
    | some (e, p, sk) =>
      if s.withinArmLead p then
        s.modSlot n fun x => { x with armed := some (armedFrom s.rate s.now s.cfg.lockLead e p sk e.stated.source.isClip) }
      else s
    | none => s
  else s

/-- Re-arming after a walk (R149). Whether the candidate is another event than the one dropped is judged by its id, so
that one rewritten under its own id gives no new CUE, the model's choice (log 35). -/
def rearm (s : State) (n : SlotId) : State :=
  match (s.slot n).armed with
  | none => s.armIfReady n
  | some a =>
    if a.locked then s
    else
      match s.candidate n with
      | some (e, p, sk) =>
        if s.withinArmLead p then
          let owed := if e.stated.id = a.event then a.cueOwed else e.stated.source.isClip
          s.modSlot n fun x => { x with armed := some (armedFrom s.rate s.now s.cfg.lockLead e p sk owed) }
        else s.modSlot n fun x => { x with armed := none }
      | none => s.modSlot n fun x => { x with armed := none }

/-- The cue end the schedule gives the current cue (R147). -/
def cueEndOf (s : State) (n : SlotId) (c : Chan) (cue : Cue) : Option Pos :=
  let ch := s.chan c
  match cue.event with
  | some id =>
    match splitAt id ch.list with
    | some (_, e, after) =>
      match ch.anchor with
      | some a =>
        if a.event = id then
          match hards s.rate (s.leaderStart c) none (e :: after) with
          | _ :: later => anchorEnd s.rate a e.stated (firstHard later)
          | [] => none
        else e.derived.stop
      | none => e.derived.stop
    | none => none
  | none =>
    match (s.slot n).armed with
    | some a => some a.firePos
    | none => (s.candidate n).map fun x => x.2.1

end State

/-- ON AIR while the cue end is a position, HOLDING while it is not; FALLBACK and JOINING stay (R144, R147). -/
def SlotState.byEnd (st : SlotState) (e : Option Pos) : SlotState :=
  match st with
  | .onAir | .holding => if e.isSome then .onAir else .holding
  | x => x

namespace State

/-- Read the cue end afresh, and move the state by it (R147). -/
def refreshEnd (s : State) (n : SlotId) : State :=
  match (s.slot n).chan, (s.slot n).cur with
  | some c, some cue =>
    let e := s.cueEndOf n c cue
    s.modSlot n fun x => { x with cur := some { cue with cueEnd := e }, state := x.state.byEnd e }
  | _, _ => s

end State

/-! ### Secondary occurrences (R157) -/

/-- The first repeat index of a cue not yet issued: the least pending one, or how far it has been generated. -/
def baseIndex (pending : List Occ) (cue gen : Nat) : Nat :=
  pending.foldl (fun b o => if o.cue = cue then min b o.rep else b) gen

/-- The occurrences of one cue from index `k` on, `fuel` of them at most, that fall in the event's time
(R157): not before the actual start, and before the cue end when it is a position. One due at J, where a one-frame step
has skipped J and the join fires at J + 1, lies before the actual start and is passed over (log 27). -/
def occsFrom (r : Rate) (cue : Cue) (i : Nat) (sc : SecCue) (k : Nat) : Nat → List Occ
  | 0 => []
  | fuel + 1 =>
    if k < sc.count then
      let due := cue.anchored.add r (sc.offset + k * sc.period)
      let rest := occsFrom r cue i sc (k + 1) fuel
      let beyond := match cue.cueEnd with | some e => Pos.atOrPast r due e | none => false
      if beyond then [] else if Pos.before r due cue.actual then rest
      else ⟨due, sc.line, sc.action, i, k⟩ :: rest
    else []

/-- Due order: due position, then the cue's place, then the repeat index (R157). -/
def occBefore (r : Rate) (a b : Occ) : Bool :=
  Pos.before r a.due b.due ||
    (decide (Pos.diff r a.due b.due = 0) && (decide (a.cue < b.cue) || (decide (a.cue = b.cue) && decide (a.rep < b.rep))))

def insertOcc (r : Rate) (o : Occ) : List Occ → List Occ
  | [] => [o]
  | x :: xs => if occBefore r o x then o :: x :: xs else x :: insertOcc r o xs

/-- The occurrences not yet issued, in due order, at most 16 (R157). -/
def refillList (r : Rate) (cue : Cue) (pending : List Occ) (gen : List Nat) : List Occ :=
  let all := cue.cues.zipIdx.flatMap fun (sc, i) => occsFrom r cue i sc (baseIndex pending i (gen.getD i 0)) 16
  (all.foldl (fun acc o => insertOcc r o acc) []).take 16

/-- How far each cue has been generated once `pending` stands (R157). -/
def generated (cue : Cue) (old : List Occ) (gen : List Nat) (pending : List Occ) : List Nat :=
  cue.cues.zipIdx.map fun (_, i) =>
    pending.foldl (fun g o => if o.cue = i then max g (o.rep + 1) else g) (baseIndex old i (gen.getD i 0))

namespace State

/-- Bring the pending list to the earliest-due occurrences not yet issued, at most 16 (R157). -/
def refill (s : State) (n : SlotId) : State :=
  match (s.slot n).cur with
  | some cue =>
    let p := refillList s.rate cue (s.slot n).pending (s.slot n).nextRepeat
    s.modSlot n fun x => { x with pending := p, nextRepeat := generated cue x.pending x.nextRepeat p }
  | none => s

end State

/-- A fill cue from `p`, showing slate `slate`, its end not yet known (R147, R152, R153). No rule gives a fill a fire
position, as R147 has an event take the one it was armed with and a fill is not armed: the model takes `p`, the position
of the frame event that shows the slate in place of an armed event (R152) or as the schedule has run out (R153), and not
the fire position of the lost event's cue (log 46); that of a join fill and of a lost current event's are the model's
choice too (logs 27 and 35). -/
def fillCue (p : Pos) (slate : Nat) : Cue :=
  { event := none, source := .slate slate, firePos := p, actual := p, material := none, cueEnd := none,
    anchored := p, cues := [] }

/-- The tally watch cleared (R151 step 8, R153). -/
def Slot.clearWatch (x : Slot) : Slot :=
  { x with expectedBy := none, sincePlay := 0, restarts := 0, restartPlay := none, faultPending := false,
           faultDue := false, highSincePlay := false, confirmed := false, playPos := none, firedSeq := none }

namespace State

/-- The event of a slot's current cue that its channel's list no longer holds, if it is so (R153). -/
def lostEvent (s : State) (n : SlotId) (c : Chan) : Option Nat :=
  ((s.slot n).cur.bind Cue.event).bind fun id => if (findEvent id (s.chan c).list).isSome then none else some id

/-- When a walk leaves the current cue's event out of the list, the current cue becomes a fill, and an armed next cue
stays armed (R153); step 6 of the next frame event shows the slate. The fill's fire position and actual start are now at
the walk and stay so, the model's choice (log 35). -/
def loseEvent (s : State) (n : SlotId) (c : Chan) (id : Nat) : State :=
  let t := s.modSlot n fun x =>
    { x.clearWatch with cur := some (fillCue s.now (s.defaultSlate c)), pending := [], nextRepeat := [],
                        owedFill := some id }
  if (t.slot n).armed.isSome then t else t.armIfReady n

/-- What the slot that holds a channel does after each walk of it (R147, R149, R153, R157). -/
def afterWalk (s : State) (c : Chan) : State :=
  match s.holdingSlot c with
  | none => s
  | some n =>
    let t := match s.lostEvent n c with
      | some id => s.loseEvent n c id
      | none => s.rearm n
    (t.refreshEnd n).refill n

end State

end Sys2Proof.Machine
end

