-- ==== Sys2Proof/Machine/Store.lean ====
section
/-! DEFINITION. The replica store: the pool, walks and their followers, anchors, and the frame event's part
(R19 to R25, R33 to R35), with the image server's restart (R59). -/

namespace Sys2Proof.Machine

namespace State

/-- Records return to the tail of the free list, in order (R20). -/
def freeRecs (s : State) (rs : List Rec) : State := { s with free := s.free ++ rs.map Rec.idx }

/-- A segment of image `id` for a requester. -/
def isImage (dst : Addr) (id : Nat) : OutMsg → Bool
  | .image d _ _ i _ _ _ _ _ => decide (d = dst) && decide (i = id)
  | _ => false

/-- A change that reaches the channel being served before the last segment is queued restarts its image: the
segments not begun are taken back, and the server starts afresh (R59, R182). R59 does not say when the restarted image
takes its new id: the change only drops the image, and the id counter rises as the server starts it again at its next
turn, so that several changes before that turn raise it once, which is the model's choice (log 42). -/
def imageTouched (s : State) (c : Chan) : State :=
  match s.repl.serving, s.repl.service with
  | some sv, (dst, c') :: _ =>
    if c' = c ∧ sv.next < sv.count then
      (s.takeBack .two (isImage dst sv.imageId)).setRepl fun r => { r with serving := none }
    else s
  | _, _ => s

/-- A count-0 answer enters class 2 at once when it can, else it waits for a free entry (R58). Its fields to which no
rule gives a content are free values, drawn afresh (log 9). -/
def answerNone (s : State) (dst : Addr) (chan : Byte) : State :=
  if s.repl.zeroAnswers.isEmpty && s.hasRoom .two then
    { s.enqueue (.imageNone dst chan s.freeCount) with freeCount := s.freeCount + 1 }
  else s.setRepl fun r => { r with zeroAnswers := r.zeroAnswers ++ [(dst, chan)] }

/-- The channel at the head of the image service leaves CURRENT before its last segment is queued: its segments not
begun are taken back, a count of 0 is sent in their place, and the request is dropped (R59, R182). -/
def dropService (s : State) (c : Chan) : State :=
  match s.repl.service with
  | (dst, c') :: rest =>
    let done := s.repl.serving.elim false fun sv => decide (sv.count ≤ sv.next)
    if c' = c ∧ done = false then
      let t := match s.repl.serving with
        | some sv => s.takeBack .two (isImage dst sv.imageId)
        | none => s
      (t.setRepl fun r => { r with serving := none, service := rest }).answerNone dst (BitVec.ofNat 8 (c.val + 1))
    else s
  | [] => s

/-- The channels that are followers of `c` by R19, in rising order. -/
def followersOf (s : State) (c : Chan) : List Chan :=
  (List.finRange 32).filter fun f => decide (s.leaderOf f = some c)

/-- Free the past events beyond four (R24). -/
def trim (s : State) (c : Chan) : State :=
  let x := trimList (s.chan c).list
  if x.1.isEmpty then s
  else ((s.modChan c fun ch => { ch with list := x.2 }).freeRecs x.1).imageTouched c

/-- Mark past (R23). -/
def markPast (s : State) (c : Chan) : State :=
  s.modChan c fun ch => { ch with list := markPastList s.rate s.now ch.anchor ch.list }

/-- One channel's walk, with the marking and trimming that follow it and the slot's reading of it
(R23 to R31, R147 to R149). A channel not watched has no list and is not walked. -/
def walkOwn (s : State) (c : Chan) : State :=
  if (s.chan c).watched then
    let t := s.modChan c fun ch =>
      { ch with list := walkList s.rate s.now (s.leaderStart c) ch.anchor ch.list }
    ((t.markPast c).trim c).afterWalk c
  else s

/-- The walk of a channel, and at once those of its followers (R25, R48). -/
def walk (s : State) (c : Chan) : State := (s.followersOf c).foldl (fun s f => s.walkOwn f) (s.walkOwn c)

/-- Write the anchor, whatever stood before, and walk (R23, R33). -/
def writeAnchor (s : State) (c : Chan) (a : Anchor) : State :=
  (s.modChan c fun ch => { ch with anchor := some a, list := clearPastFrom a.event ch.list }).walk c

/-- Remove the anchor and walk unanchored (R34, R35). -/
def removeAnchor (s : State) (c : Chan) : State := (s.modChan c fun ch => { ch with anchor := none }).walk c

/-- Drop an anchor whose event the list no longer holds (R35); the caller walks. -/
def dropLostAnchor (s : State) (c : Chan) : State :=
  s.modChan c fun ch => match ch.anchor with
    | some a => if (findEvent a.event ch.list).isSome then ch else { ch with anchor := none }
    | none => ch

/-- Whether a channel's BEAT anchor is more than Ta frames behind now (R34). -/
def beatAnchorOld (s : State) (c : Chan) : Bool :=
  match (s.chan c).anchor with
  | some a => decide (a.source = .beat) && decide ((s.cfg.ta : Int) < s.age a.report)
  | none => false

/-- The BEAT anchor that has passed the report age limit is removed (R34). -/
def expireAnchor (s : State) (c : Chan) : State := if s.beatAnchorOld c then s.removeAnchor c else s

/-- Whether the AIR anchor's event ends at or before now, which calls for a walk at the frame event (R25). -/
def airRunOut (s : State) (c : Chan) : Bool :=
  match (s.chan c).airEvent.bind fun id => findEvent id (s.chan c).list with
  | some e => match e.derived.stop with
    | some p => s.reached p
    | none => false
  | none => false

/-- The store's work on one channel at a frame event: the walk an AIR anchor calls for, or marking and trimming,
with the followers' walks when a freed event carried a lock key (R23 to R25). -/
def frameStore (s : State) (c : Chan) : State :=
  if (s.chan c).watched then
    if s.airRunOut c then s.walk c
    else
      let t := s.markPast c
      let keyed := (trimList (t.chan c).list).1.any fun e => e.stated.lockKey.isSome
      let t := t.trim c
      if keyed then (t.followersOf c).foldl (fun s f => s.walkOwn f) t else t
  else s

end State

end Sys2Proof.Machine
end

