-- ==== Sys2Proof/Machine/Replica.lean ====
section
/-! DEFINITION. Replica states, image requests, parked entries, and what a change of authority or epoch does
(R42, R49 to R53, R57). -/

namespace Sys2Proof.Machine

namespace State

/-- Free the parked entries of a channel that `p` names. -/
def freeParked (s : State) (c : Chan) (p : Parked → Bool) : State :=
  s.setRepl fun r => { r with parked := r.parked.filter fun e => !(decide (e.chan = c) && p e) }

/-- Whether the parked edit queue has a free entry (R40). -/
def parkRoom (s : State) : Bool := s.repl.parked.length < 16

/-! ### Image requests (R51 to R53) -/

/-- The candidates of R52 in order: relays whose link is UP under MAIN, the holder under SITE, then the peers whose
last BEACON shows the channel CURRENT. -/
def candidates (s : State) (c : Chan) : List Addr :=
  let first := match (s.chan c).authority with
    | .main => [17, 18, 19, 20].filter fun a => (s.peer a).link = .up
    | .site => (s.view c).holder.toList.filter fun a => a ≠ s.me
  first ++ ((List.range 16).map (· + 1)).filter fun a =>
    (s.peer a).current.getLsbD c.val && decide (a ≠ s.me) && decide (a ∉ first)

/-- An IMAGEREQ for a channel to a target `p` names. -/
def isAsk (c : Chan) (p : Addr → Bool) : OutMsg → Bool
  | .imagereq c' d => decide (c' = c) && p d
  | _ => false

def modRequest (s : State) (c : Chan) (f : ImageRequest → ImageRequest) : State :=
  s.modChan c fun ch => { ch with request := ch.request.map f }

/-- Queue the IMAGEREQ to the present target when class 1 has a free entry (R53). -/
def putAsk (s : State) (c : Chan) : State :=
  match (s.chan c).request with
  | some q =>
    match q.stage, q.ask, q.target with
    | .asking, .unqueued, some t =>
      if s.hasRoom .one then (s.enqueue (.imagereq c t)).modRequest c fun q => { q with ask := .queued } else s
    | _, _, _ => s
  | none => s

/-- What goes into class 1 before the IMAGEREQ of a channel at a frame event: a held BEACON, the pending VERDICTs, and
the IMAGEREQs of the channels below it (R183). -/
def beforeAsk (s : State) (c : Chan) : State :=
  if s.time.frameOpen then forChans (fun d t => if d < c then t.putAsk d else t) (s.beforeVerdict 4) else s

/-- Offer the IMAGEREQ to the present target (R53, R183). -/
def askTarget (s : State) (c : Chan) : State := (s.beforeAsk c).putAsk c

/-- Take the first candidate not yet asked in the round as the target, or go to WAITING (R52, R53). Where an IMAGEREQ
for the channel to that target already stands in class 1, begun or not, no second one is queued and its echo is taken,
the model's choice (log 32). -/
def chooseTarget (s : State) (c : Chan) : State :=
  match (s.chan c).request with
  | none => s
  | some q =>
    match (s.candidates c).find? fun a => a ∉ q.asked with
    | none => s.modRequest c fun q => { q with target := none, timer := 0, stage := .waiting, ask := .unqueued }
    | some t =>
      let there := (s.queue .one).any fun e => isAsk c (fun d => d = t) e.msg
      (s.modRequest c fun q => { q with target := some t, timer := 0, stage := .asking,
                                        ask := if there then .queued else .unqueued }).askTarget c

/-- A new round: nobody asked, a target chosen at once; an unsent IMAGEREQ to another target is taken back
(R53, R182). A round that finds no candidate takes an unsent IMAGEREQ back too, the model's choice (log 32). -/
def newRound (s : State) (c : Chan) : State :=
  let t := (s.candidates c).head?
  let s := s.takeBack .one (isAsk c fun d => decide (some d ≠ t))
  (s.modRequest c fun q => { q with asked := [] }).chooseTarget c

/-- An image request begins (R51). -/
def beginRequest (s : State) (c : Chan) : State :=
  if s.active && (s.chan c).watched && (s.chan c).request.isNone then
    (s.modChan c fun ch => { ch with request := some ⟨[], none, 0, .waiting, .unqueued⟩ }).newRound c
  else s

/-- A new round of the channel's request, which begins if there is none (R50). -/
def roundAgain (s : State) (c : Chan) : State :=
  if (s.chan c).request.isSome then s.newRound c else s.beginRequest c

/-! ### Replica states (R49, R57) -/

/-- The records of a shadow list, in shadow order. -/
def shadowRecs (sh : Shadow) : List Rec := sh.segments.flatMap Prod.snd

/-- Return the shadow's records to the free list and close it (R57); the replica state is the caller's. -/
def freeShadow (s : State) (c : Chan) : State :=
  match (s.chan c).shadow with
  | some sh => (s.modChan c fun ch => { ch with shadow := none }).freeRecs (shadowRecs sh)
  | none => s

/-- Abandon a load and return to the state and cause held before it (R57: a timeout or a TAKE). -/
def abandonLoad (s : State) (c : Chan) : State :=
  match (s.chan c).shadow with
  | some sh => (s.freeShadow c).modChan c fun ch => { ch with replica := sh.prior.1, cause := sh.prior.2 }
  | none => s

/-- The replica becomes STALE with a cause (R49): from LOADING its load is abandoned (R57), from STALE only the
cause changes, and an EMPTY channel, which holds no list, stays EMPTY (log 16). A channel leaving CURRENT is no longer
served (R59). -/
def setStale (s : State) (c : Chan) (cause : StaleCause) : State :=
  if (s.chan c).replica = .empty then s
  else
    let t := if (s.chan c).replica = .current then s.dropService c else s
    (t.freeShadow c).modChan c fun ch => { ch with replica := .stale, cause := some cause }

/-- STALE from CURRENT begins the image request (R49); one in progress goes on (R51). -/
def makeStale (s : State) (c : Chan) (cause : StaleCause) : State := (s.setStale c cause).beginRequest c

/-- A change of the channel's epoch restarts an image being sent (R59); an epoch that is the same does not. -/
def epochTouched (s : State) (c : Chan) (epoch : Nat) : State :=
  if epoch = (s.chan c).epoch then s else s.imageTouched c

/-- What a TAKE accepted with a new epoch changes (R50): authority SITE, the epoch, sequence 0; older parked
entries freed; a load abandoned; a request in progress begins a new round. -/
def takeChanges (s : State) (c : Chan) (epoch : Nat) : State :=
  let t := (s.epochTouched c epoch).modChan c fun ch => { ch with authority := .site, epoch := epoch, nextSeq := 0 }
  let t := (t.freeParked c fun e => e.epoch < epoch).abandonLoad c
  if (t.chan c).request.isSome then t.newRound c else t

/-- What the return of authority to the main site changes (R50): authority MAIN, the return epoch when there is
one, sequence 0; replica STALE with cause HANDBACK; a new round of the image request. -/
def mainReturns (s : State) (c : Chan) (epoch : Option Nat) : State :=
  let t := (s.epochTouched c (epoch.getD (s.chan c).epoch)).modChan c fun ch =>
    { ch with authority := .main, epoch := epoch.getD ch.epoch, nextSeq := 0 }
  (t.setStale c .handback).roundAgain c

/-- A load that has waited 100 frames for a segment is abandoned, and the request moves on, whatever its stage (R57). -/
def loadTimeout (s : State) (c : Chan) : State :=
  match (s.chan c).shadow with
  | some sh => if 100 ≤ sh.age then (s.abandonLoad c).chooseTarget c else s
  | none => s

/-- A target that has given no segment for 100 frames after the echo is passed by (R53). -/
def targetTimeout (s : State) (c : Chan) : State :=
  match (s.chan c).request with
  | some q => if q.stage = .asking ∧ q.ask = .echoed ∧ 100 ≤ q.timer then s.chooseTarget c else s
  | none => s

/-- After 250 frames in WAITING a new round begins (R53). -/
def roundRestart (s : State) (c : Chan) : State :=
  match (s.chan c).request with
  | some q => if q.stage = .waiting ∧ 250 ≤ q.timer then s.newRound c else s
  | none => s

/-- Parked entries of a channel that have reached 50 frames (R42). -/
def parkedTimeout (s : State) (c : Chan) : State :=
  if s.repl.parked.any fun e => decide (e.chan = c) && decide (50 ≤ e.age) then
    match (s.chan c).replica with
    | .current => ((s.setStale c .gap).freeParked c fun _ => true).beginRequest c
    | .loading => s
    | _ => s.freeParked c fun e => 50 ≤ e.age
  else s

end State

end Sys2Proof.Machine
end

