-- ==== Sys2Proof/Machine/Flags.lean ====
section
/-! DEFINITION. The evidence flags and every way they change, the health state machine, and the return of authority
(R66 to R81). -/

namespace Sys2Proof.Machine

/-- A flag takes a value: a new one restarts its since position and duration (R71). -/
def EvFlag.put (f : EvFlag) (now : Pos) (v : Bool) : EvFlag := if f.value = v then f else ⟨v, now, 0⟩

/-- A frame event at which the flag keeps its value (R71). -/
def EvFlag.tick (f : EvFlag) : EvFlag := { f with duration := min 3000 (f.duration + 1) }

/-- The hold restarts without a change of value (R79). -/
def EvFlag.restart (f : EvFlag) (now : Pos) : EvFlag := { f with since := now, duration := 0 }

/-- A flag set, or clear, for `n` frames (R71). -/
def EvFlag.held (f : EvFlag) (v : Bool) (n : Nat) : Bool := decide (f.value = v) && decide (n ≤ f.duration)

/-- A verdict source is fresh (R70). -/
def VerdictSource.fresh (r : Rate) (now : Pos) (x : VerdictSource) : Bool :=
  decide (Pos.diff r x.heardAt now ≤ 125) && decide (x.verdict ≠ .unknown)

/-- The verdicts that speak against a picture (R70). -/
def Verdict.bad : Verdict → Bool
  | .frozen | .flat | .dark | .noSignal => true
  | _ => false

/-- A fresh NOMINAL picture is present (R70). -/
def WatchRec.freshNominal (r : Rate) (now : Pos) (w : WatchRec) : Bool :=
  w.sources.any fun x => x.fresh r now && decide (x.verdict = .nominal)

/-- The picture flags follow the sources (R70). -/
def WatchRec.setPicture (r : Rate) (now : Pos) (w : WatchRec) : WatchRec :=
  { w with pictureBad := w.pictureBad.put now (w.sources.any fun x => x.fresh r now && x.verdict.bad)
           pictureUnknown := w.pictureUnknown.put now (!(w.sources.any fun x => x.fresh r now)) }

/-- MAIN FAULT follows the last beat entry (R67). -/
def WatchRec.setFault (now : Pos) (w : WatchRec) : WatchRec :=
  { w with mainFault := w.mainFault.put now (w.lastBeat.elim false fun b => decide (b.main = .fault)) }

/-- BEAT LOST follows the beat timer (R66). -/
def WatchRec.setBeatLost (tb : Nat) (now : Pos) (w : WatchRec) : WatchRec :=
  { w with beatLost := w.beatLost.put now (decide (tb ≤ w.beatTimer)) }

/-- A verdict of a station enters the sources (R69): its own entry moves to the tail; with four of others, the head
goes. -/
def enterVerdict (xs : List VerdictSource) (a : Addr) (v : Verdict) (now : Pos) : List VerdictSource :=
  let rest := xs.filter fun x => x.addr ≠ a
  (if rest.length < 4 then rest else rest.drop 1) ++ [⟨a, v, now⟩]

/-- The evidence as the evaluation reads it: the picture is absent while the channel is site-held (R72). -/
structure Evidence where
  beatLost : EvFlag
  mainFault : EvFlag
  pictureBad : EvFlag
  pictureUnknown : Bool
  linkDown : Bool
  nominal : Bool
  siteHeld : Bool
  beating : Bool
  deriving DecidableEq, Repr

/-- Read a record's evidence (R72). `beating`: a last entry says ON AIR or STANDBY (R77). -/
def WatchRec.evidence (r : Rate) (now : Pos) (siteHeld : Bool) (w : WatchRec) : Evidence :=
  { beatLost := w.beatLost
    mainFault := w.mainFault
    pictureBad := if siteHeld then { w.pictureBad with value := false } else w.pictureBad
    pictureUnknown := siteHeld || w.pictureUnknown.value
    linkDown := w.linkDown.value
    nominal := !siteHeld && w.freshNominal r now
    siteHeld := siteHeld
    beating := w.lastBeat.elim false fun b => decide (b.main ≠ .fault) }

/-- Any evidence holds (R72). -/
def Evidence.any (e : Evidence) : Bool := e.beatLost.value || e.mainFault.value || e.pictureBad.value

/-- The link-loss condition (R72). -/
def Evidence.linkLoss (e : Evidence) : Bool := e.beatLost.value && e.linkDown && !e.pictureBad.value

/-- The failure condition, (a) to (d) of R75. -/
def Evidence.failure (cfg : Settings) (e : Evidence) : Bool :=
  (e.beatLost.value && e.pictureBad.value) ||
  (e.mainFault.value && !e.nominal) ||
  e.pictureBad.held true cfg.tp ||
  (e.beatLost.held true cfg.tu && e.pictureUnknown && !e.linkDown)

/-- The rule of one health state (R74, R76 to R78). -/
def healthRule (cfg : Settings) (e : Evidence) : Health → Health
  | .nominal => if e.any then .suspect else .nominal
  | .suspect =>
    if e.failure cfg then .failed else if e.linkLoss then .linkLost else if !e.any then .nominal else .suspect
  | .linkLost =>
    if e.failure cfg then .failed
    else if !e.beatLost.value then (if e.any then .suspect else .nominal)
    else if !e.linkDown then .suspect
    else .linkLost
  | .failed =>
    if e.siteHeld then
      if e.beating && e.beatLost.held false cfg.tr && e.mainFault.held false cfg.tr then .recovered else .failed
    else if e.beatLost.held false cfg.tr && e.mainFault.held false cfg.tr && e.pictureBad.held false cfg.tr then
      .nominal
    else .failed
  | .recovered => if e.beatLost.value || e.mainFault.value then .failed else .recovered

/-- The chain of one evaluation (R73): each rule in turn until one moves nothing. Five states bound it. -/
def healthChain (cfg : Settings) (e : Evidence) : Nat → Health → Health
  | 0, h => h
  | n + 1, h => if healthRule cfg e h = h then h else healthChain cfg e n (healthRule cfg e h)

namespace State

/-- Whether this station's view names a holder (R72). -/
def siteHeld (s : State) (c : Chan) : Bool := (s.view c).holder.isSome

/-- Return authority over a channel to the main site when the five conditions of R81 hold. -/
def authorityTest (s : State) (c : Chan) : State :=
  match s.watchRec c with
  | some w =>
    if (s.loader.station = .ready ∨ s.loader.station = .degraded) ∧ (s.chan c).authority = .site ∧
        (s.view c).holder = none ∧ w.orphan = false ∧ w.health = .nominal then
      s.mainReturns c none
    else s
  | none => s

/-- Set a watched channel's health from the chain started at `start` (R73). -/
def settleHealth (s : State) (c : Chan) (start : Health) : State :=
  s.modWatch c fun w =>
    { w with health := healthChain s.cfg (w.evidence s.rate s.now (s.siteHeld c)) 6 start }

/-- The evaluation of a channel's health (R73); entering NOMINAL makes the test of R81. -/
def evaluate (s : State) (c : Chan) : State :=
  match s.watchRec c with
  | some w =>
    let t := s.settleHealth c w.health
    if w.health ≠ .nominal ∧ (t.watchRec c).map WatchRec.health = some .nominal then t.authorityTest c else t
  | none => s

/-- The restart of a channel's judgement when its holder is cleared (R79). -/
def restartHealth (s : State) (c : Chan) : State :=
  let t := s.modWatch c fun w =>
    { w with beatLost := w.beatLost.restart s.now, mainFault := w.mainFault.restart s.now,
             pictureBad := w.pictureBad.restart s.now, pictureUnknown := w.pictureUnknown.restart s.now,
             linkDown := w.linkDown.restart s.now, health := .nominal }
  t.settleHealth c .nominal

/-- LINK DOWN in every record, while no relay has link state UP (R68). -/
def updateLink (s : State) : State :=
  let down := !([17, 18, 19, 20].any fun a => (s.peer a).link = .up)
  { s with watch := s.watch.map (Option.map fun w => { w with linkDown := w.linkDown.put s.now down }) }

/-- The picture flags of a channel (R70). -/
def updatePicture (s : State) (c : Chan) : State := s.modWatch c (WatchRec.setPicture s.rate s.now)

/-- BEAT LOST of a channel (R66). -/
def updateBeatLost (s : State) (c : Chan) : State := s.modWatch c (WatchRec.setBeatLost s.cfg.tb s.now)

/-- A station's verdict for a channel enters its sources, and the picture flags follow (R69, R70). -/
def verdictEnters (s : State) (c : Chan) (a : Addr) (v : Verdict) : State :=
  (s.modWatch c fun w => { w with sources := enterVerdict w.sources a v s.now }).updatePicture c

/-- The beats of a channel are fresh (R66). -/
def beatsFresh (s : State) (c : Chan) : Bool :=
  match s.watchRec c with
  | some w => !w.beatLost.value && w.lastBeat.isSome
  | none => false

/-- The flag changes and the evaluation of one channel at a frame event, in the order of R71. -/
def frameWatch (s : State) (c : Chan) : State := (((s.updateBeatLost c).updatePicture c).evaluate c)

end State

end Sys2Proof.Machine
end

