-- ==== Sys2Proof/Machine/Claims.lean ====
section
/-! DEFINITION. The takeover view, hearing a station, and the claim engine (R102, R105, R107 to R125). -/

namespace Sys2Proof.Machine

/-- A claim of a station. -/
structure WholeClaim where
  addr : Addr
  claim : Claim
  deriving DecidableEq, Repr

/-- `x` is better than `y` (R107). -/
def WholeClaim.better (x y : WholeClaim) : Bool :=
  if x.claim.forced && !y.claim.forced then true
  else if x.claim.forced && y.claim.forced then decide (x.addr < y.addr)
  else if !x.claim.forced && !y.claim.forced then decide (x.claim.weight < y.claim.weight)
  else false

/-- Judgement of a TAKE (R108). -/
inductive TakeResult where
  | accepted | notAccepted | duplicate
  deriving DecidableEq, Repr

/-- R108's table: a TAKE of station `p` under new epoch `t`, against the view and the channel's epoch. -/
def judgeTake (me : Addr) (v : View) (epoch : Nat) (p : Addr) (t : Nat) (claim : Claim) : TakeResult :=
  match v.holder with
  | none => if epoch ≤ t then .accepted else .notAccepted
  | some q =>
    let better : Bool := match v.holderClaim with
      | some hc => WholeClaim.better ⟨p, claim⟩ ⟨q, hc⟩
      | none => true
    if q = p then .notAccepted
    else if q = me then
      if v.holderEpoch < t ∨ (t = v.holderEpoch ∧ better) then .duplicate else .notAccepted
    else if v.holderEpoch < t ∨ (t = v.holderEpoch ∧ better) then .accepted
    else .notAccepted

/-- Whether a new pending duplicate replaces a recorded one (R124). -/
def Duplicate.beats (x y : Duplicate) : Bool :=
  decide (y.epoch < x.epoch) ||
    (decide (x.epoch = y.epoch) &&
      match x.claim, y.claim with
      | some a, some b => WholeClaim.better ⟨x.addr, a⟩ ⟨y.addr, b⟩
      | _, _ => decide (x.addr < y.addr))

/-- Insert an exclusion by its until position (R106, R121). -/
def insertExclusion (r : Rate) (x : Addr × Pos) : List (Addr × Pos) → List (Addr × Pos)
  | [] => [x]
  | y :: ys => if Pos.before r x.2 y.2 then x :: y :: ys else y :: insertExclusion r x ys

/-- An exclusion is added: an entry of the same rival goes, and with four held the earliest goes (R121). -/
def addExclusion (r : Rate) (xs : List (Addr × Pos)) (x : Addr × Pos) : List (Addr × Pos) :=
  let rest := xs.filter fun y => y.1 ≠ x.1
  insertExclusion r x (if rest.length < 4 then rest else rest.drop 1)

namespace State

/-! ### Holders and hearing (R79, R83, R104, R105, R109) -/

/-- The orphan flag and source of a channel are cleared (R83). -/
def clearOrphan (s : State) (c : Chan) : State :=
  (s.modView c fun v => { v with orphanSource := none }).modWatch c fun w => { w with orphan := false }

/-- The holder of a channel is cleared (R109): the claim becomes unknown, the epoch is kept, a DEFERRED contest
with no rival returns to IDLE. Health is the caller's. -/
def dropHolder (s : State) (c : Chan) : State :=
  s.modView c fun v =>
    { v with holder := none, holderClaim := none
             contest := if v.contest = .deferred ∧ v.rival = none then .idle else v.contest }

/-- The holder is cleared and the channel is judged afresh, with the test of R81 (R79, R109, R167). -/
def clearHolder (s : State) (c : Chan) : State := (((s.dropHolder c).clearOrphan c).restartHealth c).authorityTest c

/-- A silent holder's channel becomes an orphan (R83, R105). -/
def orphanHolder (s : State) (c : Chan) (a : Addr) : State :=
  let t := (s.dropHolder c).modView c fun v => { v with orphanSource := some a }
  ((t.modWatch c fun w => { w with orphan := true }).restartHealth c).authorityTest c

/-- The holder is set under an epoch, with the changes R50 gives for a TAKE; health is evaluated at once
(R79, R104, R108). R79 has a channel taken while FAILED stay FAILED, and has it evaluated at once by R73, whose table may
give RECOVERED: the model evaluates (log 29). R83 clears the orphan flag when the channel is taken, and R108 clears flag
and source for a TAKE; that a holder learned from a BEACON clears them too, where R104 names only the holder's fields
and R50's changes, is the model's choice (log 43). -/
def setHolder (s : State) (c : Chan) (a : Addr) (epoch : Nat) (claim : Option Claim) : State :=
  let t := s.modView c fun v => { v with holder := some a, holderEpoch := epoch, holderClaim := claim }
  ((t.clearOrphan c).takeChanges c epoch).evaluate c

/-- A TAKE accepted (R108): the holder's changes, and STALE with cause DIVERGED when edits of that epoch had been
applied from another party. -/
def acceptTake (s : State) (c : Chan) (a : Addr) (epoch : Nat) (claim : Option Claim) : State :=
  let diverged := decide (epoch = (s.chan c).epoch) && decide ((s.chan c).nextSeq ≠ 0)
  let t := s.setHolder c a epoch claim
  if diverged then t.makeStale c .diverged else t

/-- A station is heard (R102, R105): its count returns to 0, an absent peer becomes present, and the orphan flags it
is the source of are cleared, each with the test of R81. -/
def hear (s : State) (a : Addr) : State :=
  let was := (s.peer a).present
  let t := s.modPeer a fun p => { p with heard := true, count := 0, present := true }
  if was then t
  else
    forChans (fun c s => if (s.view c).orphanSource = some a then (s.clearOrphan c).authorityTest c else s) t

/-- A peer whose count has reached 36 is silent (R105). -/
def peerGone (s : State) (a : Addr) : State :=
  if 1 ≤ a ∧ a ≤ 16 ∧ (s.peer a).present ∧ 36 ≤ (s.peer a).count then
    let t := s.modPeer a fun p => { p with present := false }
    let t := forChans (fun c s => if (s.view c).holder = some a then s.orphanHolder c a else s) t
    t.modPeer a fun p => { p with onAir := [], current := 0, contest := 0 }
  else s

/-- A relay whose silence count has reached 75 has link state DOWN (R68). -/
def relayGone (s : State) (a : Addr) : State :=
  if 17 ≤ a ∧ a ≤ 20 ∧ 75 ≤ (s.peer a).count then (s.modPeer a fun p => { p with link := .down }).updateLink else s

/-! ### Weight and eligibility (R111, R112) -/

/-- The rank: the station's place in the preference list, 4 when it is not in it (R111). -/
def rank (s : State) (c : Chan) : Nat :=
  match (s.chan c).profile.preference.idxOf? s.me with
  | some i => min i 4
  | none => 4

/-- The weight of a claim started now (R111). -/
def weight (s : State) (c : Chan) : Nat := 1000 * (8 - s.freeSlots) + 100 * s.rank c + s.me

/-- The first list of R112, outside the release phase (R203). -/
def mayClaim (s : State) (c : Chan) : Bool :=
  decide (s.loader.station = .ready) && decide (s.time.timeState = .set) &&
    decide ((s.chan c).replica = .current) && decide (s.firstFree ≠ none) && decide ((s.view c).holder = none) &&
    decide (s.claims.current = none) && decide (s.loader.releasePhase = none)

/-- The further list of R112 for an automatic claim. -/
def autoClaim (s : State) (c : Chan) : Bool :=
  match s.watchRec c with
  | some w =>
    s.mayClaim c && decide ((s.view c).contest = .idle) && decide (w.health = .failed) && !w.inhibit &&
      (match (s.view c).ineligible with | some p => s.reached p | none => true) &&
      (!w.orphan || w.pictureBad.value)
  | none => false

/-! ### Contests (R113 to R121, R123) -/

/-- A CLAIM of serial `n`. -/
def isClaim (n : Nat) : OutMsg → Bool
  | .claim _ _ k => k = n
  | _ => false

/-- Start a claim (R114); the caller has seen a free class 0 entry and a FREE slot. -/
def startClaim (s : State) (c : Chan) (forced : Bool) : State :=
  match s.firstFree with
  | none => s
  | some n =>
    let own : Claim := ⟨forced, s.weight c⟩
    let k := s.claims.serial + 1
    let t := s.modSlot n fun x => { x with state := .reserved, chan := some c }
    let t := t.modView c fun v =>
      { v with contest := .claiming, own := some own, serial := k, rival := none, window := none }
    (t.setClaims fun e => { e with current := some c, serial := k }).enqueue (.claim c own k)

/-- The slot reserved for a channel becomes FREE (R116, R119, R120). -/
def freeReserved (s : State) (c : Chan) : State :=
  match (List.finRange 8).find? fun n => decide ((s.slot n).state = .reserved) && decide ((s.slot n).chan = some c) with
  | some n => s.modSlot n fun x => { x with state := .free, chan := none }
  | none => s

/-- A CLAIMING contest ends in `after`: its CLAIM is taken back if unsent, its slot freed, its window stops
(R116, R117, R120). -/
def endClaim (s : State) (c : Chan) (after : Contest) (rival : Option Rival) : State :=
  let t := (s.takeBack .zero (isClaim (s.view c).serial)).freeReserved c
  (t.modView c fun v => { v with contest := after, own := none, window := none, rival := rival }).setClaims
    fun e => { e with current := none }

/-- What goes into class 0 before a claim that is started at a frame event: the outbox and the waiting cancels (R183). A
TAKE that waits for room is the current contest's, and no claim is started beside it. -/
def beforeClaim (s : State) : State := if s.time.frameOpen then s.offerCancels else s

/-- The latch runs when there is no current contest (R123). With class 0 full the channel stays latched (R122). -/
def runLatch (s : State) : State :=
  if s.claims.current = none ∧ s.loader.releasePhase = none then
    match s.claims.latch with
    | some c =>
      if s.mayClaim c then
        let t := s.beforeClaim
        if t.hasRoom .zero then (t.setClaims fun e => { e with latch := none }).startClaim c true else t
      else s.setClaims fun e => { e with latch := none }
    | none => s
  else s

/-- The automatic candidate: the lowest rank, then the lowest channel number (R113). -/
def bestCandidate (s : State) : Option Chan :=
  (List.finRange 32).foldl (fun best c =>
    if s.autoClaim c then
      match best with
      | some b => if s.rank c < s.rank b then some c else best
      | none => some c
    else best) none

/-- The claim engine's look (R113): the latch first (R123), then an automatic candidate. -/
def look (s : State) : State :=
  let t := s.runLatch
  if t.claims.current = none ∧ t.claims.latch = none then
    match t.bestCandidate with
    | some c => let u := t.beforeClaim; if u.hasRoom .zero then u.startClaim c false else u
    | none => t
  else t

/-- Whether the current CLAIMING contest's conditions have lapsed (R120). -/
def claimLapsed (s : State) (c : Chan) : Bool :=
  let forced := (s.view c).own.elim false Claim.forced
  decide (s.loader.station ≠ .ready) || decide (s.time.timeState ≠ .set) || decide ((s.chan c).replica ≠ .current) ||
    (!forced &&
      match s.watchRec c with
      | some w => decide (w.health ≠ .failed) || w.inhibit || (w.orphan && !w.pictureBad.value)
      | none => true)

/-- The withdrawal of R120, and the look that follows it (R113). -/
def review (s : State) : State :=
  match s.claims.current with
  | some c =>
    if (s.view c).contest = .claiming ∧ s.claimLapsed c then (s.endClaim c .idle none).look else s
  | none => s

/-- A pending duplicate is recorded, or replaces a worse one (R124). -/
def recordDuplicate (s : State) (c : Chan) (d : Duplicate) : State :=
  s.modView c fun v => match v.duplicate with
    | some old => if d.beats old then { v with duplicate := some d } else v
    | none => { v with duplicate := some d }

/-- How a TAKE heard moves the contest of a watched channel (R117). -/
def contestOnTake (s : State) (c : Chan) (accepted : Bool) (rival : Rival) : State :=
  if (s.chan c).watched then
    match (s.view c).contest with
    | .idle => if accepted then s.modView c fun v => { v with contest := .deferred, rival := none } else s
    | .claiming => (s.endClaim c .deferred (if accepted then none else some rival)).look
    | .deferred => if accepted then s.modView c fun v => { v with rival := none } else s
    | _ => s
  else s

/-- The TAKE of a CLAIMING contest whose window has reached Tw is queued, when class 0 has a free entry (R118);
the outbox and the cancels go first (R183). -/
def offerTake (s : State) : State :=
  match s.claims.current with
  | some c =>
    let v := s.view c
    match v.contest, v.window, v.own with
    | .claiming, some w, some own =>
      if s.cfg.tw ≤ w then
        let t := s.offerCancels
        if t.hasRoom .zero then
          (t.modView c fun v => { v with contest := .taking }).enqueue
            (.take c own (min max32 ((s.chan c).epoch + 1)))
        else t
      else s
    | _, _, _ => s
  | none => s

/-- The dead-winner exclusion (R121). -/
def deadWinner (s : State) (c : Chan) : State :=
  let v := s.view c
  match v.contest, v.holder, v.rival with
  | .deferred, none, some rv =>
    if ((s.cfg.tw + 12 : Nat) : Int) ≤ s.age rv.heardAt then
      (s.modView c fun v =>
        { v with exclusions := addExclusion s.rate v.exclusions (rv.addr, s.now.add s.rate 250),
                 rival := none, contest := .idle }).look
    else s
  | _, _, _ => s

/-- Exclusions whose until position is reached are removed (R121). -/
def expireExclusions (s : State) (c : Chan) : State :=
  s.modView c fun v => { v with exclusions := v.exclusions.filter fun x => !s.reached x.2 }

/-- The air-fault ineligibility is cleared at its position (R125). -/
def expireIneligible (s : State) (c : Chan) : State :=
  s.modView c fun v => match v.ineligible with
    | some p => if s.reached p then { v with ineligible := none } else v
    | none => v

end State

end Sys2Proof.Machine
end

