-- ==== Sys2Proof/Machine/Release.lean ====
section
/-! DEFINITION. Releasing a channel (R110, R164, R165). -/

namespace Sys2Proof.Machine

namespace State

/-- A LINE word with level off for each line that is on, in line order (R165 step 3). -/
def linesOff (s : State) (n : SlotId) : State :=
  (List.finRange 4).foldl (fun t l => if (s.slot n).lines.get l then t.emit n (.line l false) else t) s

/-- Step 1 of R165: a plan that the release ends is cancelled. -/
def cancelPlan (s : State) (n : SlotId) (c : Chan) (reason : ReleaseReason) : State :=
  match (s.slot n).handback with
  | some h =>
    if reason = .handback then s
    else (s.offerCancel (.handover c h.event h.boundary h.returnEpoch true)).slotEntry n .handbackAborted (some h.event) none
  | none => s

/-- Steps 4 and 5 of R165: the slot's context is discarded and the slot is FREE; an AIR anchor goes, and the
channel is walked unanchored. -/
def vacate (s : State) (n : SlotId) (c : Chan) : State :=
  let air := (s.chan c).airEvent.isSome
  let t := s.modSlot n fun x => { Slot.reset x.tally with stepsDone := 9 }
  if air then t.removeAnchor c else t

/-- Step 7 of R165: the takeover view at the release (R109, R110). -/
def releaseView (s : State) (c : Chan) (reason : ReleaseReason) : State :=
  match reason, (s.view c).duplicate with
  | .duplicate, some d =>
    (s.acceptTake c d.addr d.epoch d.claim).modView c fun v =>
      { v with contest := .deferred, rival := none, own := none, duplicate := none }
  | _, _ =>
    ((s.dropHolder c).modView c fun v =>
      { v with contest := .idle, rival := none, own := none, duplicate := none }).clearOrphan c

/-- A release, taken whole at one frame event, in the order of R165. -/
def releaseSlot (s : State) (n : SlotId) (reason : ReleaseReason) : State :=
  match (s.slot n).chan with
  | none => s
  | some c =>
    let x := s.slot n
    let event := if reason = .handback then x.handback.map HandbackPlan.event else x.cur.bind Cue.event
    let ret := if reason = .handback then x.handback.map HandbackPlan.returnEpoch else none
    let t := s.cancelPlan n c reason
    let t := (t.emit n .stop).linesOff n
    let t := t.vacate n c
    let t := t.offerRelease (.release c reason s.now ret s.loader.releasePhase.isSome)
    let t := t.releaseView c reason
    let t := if reason = .handback then t.mainReturns c ret else t
    let t := t.writeEntry .release (some n) (some c) event none (some reason)
    let t := if reason = .duplicate then t else t.restartHealth c
    match reason with
    | .handback | .duplicate => t
    | .airFault =>
      (t.authorityTest c).modView c fun v => { v with ineligible := some (s.now.add s.rate 1500) }
    | _ => t.authorityTest c

/-- The reason of the release the slot has at a frame event: the one handed first, and the claim engine hands a duplicate
no sooner than this frame event (R124; log 24); else a pending duplicate (R124), else the release phase (R203). Those two
reach the slot together and R164 lets either be handed first; that the duplicate is, always, is the model's choice
(log 24). -/
def dueRelease (s : State) (n : SlotId) : Option ReleaseReason :=
  let x := s.slot n
  if !x.state.holds then none
  else
    match x.releasePending with
    | some r => some r
    | none =>
      if (x.chan.bind fun c => (s.view c).duplicate).isSome then some .duplicate
      else if s.loader.releasePhase.isSome then some .restart
      else none

/-- A release that arises in the slot's own steps is absorbed by one already pending (R164). R164 has a pending release
taken before or after the slot's own work and does not say when one that has absorbed such a cause is: that it is taken
at the step where the cause arises, 3 or 7, with the pending reason, and the later steps are not taken, is the model's
choice (log 49). A duplicate or RESTART due at the same frame event is not handed yet where the slot's own work comes
first, and the cause that arises in it is then the one taken (log 49). -/
def releaseBy (s : State) (n : SlotId) (reason : ReleaseReason) : State :=
  s.releaseSlot n ((s.slot n).releasePending.getD reason)

/-- Take the release that is due at this frame event (R164). -/
def takeRelease (s : State) (n : SlotId) : State :=
  match s.dueRelease n with
  | some r => s.releaseSlot n r
  | none => s

end State

end Sys2Proof.Machine
end

