-- ==== Sys2Proof/Machine/Join.lean ====
section
/-! DEFINITION. The join planner and its handover (R127 to R137). -/

namespace Sys2Proof.Machine

/-- An event covers J (R129). -/
def Rec.covers (r : Rate) (j : Pos) (e : Rec) : Bool :=
  !e.derived.eclipsed && !e.derived.past &&
    match e.derived.start with
    | none => false
    | some p =>
      Pos.atOrPast r j p &&
        match e.derived.stop with
        | some q => Pos.after r q j
        | none => match e.stated.stop with
          | .openEnd _ => true
          | .timed _ => false

/-- The next event after J (R129). -/
def Rec.startsAfter (r : Rate) (j : Pos) (e : Rec) : Bool :=
  !e.derived.eclipsed && !e.derived.past && (e.derived.start.elim false fun p => Pos.after r p j)

/-- The events from the walk's starting point (R129). -/
def ChannelRec.fromStart (ch : ChannelRec) : List Rec :=
  match ch.anchor.bind fun a => splitAt a.event ch.list with
  | some (_, e, after) => e :: after
  | none => ch.list.dropWhile fun e => e.derived.past

/-- A material position as a count of frames; above the field's top it is a free value (log 15). -/
def materialAt (n : Nat) : Nat := if n ≤ max32 then n else (Config.freeMaterialPosition n).toNat

/-- The position a source's material is cued at, `o` frames in (R132, R133); none for a source without material. -/
def Source.cuedAt (o : Nat) : Source → Option Nat
  | .clip _ p => some (materialAt (p + o))
  | _ => none

/-- The plan kind for a covering event at offset `o` (R130, lines 3 to 7). -/
def coveredKind (r : Rate) (cfg : Settings) (j : Pos) (e : Rec) (o : Nat) : PlanKind :=
  if o = 0 then .wholeStart
  else if o ≤ cfg.grace then .grace
  else if e.stated.join = .whole then .skip
  else
    match e.derived.stop with
    | some q => if Pos.diff r j q < (cfg.tailMargin : Int) then .skip else .mid
    | none => .mid

/-- The plan for a list at the join point `j` (R129 to R136). -/
def makePlan (r : Rate) (cfg : Settings) (basis : Basis) (slate : Nat) (j : Pos) (events : List Rec) : Plan :=
  match events.find? (Rec.covers r j) with
  | some e =>
    let start := e.derived.start.getD j
    let o := (Pos.diff r start j).toNat
    let kind := coveredKind r cfg j e o
    match kind with
    | .skip =>
      { kind := .skip, basis := basis, join := j, event := some e.stated.id, offset := o, source := .slate slate,
        material := none, actual := some start, fillEnd := e.derived.stop }
    | .mid =>
      { kind := .mid, basis := basis, join := j, event := some e.stated.id, offset := o,
        source := e.stated.source, material := e.stated.source.cuedAt o, actual := some start, fillEnd := none }
    | k =>
      { kind := k, basis := basis, join := j, event := some e.stated.id, offset := o,
        source := e.stated.source, material := e.stated.source.cuedAt 0, actual := some j, fillEnd := none }
  | none =>
    match events.find? (Rec.startsAfter r j) with
    | some e =>
      { kind := .gapSlate, basis := basis, join := j, event := some e.stated.id, offset := 0,
        source := .slate slate, material := none, actual := none, fillEnd := e.derived.start }
    | none =>
      { kind := .endOfSchedule, basis := basis, join := j, event := none, offset := 0, source := .slate slate,
        material := none, actual := none, fillEnd := none }

namespace State

/-- The plan for a channel taken now (R127, R128): an old BEAT anchor has expired before this. -/
def planFor (s : State) (c : Chan) : Plan :=
  makePlan s.rate s.cfg (if (s.chan c).anchor.isSome then .anchored else .unanchored) (s.defaultSlate c)
    (s.now.add s.rate s.cfg.lead) (s.chan c).fromStart

/-- The planner runs at the echo and hands its plan to the reserved slot, which becomes JOINING; the TAKE entry is
written, and the next event of a GAP SLATE within the arm lead is armed (R127, R128, R137). -/
def joinSchedule (s : State) (c : Chan) (epoch : Nat) : State :=
  match (List.finRange 8).find? fun n => decide ((s.slot n).state = .reserved) && decide ((s.slot n).chan = some c) with
  | none => s
  | some n =>
    let t := s.expireAnchor c
    let p := t.planFor c
    let t := t.modSlot n fun x => { x with state := .joining, epoch := some epoch, join := some p, joinOwed := true }
    let t := t.slotEntry n .take p.event none
    if p.kind = .gapSlate then t.armIfReady n else t

end State

end Sys2Proof.Machine
end

