-- ==== Sys2Proof/Machine/Fire.lean ====
section
/-! DEFINITION. A slot's work at a frame event, step by step: firing, lockstep, restarts, fills, faults, secondary
occurrences and arming (R137, R140, R146, R151 to R153, R156, R158 to R161, R172, R173). -/

namespace Sys2Proof.Machine

/-- The word that puts a source on air (R140, R151). -/
def Source.fireWord : Source → CueWord
  | .clip _ _ => .play
  | .live i => .route i
  | .slate n => .slate n

namespace State

/-- The CUT entry of R151 step 3: the outgoing event's natural end is unresolved, or later than now. R156 says of a
follower's outgoing event that it is cut, with a CUT entry, and has the fire taken as R151 gives from step 2; where that
event's natural end is at or before now the two differ, and that none is written then, as R151 has it, is the model's
choice (log 45). -/
def cutOutgoing (s : State) (n : SlotId) (c : Chan) : State :=
  match (s.slot n).cur.bind Cue.event with
  | none => s
  | some id =>
    match findEvent id (s.chan c).list with
    | none => s
    | some e =>
      let start := match (s.chan c).anchor with
        | some a => if a.event = id then some a.actual else e.derived.start
        | none => e.derived.start
      match start.bind (e.stated.naturalFrom s.rate) with
      | none => s.slotEntry n .cut (some id) none
      | some p => if Pos.after s.rate p s.now then s.slotEntry n .cut (some id) (some (Pos.diff s.rate s.now p)) else s

/-- SKIPPED entries for events passed over, in list order (R151 step 2). -/
def skipEntries (s : State) (n : SlotId) (ids : List Nat) : State :=
  ids.foldl (fun t id => t.slotEntry n .skipped (some id) none) s

/-- The tally watch starts at a PLAY (R151 step 8, R160 step 4), with the expected-by position of those rules and the
frame-event count of R13's last words (log 28). -/
def startWatch (s : State) (n : SlotId) : State :=
  s.modSlot n fun x =>
    { x with expectedBy := some (s.now.add s.rate s.cfg.confirm), sincePlay := 0, highSincePlay := x.tally,
             confirmed := false, playPos := some s.now }

/-- FALLBACK is left at a LIVE or SLATE fire; the cue end then gives ON AIR or HOLDING (R151 step 9, R161). -/
def leaveFallback (s : State) (n : SlotId) (src : Source) : State :=
  if src.isClip then s
  else s.modSlot n fun x => if x.state = .fallback then { x with state := .onAir, fallbackSince := none } else x

/-- The fired event becomes the current cue, the pending occurrences and the tally watch of the outgoing one go
(R147, R151 steps 4, 6 and 8). -/
def takeCue (s : State) (n : SlotId) (cue : Cue) : State :=
  let t := s.modSlot n fun x =>
    { x.clearWatch with cur := some cue, armed := none, pending := [], nextRepeat := [], owedFill := none,
                        fired := true }
  if cue.source.isClip && cue.event.isSome then t.startWatch n else t

/-- Fire an event from step 2 of R151 on; its words have been issued. -/
def fireFrom (s : State) (n : SlotId) (c : Chan) (e : Rec) (firePos : Pos) (lateBy : Nat) (skipped : List Nat) :
    State :=
  let st := e.stated
  let t := (s.skipEntries n skipped).cutOutgoing n c
  let t := t.takeCue n
    { event := some st.id, source := st.source, firePos := firePos, actual := s.now,
      material := st.source.cuedAt 0, cueEnd := none, anchored := s.now, cues := st.cues }
  let t := t.leaveFallback n st.source
  let t := t.writeAnchor c ⟨st.id, s.now, .air, s.now⟩
  let seq := t.logNext
  let t := if lateBy = 0 then t.slotEntry n .fired (some st.id) none
    else t.slotEntry n .late (some st.id) (some lateBy)
  t.modSlot n fun x => { x with firedSeq := some seq }

/-- The armed next cue fires (R151); with its event gone from the list, the default slate goes to air and the
slot is HOLDING, or stays FALLBACK (R152), the fill's fire position now and not the armed one (log 46). -/
def fireArmed (s : State) (n : SlotId) (c : Chan) (a : Armed) (lateBy : Nat) : State :=
  match findEvent a.event (s.chan c).list with
  | some e => (s.emit n e.stated.source.fireWord).fireFrom n c e a.firePos lateBy a.skipped
  | none =>
    let t := (s.emit n (.slate (s.defaultSlate c))).cutOutgoing n c
    let t := t.slotEntry n .slateFill none none
    (t.takeCue n (fillCue s.now (s.defaultSlate c))).modSlot n fun x => { x with state := x.state.byEnd none }

/-- Step 1 of R146: lines pulsed at the previous frame event go off (R158). No rule orders their LINE words; that they are
issued in rising line order is the model's choice (log 51). -/
def step1 (s : State) (n : SlotId) : State :=
  let x := s.slot n
  let t := (List.finRange 4).foldl (fun t l =>
    if x.pulsed.get l then
      (t.emit n (.line l false)).modSlot n fun y => { y with lines := y.lines.set l.val false l.isLt }
    else t) s
  t.modSlot n fun y => { y with pulsed := Vector.replicate 4 false }

/-- Step 2 of R146: the lock point (R150). -/
def step2 (s : State) (n : SlotId) : State :=
  match (s.slot n).armed with
  | some a =>
    if s.reached (a.firePos.sub s.rate s.cfg.lockLead) then
      s.modSlot n fun x => { x with armed := some { a with locked := true } }
    else s
  | none => s

/-- Take step `i` of a slot's work of the open frame event, unless it is taken already; a slot that holds no channel has
no work (R146). -/
def takeStep (s : State) (n : SlotId) (i : Nat) (f : State → State) : State :=
  if (s.slot n).stepsDone < i then
    (if (s.slot n).state.holds then f s else s).modSlot n fun x => { x with stepsDone := i }
  else s

/-- A slot's steps before step 3, unless they are taken already. -/
def firstSteps (s : State) (n : SlotId) : State :=
  (s.takeStep n 1 fun t => t.step1 n).takeStep n 2 fun t => t.step2 n

/-- Whether a committed plan has reached its boundary (R172). -/
def atBoundary (s : State) (n : SlotId) : Bool :=
  match (s.slot n).handback with
  | some h => h.committed && s.reached h.boundary
  | none => false

/-- The first LOCKED event that carries a key and is not past, with every event before it (R156). -/
def lockedWith (key : Nat) : List Rec → Option (Rec × List Nat)
  | [] => none
  | e :: es =>
    if e.stated.start = .locked ∧ e.stated.lockKey = some key ∧ e.derived.past = false then some (e, [])
    else (lockedWith key es).map fun x => (x.1, e.stated.id :: x.2)

/-- The events after a slot's current cue's event, or those a fill searches (R148). R156 names only the event of the
current cue; that a follower under a fill looks for its LOCKED event where R148 searches is the model's choice
(log 38). -/
def afterCurrent (s : State) (n : SlotId) (c : Chan) : List Rec :=
  match (s.slot n).curEvent with
  | some id => eventsAfter id (s.chan c).list
  | none => (s.chan c).fillSearch

/-- The current cue's event is itself a LOCKED event of the key (R156): nothing is handed over then, a second event of
the key behind it or not, which is the model's choice (log 38). -/
def lockedNow (s : State) (n : SlotId) (c : Chan) (key : Nat) : Bool :=
  match (s.slot n).curEvent.bind fun id => findEvent id (s.chan c).list with
  | some e => decide (e.stated.start = .locked) && decide (e.stated.lockKey = some key)
  | none => false

/-- The event that a lockstep fire of `key` on channel `c` finds for slot `m`: its channel, the event, and the events
passed over to reach it (R156). The event of a handback plan fires at the plan's boundary or not at all, and at the
boundary of a committed plan the slot is only released (R171, R172). -/
def lockstepEvent (s : State) (m : SlotId) (c : Chan) (key : Nat) : Option (Chan × Rec × List Nat) :=
  match (s.slot m).chan, (s.slot m).cur with
  | some f, some _ =>
    if (s.slot m).state.holds && decide ((s.slot m).state ≠ .joining) && decide (s.leaderOf f = some c) &&
        !s.lockedNow m f key && !s.atBoundary m then
      (lockedWith key (s.afterCurrent m f)).bind fun x =>
        if (s.slot m).handback.map HandbackPlan.event = some x.1.stated.id then none else some (f, x.1, x.2)
    else none
  | _, _ => none

/-- A lockstep fire handed to slot `m` by the fire of an event carrying `key` on channel `c`; `was` is the
slot's armed next cue as it stood before the leader's fire (R156). The fire is the slot's own step 3, so its steps
before it are taken first (R146). An event that was not armed has no fire position to take by R147; that it takes now is
the model's choice (log 45). -/
def lockstep (s : State) (m : SlotId) (c : Chan) (key : Nat) (was : Option Armed) : State :=
  match s.lockstepEvent m c key with
  | none => s
  | some (f, e, between) =>
    match was.bind fun a => if a.event = e.stated.id then some a else none with
    | some a =>
      if s.reached (a.armedAt.add s.rate s.cfg.lockLead) then (s.firstSteps m).fireArmed m f a 0 else s
    | none =>
      let t := match e.stated.source with
        | .clip mat p => ((s.firstSteps m).emit m (.cue mat (materialAt p))).emit m .play
        | src => (s.firstSteps m).emit m src.fireWord
      (t.modSlot m fun x => { x with armed := none }).fireFrom m f e s.now 0 between

/-- After a fire on channel `c` of an event with that lock key, the followers' slots are handed their fire (R156).
`before` is the state before the leader's fire. -/
def handOff (s before : State) (n : SlotId) (c : Chan) (key : Option Nat) : State :=
  match key with
  | none => s
  | some k => forSlots (fun m t => if m = n then t else t.lockstep m c k (before.slot m).armed) s

/-- The lock key of an event of a list. -/
def keyOf (s : State) (c : Chan) (id : Nat) : Option Nat :=
  (findEvent id (s.chan c).list).bind fun e => e.stated.lockKey

/-! ### Step 3: join cue, handback, armed cue -/

/-- The CUE of a CLIP join cue, at the first frame event after the echo (R137). R137 does not name its step of R146; that
it is issued at step 3, before the step-9 CUE of an armed next CLIP, is the model's choice (log 44). -/
def issueJoinCue (s : State) (n : SlotId) : State :=
  match (s.slot n).join with
  | some p =>
    if (s.slot n).joinOwed then
      let t := match p.source, p.material with
        | .clip mat _, some q => s.emit n (.cue mat q)
        | _, _ => s
      t.modSlot n fun x => { x with joinOwed := false }
    else s
  | none => s

/-- The default slate goes to air as a join fill: no anchor, the fill's end read from the schedule (R135, R136,
R139). The slate is the profile's at the fire, and the fire position is this frame event's, J or, after a skip of J, the
one behind it (log 27). -/
def joinFill (s : State) (n : SlotId) (c : Chan) : State :=
  let t := s.emit n (.slate (s.defaultSlate c))
  let t := t.modSlot n fun x =>
    { x.clearWatch with state := .onAir, join := none, joinOwed := false, cur := some (fillCue s.now (s.defaultSlate c)),
                        pending := [], nextRepeat := [], fired := true }
  (t.refreshEnd n).slotEntry n .slateFill none none

/-- The join cue fires at the join point (R140), with the entries of 7.3.1. The default slate of a SKIP is the profile's at
the fire, as R18 has the slots read it, where R131 and R139 would keep the plan's; an event's fire position is J, also
where a skip of J has it fire one frame late (log 27). -/
def fireJoin (s : State) (n : SlotId) (c : Chan) (p : Plan) : State :=
  match p.event.bind fun id => findEvent id (s.chan c).list, p.actual with
  | some e, some start =>
    let whole := decide (p.kind ≠ .skip)
    let word := if whole then p.source.fireWord else .slate (s.defaultSlate c)
    let src := if whole then p.source else .slate (s.defaultSlate c)
    let t := s.emit n word
    let t := t.modSlot n fun x =>
      { x.clearWatch with
          state := .onAir, join := none, joinOwed := false, pending := [], nextRepeat := [], fired := true
          cur := some { event := some e.stated.id, source := src, firePos := p.join, actual := s.now,
                        material := p.material, cueEnd := none, anchored := start,
                        cues := if whole then e.stated.cues else [] } }
    let t := if whole && p.source.isClip then t.startWatch n else t
    let t := t.writeAnchor c ⟨e.stated.id, start, .air, s.now⟩
    if whole then
      let seq := t.logNext
      let t := t.slotEntry n .fired (some e.stated.id) (if p.kind = .wholeStart then none else some p.offset)
      (t.modSlot n fun x => { x with firedSeq := some seq }).handOff s n c e.stated.lockKey
    else (t.slotEntry n .skipped (some e.stated.id) (some p.offset)).slotEntry n .slateFill none none
  | _, _ => s.joinFill n c

/-- The commit check of a handback plan (R172), and what its failure does (R173). -/
def commitCheck (s : State) (n : SlotId) : State :=
  match (s.slot n).handback, (s.slot n).chan with
  | some h, some c =>
    if !h.committed && s.reached (h.boundary.sub s.rate s.cfg.lockLead) then
      let ready := match (s.watchRec c).bind WatchRec.lastBeat with
        | some b => decide (b.main = .standby) && decide (b.prepared = some (h.event, h.boundary))
        | none => false
      if h.noticeSent && s.beatsFresh c && ready then
        s.modSlot n fun x => { x with handback := some { h with committed := true } }
      else
        ((s.offerCancel (.handover c h.event h.boundary h.returnEpoch true)).slotEntry n .handbackAborted (some h.event)
          none).modSlot n fun x => { x with handback := none }
    else s
  | _, _ => s

/-- The armed next cue fires when it is due, and hands its fire to the followers (R151, R152, R156). -/
def fireDue (s : State) (n : SlotId) (c : Chan) : State :=
  match (s.slot n).armed with
  | some a => if s.reached a.firePos then (s.fireArmed n c a a.lateBy).handOff s n c (s.keyOf c a.event) else s
  | none => s

/-- Whether the armed next cue's fire position lies after a position. -/
def armedAfter (s : State) (n : SlotId) (p : Pos) : Bool :=
  (s.slot n).armed.elim false fun a => Pos.after s.rate a.firePos p

/-- Step 3 of R146. The CUE owed for a join cue is issued in it, the model's choice (log 44). Where a one-frame step has
skipped the join point, the frame event that fires the join cue carries the fire due at its own position as well (R13).
An armed next cue due at or before the join point waits for the frame event after, as it fires later than the current
cue's start (R148; log 27). A HANDBACK that a pending release absorbs is taken here too (log 49). -/
def step3 (s : State) (n : SlotId) : State :=
  match (s.slot n).chan with
  | none => s
  | some c =>
    match (s.slot n).state, (s.slot n).join with
    | .joining, some p =>
      if s.reached p.join then
        let t := (s.issueJoinCue n).fireJoin n c p
        if t.armedAfter n p.join then t.fireDue n c else t
      else s.issueJoinCue n
    | _, _ =>
      let t := s.commitCheck n
      if t.atBoundary n then t.releaseBy n .handback else t.fireDue n c

/-! ### The other steps -/

/-- Step 4 of R146: a restart PLAY (R160). -/
def step4 (s : State) (n : SlotId) : State :=
  match (s.slot n).restartPlay with
  | some p =>
    if s.reached p then
      ((s.emit n .play).modSlot n fun x => { x with restartPlay := none }).startWatch n
    else s
  | none => s

/-- The slot falls back to the default slate (R161). -/
def fallBack (s : State) (n : SlotId) (c : Chan) : State :=
  let t := s.emit n (.slate (s.defaultSlate c))
  let t := t.slotEntry n .fallback ((s.slot n).cur.bind Cue.event) none
  t.modSlot n fun x =>
    { x with state := .fallback
             fallbackSince := if x.state = .fallback then x.fallbackSince else some s.now
             expectedBy := none, restartPlay := none, faultPending := false, faultDue := false }

/-- The conditions of a restart (R160). -/
def mayRestart (s : State) (n : SlotId) (cue : Cue) : Bool :=
  let x := s.slot n
  let then_ := s.now.add s.rate s.cfg.lockLead
  decide (x.restarts = 0) && decide (x.state ≠ .fallback) &&
    (cue.cueEnd.elim true fun e => Pos.before s.rate then_ e) &&
    (x.armed.elim true fun a => !Pos.atOrPast s.rate then_ a.firePos)

/-- Step 5 of R146: a fault found since the last frame event is acted on (R160, R161). -/
def step5 (s : State) (n : SlotId) : State :=
  match (s.slot n).chan, (s.slot n).cur with
  | some c, some cue =>
    if (s.slot n).faultPending && (s.slot n).faultDue then
      match cue.source, cue.material with
      | .clip mat _, some m =>
        if s.mayRestart n cue then
          let run := (Pos.diff s.rate cue.actual s.now).toNat + s.cfg.lockLead
          let t := (s.emit n .stop).emit n (.cue mat (materialAt (m + run)))
          let t := t.slotEntry n .restart cue.event none
          t.modSlot n fun x =>
            { x with restartPlay := some (s.now.add s.rate s.cfg.lockLead), restarts := 1, faultPending := false,
                     faultDue := false }
        else s.fallBack n c
      | _, _ => s.fallBack n c
    else s
  | _, _ => s

/-- Step 6 of R146: the schedule has run out, or its event was lost, with nothing fired (R153). The slot that has run out
is HOLDING, or stays FALLBACK, its fill's fire position now (log 46); the one whose event was lost goes by its cue
end. -/
def step6 (s : State) (n : SlotId) : State :=
  match (s.slot n).chan, (s.slot n).cur with
  | some c, some cue =>
    match (s.slot n).owedFill with
    | some id =>
      let t := (s.emit n (.slate (s.defaultSlate c))).slotEntry n .cut (some id) none
      ((t.slotEntry n .slateFill none none).modSlot n fun x => { x with owedFill := none }).refreshEnd n
    | none =>
      let out := match cue.cueEnd with
        | some e => s.reached e
        | none => false
      if !(s.slot n).fired && out && (s.slot n).armed.isNone then
        let t := (s.emit n (.slate (s.defaultSlate c))).slotEntry n .slateFill none none
        t.modSlot n fun x =>
          { x.clearWatch with cur := some (fillCue s.now (s.defaultSlate c)), pending := [], nextRepeat := []
                              state := x.state.byEnd none }
      else s
  | _, _ => s

/-- The tally confirms the current cue at position `p` (R159, R161), be it the first time or after a restart (log 53).
The confirmation that leaves FALLBACK makes fallback-since none, as the fires that leave it do, the model's choice
(log 40). -/
def confirmCue (s : State) (n : SlotId) (p : Pos) : State :=
  let t := match (s.slot n).firedSeq with
    | some q => s.confirmEntry q p
    | none => s
  t.modSlot n fun x =>
    let e := x.cur.bind Cue.cueEnd
    { x with expectedBy := none, confirmed := true
             state := if x.state = .fallback then SlotState.byEnd .onAir e else x.state
             fallbackSince := if x.state = .fallback then none else x.fallbackSince }

/-- A server fault is found (R159). The rules make the expected-by position none at a confirmation, a fallback and a
clearing; that it is none from the finding of the fault on, before step 5 acts on it, is the model's choice (log 48). -/
def foundFault (s : State) (n : SlotId) : State :=
  (s.slotEntry n .serverFault ((s.slot n).cur.bind Cue.event) none).modSlot n fun x =>
    { x with faultPending := true, expectedBy := none }

/-- Whether a confirm window that is open to the expected-by position `p` has run out. By R159 and R162 it has at the
first frame event at or past `p`, as R13 judges a position; by R13's own last words it is a count of frame events and
expires by R1 at the W-th after the PLAY. The two differ only where a mark has moved the position inside the window, and
there which of them the part follows is a free value (log 28). -/
def windowOver (s : State) (n : SlotId) (p : Pos) : Bool :=
  let byCount := decide (s.cfg.confirm ≤ (s.slot n).sincePlay)
  if s.reached p = byCount then byCount else if Config.confirmByCount then byCount else s.reached p

/-- The first part of step 7 of R146: a confirm window that has run out (R159; log 28). -/
def confirmStep (s : State) (n : SlotId) : State :=
  match (s.slot n).expectedBy with
  | some p =>
    if s.windowOver n p then
      if (s.slot n).highSincePlay && (s.slot n).tally then s.confirmCue n ((s.slot n).playPos.getD s.now)
      else s.foundFault n
    else s
  | none => s

/-- The second part of step 7 of R146: a fallback that has lasted Tp (R161). An AIR FAULT that a pending release absorbs is
taken here too (log 49). -/
def fallbackStep (s : State) (n : SlotId) : State :=
  match (s.slot n).state, (s.slot n).fallbackSince with
  | .fallback, some p => if (s.cfg.tp : Int) ≤ s.age p then s.releaseBy n .airFault else s
  | _, _ => s

/-- Step 7 of R146. -/
def step7 (s : State) (n : SlotId) : State := (s.confirmStep n).fallbackStep n

end State

/-- The level an action leaves a line at (R158). -/
def SecAction.level (a : SecAction) (old : Bool) : Bool :=
  match a with
  | .pulse => true
  | .set => true
  | .clear => false
  | .toggle => !old

namespace State

/-- An occurrence is issued: a LINE word when the level changes (R158). -/
def issueOcc (s : State) (n : SlotId) (o : Occ) : State :=
  let old := (s.slot n).lines.get o.line
  let new := o.action.level old
  let t := if new = old then s else s.emit n (.line o.line new)
  t.modSlot n fun x =>
    { x with lines := x.lines.set o.line.val new o.line.isLt
             pulsed := if o.action = .pulse then x.pulsed.set o.line.val true o.line.isLt else x.pulsed }

/-- Issue the occurrences that are due, each making room for the next (R157, R158). -/
def issueDue (n : SlotId) : Nat → State → State
  | 0, s => s
  | fuel + 1, s =>
    match (s.slot n).pending with
    | [] => s
    | o :: rest =>
      if s.reached o.due then
        let t := (s.issueOcc n o).modSlot n fun x => { x with pending := rest }
        issueDue n fuel (t.refill n)
      else s

/-- Step 8 of R146 (R158). An event has at most 4 cues of 16 occurrences. -/
def step8 (s : State) (n : SlotId) : State := issueDue n 64 s

/-- The CUE owed for the armed CLIP is issued (R148, R149). A CLIP armed since the last frame event and dropped again
before this step has none, the model's choice (log 39). -/
def cueArmed (s : State) (n : SlotId) : State :=
  match (s.slot n).armed, (s.slot n).chan with
  | some a, some c =>
    if a.cueOwed then
      let t := match (findEvent a.event (s.chan c).list).map fun e => e.stated.source with
        | some (.clip mat p) => s.emit n (.cue mat (materialAt p))
        | _ => s
      t.modSlot n fun x => { x with armed := some { a with cueOwed := false } }
    else s
  | _, _ => s

/-- Step 9 of R146: arm, and issue the CUE of each CLIP armed (R148). A fill takes its end from the next cue that stands
armed (R147). -/
def step9 (s : State) (n : SlotId) : State :=
  let t := s.armIfReady n
  (if (t.slot n).armed.isSome then t.refreshEnd n else t).cueArmed n

/-- A step of R146 by its number. -/
def slotStep (s : State) (n : SlotId) : Nat → State
  | 1 => s.step1 n
  | 2 => s.step2 n
  | 3 => s.step3 n
  | 4 => s.step4 n
  | 5 => s.step5 n
  | 6 => s.step6 n
  | 7 => s.step7 n
  | 8 => s.step8 n
  | 9 => s.step9 n
  | _ => s

/-- A slot takes its own work of the open frame event up to step `k`, the steps before it first (R146); steps
already taken are not taken again, and a slot that has become FREE takes none. -/
def slotThrough (s : State) (n : SlotId) (k : Nat) : State :=
  [1, 2, 3, 4, 5, 6, 7, 8, 9].foldl (fun t i => if i ≤ k then t.takeStep n i fun u => u.slotStep n i else t) s

/-- The slot that holds the leader of the channel a slot holds (R19, R156). -/
def leaderSlot (s : State) (n : SlotId) : Option SlotId := ((s.slot n).chan.bind s.leaderOf).bind s.holdingSlot

/-- The leader's slot comes to the end of its step 3, so that the lockstep fire it may hand over finds the follower's
slot at its own step 3 (R146, R156; log 1). -/
def leaderFirst (s : State) (n : SlotId) : State :=
  match s.leaderSlot n with
  | some m => s.slotThrough m 3
  | none => s

/-- A slot's work of the open frame event up to step `k`: before a step after the third, its leader's slot comes to the
end of step 3. -/
def slotRun (s : State) (n : SlotId) (k : Nat) : State := (if 4 ≤ k then s.leaderFirst n else s).slotThrough n k

/-- The release due at the open frame event: before the slot's own work when none of it is taken, else after the
whole of it (R164). -/
def slotReleaseStep (s : State) (n : SlotId) : State :=
  if (s.dueRelease n).isSome then
    if (s.slot n).stepsDone = 0 then s.takeRelease n else (s.slotRun n 9).takeRelease n
  else s

end State

end Sys2Proof.Machine
end

