-- ==== Sys2Proof/Machine/Edits.lean ====
section
/-! DEFINITION. Edits: their operands, the content checks, applying them, their judgement on arrival, the parked edit
queue's drain, and the lock checks (R37 to R48, R62). -/

namespace Sys2Proof.Machine

/-- An edit with its operands read (R45 to R47, R187). -/
inductive EditOp where
  | insertAfter (anchor : Option Nat) (r : RawRecord)
  | delete (id : Nat)
  | replace (id : Nat) (r : RawRecord)
  | retimeStart (id : Nat) (start : Nat × Label)
  | retimeDuration (id : Nat) (d : Nat)
  | setEnd (id : Nat) (d : Nat)
  | setProfile (p : RawProfile)
  deriving DecidableEq, Repr

/-- The operands of an operation off the front of a payload, with what follows them (R187); none where the operation
is unknown or its fields run past the end. -/
def readEdit (op : Byte) (bs : List Byte) : Option (EditOp × List Byte) :=
  match op.toNat with
  | 1 => do
    let (a, bs) ← readNat 4 bs
    let (r, bs) ← readRecord bs
    some (.insertAfter (if a = 0 then none else some a) r, bs)
  | 2 => (readNat 4 bs).map fun p => (.delete p.1, p.2)
  | 3 => do
    let (id, bs) ← readNat 4 bs
    let (r, bs) ← readRecord bs
    some (.replace id r, bs)
  | 4 => do
    let (id, bs) ← readNat 4 bs
    let (sel, bs) ← readNat 1 bs
    match sel with
    | 1 => (readStated bs).map fun p => (.retimeStart id p.1, p.2)
    | 2 => (readNat 4 bs).map fun p => (.retimeDuration id p.1, p.2)
    | _ => none
  | 5 => do
    let (id, bs) ← readNat 4 bs
    let (d, bs) ← readNat 4 bs
    some (.setEnd id d, bs)
  | 6 => (readProfile bs).map fun p => (.setProfile p.1, p.2)
  | _ => none

/-- The event an edit names as its target; the anchor of an INSERT AFTER is no target. -/
def EditOp.target : EditOp → Option Nat
  | .insertAfter _ _ | .setProfile _ => none
  | .delete id | .replace id _ | .retimeStart id _ | .retimeDuration id _ | .setEnd id _ => some id

/-- The event record an edit carries. -/
def EditOp.record : EditOp → Option RawRecord
  | .insertAfter _ r | .replace _ r => some r
  | _ => none

/-- The duration an edit carries beside a record. -/
def EditOp.duration : EditOp → Option Nat
  | .retimeDuration _ d | .setEnd _ d => some d
  | _ => none

/-- The stated start an edit carries. -/
def EditOp.carried : EditOp → Option (Nat × Label)
  | .insertAfter _ r | .replace _ r => r.stated
  | .retimeStart _ p => some p
  | _ => none

/-- Step 1 of R43, once the fields are read: the ranges of a record, and a target id that can be one (log 11). -/
def EditOp.formed (e : EditOp) : Bool :=
  (e.record.elim true RawRecord.formed) && (e.target.elim true fun id => decide (1 ≤ id))

/-- Step 2 of R43. -/
def EditOp.timely (r : Rate) (e : EditOp) : Bool :=
  (e.record.elim true (RawRecord.timely r)) && (e.duration.elim true (durationOk r)) &&
    (e.carried.elim true fun p => (statedPos r p).isSome)

/-- The stated start of a FIXED event. -/
def Stated.fixedAt (st : Stated) : Option Pos :=
  match st.start with
  | .fixed p => some p
  | _ => none

/-- No position of the list is earlier than one before it. -/
def nonDecreasing (r : Rate) : List Pos → Bool
  | [] => true
  | p :: ps => (ps.all fun q => !Pos.before r q p) && nonDecreasing r ps

/-- Step 6 of R43 for a list. -/
def inOrder (r : Rate) (list : List Rec) : Bool := nonDecreasing r (list.filterMap fun e => e.stated.fixedAt)

/-- Place a record after an anchor, or first (R22). -/
def insertRec (anchor : Option Nat) (x : Rec) (list : List Rec) : List Rec :=
  match anchor with
  | none => x :: list
  | some a =>
    match splitAt a list with
    | some (before, e, after) => before ++ e :: x :: after
    | none => list

/-- Rewrite the stated fields of an event in its place (R22, R45, R46); its derived fields stay until the walk. -/
def rewriteRec (id : Nat) (f : Stated → Stated) (list : List Rec) : List Rec :=
  match splitAt id list with
  | some (before, e, after) => before ++ { e with stated := f e.stated } :: after
  | none => list

/-- What an edit makes of the stated fields of its target (R45, R46). -/
def EditOp.rewrites (rate : Rate) (e : EditOp) (st : Stated) : Stated :=
  match e with
  | .replace _ r => r.stated! rate
  | .retimeStart _ p => { st with start := .fixed ((statedPos rate p).getD ⟨0, 0⟩) }
  | .retimeDuration _ d =>
    { st with stop := match st.stop with
        | .timed _ => .timed d
        | .openEnd _ => .openEnd (some d) }
  | .setEnd _ d => { st with stop := .timed d }
  | _ => st

/-- The list as it would stand after an edit; a record it adds bears pool index `idx` (R22, R45, R46). -/
def EditOp.onList (rate : Rate) (idx : Nat) (e : EditOp) (list : List Rec) : List Rec :=
  match e with
  | .insertAfter a r => insertRec a ⟨idx, r.stated! rate, Derived.fresh⟩ list
  | .delete id =>
    match splitAt id list with
    | some (before, _, after) => before ++ after
    | none => list
  | .setProfile _ => list
  | .replace id _ | .retimeStart id _ | .retimeDuration id _ | .setEnd id _ => rewriteRec id (e.rewrites rate) list

/-- Step 4 of R43: the anchor or the target is in the list; a new stated start suits only a FIXED event (R46). -/
def EditOp.placed (e : EditOp) (list : List Rec) : Option ResultCode :=
  match e with
  | .insertAfter (some a) _ => if (findEvent a list).isSome then none else some .noAnchor
  | .retimeStart id _ =>
    match findEvent id list with
    | none => some .notFound
    | some x => if x.stated.fixedAt.isSome then none else some .badCommand
  | _ =>
    match e.target with
    | some id => if (findEvent id list).isSome then none else some .notFound
    | none => none

/-- Step 5 of R43: another record already holds the id. -/
def EditOp.repeats (e : EditOp) (list : List Rec) : Bool :=
  match e with
  | .insertAfter _ r => list.any fun x => decide (x.stated.id = r.id)
  | .replace id r => decide (r.id ≠ id) && list.any fun x => decide (x.stated.id = r.id)
  | _ => false

/-- The operations step 6 applies to (R45, R46). -/
def EditOp.ordersList : EditOp → Bool
  | .insertAfter _ _ | .replace _ _ | .retimeStart _ _ | .retimeDuration _ _ => true
  | _ => false

/-- The operation that adds a record, which steps 7 and 8 apply to. -/
def EditOp.adds : EditOp → Bool
  | .insertAfter _ _ => true
  | _ => false

/-- The content checks in their order, over a list; the first that fails gives the code (R43, R45 to R47). -/
def EditOp.check (rate : Rate) (now : Pos) (timeSet poolFull : Bool) (list : List Rec) (e : EditOp) :
    Option ResultCode :=
  if !e.formed then some .badCommand
  else if !e.timely rate then some .badTime
  else if timeSet && (e.carried.bind (statedPos rate)).elim false fun p => !Pos.inHorizon rate now p then
    some .outOfHorizon
  else
    match e.placed list with
    | some code => some code
    | none =>
      if e.repeats list then some .duplicateId
      else if e.ordersList && !inOrder rate (e.onList rate 0 list) then some .badOrder
      else if e.adds && decide (512 ≤ list.length) then some .listFull
      else if e.adds && poolFull then some .poolFull
      else none

namespace State

/-- The content checks of R43 for a channel. -/
def contentCheck (s : State) (c : Chan) (e : EditOp) : Option ResultCode :=
  e.check s.rate s.now (decide (s.time.timeState = .set)) s.free.isEmpty (s.chan c).list

/-- A changed mask: the probes mapped to the channel lose their reference and their counts (R98). -/
def maskChanged (s : State) (c : Chan) : State :=
  { s with probes := s.probes.map fun x =>
      if x.chan = some c then { x with reference := none, gridCount := 0, darkRun := 0, flatRun := 0, freezeRun := 0 }
      else x }

/-- A new profile is stored (R18), with what a changed mask does to the probes (R98); the caller walks. -/
def putProfile (s : State) (c : Chan) (p : Profile) : State :=
  let t := s.modChan c fun ch => { ch with profile := p }
  if p.mask = (s.chan c).profile.mask then t else t.maskChanged c

/-- The channels other than `c` whose leader by R19 is no longer what it was in `old` are walked (R18); the followers
of `c` are walked with `c`. -/
def walkRelated (s old : State) (c : Chan) : State :=
  forChans (fun d t =>
    if d ≠ c ∧ old.leaderOf d ≠ t.leaderOf d ∧ t.leaderOf d ≠ some c then t.walk d else t) s

/-- An edit that passed its checks is applied whole, and the walks follow (R20, R21, R35, R45 to R48, R59). -/
def applyEdit (s : State) (c : Chan) (e : EditOp) : State :=
  match e with
  | .setProfile p => (((s.putProfile c p.store).imageTouched c).walk c).walkRelated s c
  | _ =>
    let gone := match e with
      | .delete id => (findEvent id (s.chan c).list).toList
      | _ => []
    let t := s.modChan c fun ch => { ch with list := e.onList s.rate (s.free.headD 0) ch.list }
    let t := if e.adds then { t with free := t.free.drop 1 } else t
    (((t.freeRecs gone).dropLostAnchor c).imageTouched c).walk c

/-- The next expected sequence after an edit of that sequence: at its top it stays and the replica becomes STALE with
cause OVERFLOW (R39). -/
def advanceSeq (s : State) (c : Chan) : State :=
  if (s.chan c).nextSeq < max32 then s.modChan c fun ch => { ch with nextSeq := ch.nextSeq + 1 }
  else s.makeStale c .overflow

/-- The cause that a refused broadcast edit leaves (R44). -/
def refusalCause (code : ResultCode) : StaleCause := if code = .poolFull then .poolFull else .diverged

/-- An edit of the expected sequence is applied or refused (R39, R44). -/
def takeDue (s : State) (c : Chan) (op : Byte) (operands : List Byte) : State :=
  let verdict : Except ResultCode EditOp :=
    match readEdit op operands with
    | none => .error .badCommand
    | some (e, _) =>
      match s.contentCheck c e with
      | some code => .error code
      | none => .ok e
  match verdict with
  | .ok e => (s.applyEdit c e).advanceSeq c
  | .error code => (s.makeStale c (refusalCause code)).advanceSeq c

end State

/-- The search of R41: the earliest entry of the channel with its epoch and the sequence due, the entries of a lower
sequence freed as they are passed. That the search ends at the due entry, so that a lower one behind it is freed by a
later search or, the due edit refused, stays parked, is the model's choice (log 52). -/
def searchDue (c : Chan) (epoch n : Nat) : List Parked → List Parked × Option Parked
  | [] => ([], none)
  | e :: es =>
    if e.chan = c ∧ e.epoch = epoch ∧ e.seq = n then (es, some e)
    else
      let (rest, found) := searchDue c epoch n es
      if e.chan = c ∧ e.epoch = epoch ∧ e.seq < n then (rest, found) else (e :: rest, found)

/-- The drain of R41, one parked entry after another; the queue holds at most 16. -/
def drainParked (c : Chan) : Nat → State → State
  | 0, s => s
  | fuel + 1, s =>
    if (s.chan c).replica = .current then
      let x := searchDue c (s.chan c).epoch (s.chan c).nextSeq s.repl.parked
      let t := s.setRepl fun r => { r with parked := x.1 }
      match x.2 with
      | some e => drainParked c fuel (t.takeDue c e.op e.operands)
      | none => t
    else s

namespace State

/-- The drain of a channel's parked edits (R41). -/
def drain (s : State) (c : Chan) : State := drainParked c 17 s

/-- An edit is parked when the queue has a free entry, else passed over (R40). -/
def park (s : State) (c : Chan) (src : Addr) (epoch seq : Nat) (op : Byte) (operands : List Byte) : State :=
  if s.parkRoom then
    s.setRepl fun r => { r with parked := r.parked ++ [⟨c, epoch, seq, src, op, operands, 0⟩] }
  else s

/-- An edit of a higher epoch makes a replica STALE with cause EPOCH (R37, R38, R40, R49). A load is abandoned by it, and a
new round begins at once, as R40 says of its own row (log 16). -/
def editAbove (s : State) (c : Chan) : State :=
  if (s.chan c).replica = .loading then (s.setStale c .epoch).roundAgain c else s.makeStale c .epoch

/-- An edit that reaches a replica that is not CURRENT (R40). -/
def editNotCurrent (s : State) (c : Chan) (src : Addr) (epoch seq : Nat) (op : Byte) (operands : List Byte) : State :=
  match (s.chan c).replica, (s.chan c).shadow with
  | .loading, some sh =>
    if epoch < sh.epoch then s
    else if epoch = sh.epoch then (if sh.base ≤ seq then s.park c src epoch seq op operands else s)
    else (s.editAbove c).park c src epoch seq op operands
  | _, _ =>
    if (s.chan c).epoch < epoch then (s.editAbove c).park c src epoch seq op operands
    else if epoch = (s.chan c).epoch ∧ (s.chan c).nextSeq ≤ seq then s.park c src epoch seq op operands
    else s

/-- An edit of the channel's epoch reaches a CURRENT replica (R39). -/
def editCurrent (s : State) (c : Chan) (src : Addr) (epoch seq : Nat) (op : Byte) (operands : List Byte) : State :=
  let n := (s.chan c).nextSeq
  if seq < n then s
  else if seq = n then (s.takeDue c op operands).drain c
  else if seq ≤ n + 31 ∧ s.parkRoom then s.park c src epoch seq op operands
  else ((s.setStale c .overflow).freeParked c fun _ => true).beginRequest c

/-- Whether a sender holds authority for a channel (R37). -/
def holdsAuthority (s : State) (c : Chan) (src : Addr) : Bool :=
  match (s.chan c).authority with
  | .main => decide (17 ≤ src) && decide (src ≤ 20)
  | .site => decide ((s.view c).holder = some src)

def setWithheld (s : State) (c : Chan) : State := s.modChan c fun ch => { ch with withheld := true }

/-- An EDIT from the line reaches the replication unit (R37, R38). -/
def editArrives (s : State) (c : Chan) (src : Addr) (epoch seq : Nat) (op : Byte) (operands : List Byte) : State :=
  let ch := s.chan c
  let relay := decide (17 ≤ src)
  if !ch.watched then s
  else if !s.holdsAuthority c src then
    let t := if relay && decide (ch.authority = .site) then s.setWithheld c else s
    if !relay && decide ((s.view c).holder ≠ some src) && decide (ch.epoch < epoch) then t.editAbove c else t
  else if epoch < ch.epoch then (if relay then s.setWithheld c else s)
  else if ch.replica = .current then
    if ch.epoch < epoch then (s.makeStale c .epoch).editNotCurrent c src epoch seq op operands
    else s.editCurrent c src epoch seq op operands
  else s.editNotCurrent c src epoch seq op operands

/-! ### Lock checks (R62, R138, R150) -/

/-- The event that stands as the current one for the lock checks, if the list holds it: the join event while JOINING,
else the current cue's event, else, under a fill, the AIR anchor's event (R138, R150). -/
def lockPlace (s : State) (n : SlotId) (c : Chan) : Option Nat :=
  let x := s.slot n
  let id := if x.state = .joining then x.join.bind Plan.event
    else match x.cur.bind Cue.event with
      | some id => some id
      | none => (s.chan c).airEvent
  id.bind fun id => if (findEvent id (s.chan c).list).isSome then some id else none

/-- Whether an event stands at or before the current one (R62). -/
def atOrBefore (s : State) (n : SlotId) (c : Chan) (id : Nat) : Bool :=
  match (s.lockPlace n c).bind fun p => splitAt p (s.chan c).list with
  | some (before, e, _) => decide (e.stated.id = id) || before.any fun x => decide (x.stated.id = id)
  | none => false

/-- The first line of R62: a new end for the current cue's event, at or past now + lock lead. -/
def newEndAllowed (s : State) (n : SlotId) (e : EditOp) (id : Nat) : Bool :=
  match e.duration, (s.slot n).cur with
  | some d, some cue =>
    decide ((s.slot n).state ≠ .joining) && decide (cue.event = some id) &&
      Pos.atOrPast s.rate (cue.anchored.add s.rate d) (s.now.add s.rate s.cfg.lockLead)
  | _, _ => false

/-- Whether the lock checks refuse an edit of the channel that slot `n` holds (R62, R138). No line of R62 speaks of an
edit on, or an INSERT AFTER, an event that stands between the current cue's event and the armed next cue; the model
allows it, the next cue locked or not (log 21). -/
def lockRefuses (s : State) (n : SlotId) (c : Chan) (e : EditOp) : Bool :=
  let x := s.slot n
  let nextLocked := x.armed.elim false Armed.locked
  match e with
  | .setProfile _ => false
  | .insertAfter none _ => (s.lockPlace n c).isSome || nextLocked
  | .insertAfter (some a) _ =>
    if s.lockPlace n c = some a then decide (x.state = .joining) || nextLocked else s.atOrBefore n c a
  | _ =>
    match e.target with
    | none => false
    | some id =>
      (s.atOrBefore n c id && !s.newEndAllowed n e id) ||
        (x.armed.elim false fun a => a.locked && decide (a.event = id)) ||
        (x.handback.elim false fun h => decide (h.event = id))

end State

end Sys2Proof.Machine
end

