-- ==== Sys2Proof/Machine/Images.lean ====
section
/-! DEFINITION. Images: accepting and storing segments, the install, the image server (R54 to R59, R188). -/

namespace Sys2Proof.Machine

/-- A received IMAGE segment of a count above 0 (R187). -/
structure Segment where
  imageId : Nat
  epoch : Nat
  base : Nat
  index : Nat
  count : Nat
  records : Nat
  body : List Byte
  deriving DecidableEq, Repr

/-- Place a segment's records among those held, in rising index order (R55). -/
def insertSegment (i : Nat) (rs : List Rec) : List (Nat × List Rec) → List (Nat × List Rec)
  | [] => [(i, rs)]
  | x :: xs => if i < x.1 then (i, rs) :: x :: xs else x :: insertSegment i rs xs

/-- How the storing of a segment's records ends (R55). -/
inductive Stored where
  | whole
  | failed (cause : StaleCause)
  deriving DecidableEq, Repr

/-- Take `n` records off a segment's body, one pool record each, against the ids already in the shadow (R43 steps 1
and 2, R55): the records taken, the free list left, and how it ended. `held` is the ids in the shadow so far. -/
def storeRecs (rate : Rate) : Nat → List Byte → List Nat → List Nat → List Rec × List Nat × Stored
  | 0, _, free, _ => ([], free, .whole)
  | n + 1, bs, free, held =>
    match readRecord bs with
    | none => ([], free, .failed .diverged)
    | some (raw, bs) =>
      match raw.judge rate with
      | .error _ => ([], free, .failed .diverged)
      | .ok st =>
        if st.id ∈ held ∨ 512 ≤ held.length then ([], free, .failed .diverged)
        else
          match free with
          | [] => ([], [], .failed .poolFull)
          | i :: free =>
            let (rs, free, e) := storeRecs rate n bs free (st.id :: held)
            (⟨i, st, Derived.fresh⟩ :: rs, free, e)

/-- Whether an epoch and a base pass the test of R54 against the channel. -/
def ChannelRec.admits (ch : ChannelRec) (epoch base : Nat) : Bool :=
  decide (ch.epoch < epoch) || (decide (epoch = ch.epoch) && decide (ch.nextSeq ≤ base))

namespace State

/-- The load is abandoned with a cause and the request moves to the next candidate (R55, R57). -/
def abandonFor (s : State) (c : Chan) (cause : StaleCause) : State := (s.setStale c cause).chooseTarget c

/-- The install of a complete shadow, in the order of R56, and the drain that follows it. -/
def install (s : State) (c : Chan) (sh : Shadow) : State :=
  let old := (s.chan c).list
  let t := (s.modChan c fun ch => { ch with list := shadowRecs sh, shadow := none }).freeRecs old
  let t := t.modChan c fun ch => { ch with epoch := sh.epoch, nextSeq := sh.base }
  let t := match sh.profile with
    | some p => t.putProfile c p
    | none => t
  let t := (((t.dropLostAnchor c).imageTouched c).walk c).walkRelated s c
  let t := t.modChan c fun ch =>
    { ch with replica := .current, cause := none, withheld := false, request := none }
  (t.freeParked c fun e => decide (e.epoch ≠ sh.epoch) || decide (e.seq < sh.base)).drain c

/-- A shadow whose every segment is received is checked and installed, or abandoned (R56). -/
def completeLoad (s : State) (c : Chan) : State :=
  match (s.chan c).shadow with
  | some sh =>
    if sh.segments.length < sh.count then s
    else if inOrder s.rate (shadowRecs sh) && (s.chan c).admits sh.epoch sh.base then s.install c sh
    else s.abandonFor c .diverged
  | none => s

/-- Store an accepted segment in the open shadow (R55). -/
def storeSegment (s : State) (c : Chan) (g : Segment) : State :=
  match (s.chan c).shadow with
  | none => s
  | some sh =>
    let head : Option (Option RawProfile × List Byte) :=
      if g.index = 0 then (readProfile g.body).map fun p => (some p.1, p.2) else some (none, g.body)
    match head with
    | none => s.abandonFor c .diverged
    | some (profile, bs) =>
      let held := (shadowRecs sh).map fun e => e.stated.id
      let (rs, free, ended) := storeRecs s.rate g.records bs s.free held
      let kept := match profile with
        | some p => some p.store
        | none => sh.profile
      let full := { sh with segments := insertSegment g.index rs sh.segments, profile := kept }
      let t := ({ s with free := free } : State).modChan c fun ch => { ch with shadow := some full }
      match ended with
      | .failed cause => t.abandonFor c cause
      | .whole => t.completeLoad c

/-- Open a shadow for a segment; `prior` is the state and cause before the load (R54, R57). -/
def openShadow (s : State) (c : Chan) (g : Segment) (prior : ReplicaState × Option StaleCause) : State :=
  s.modChan c fun ch =>
    { ch with replica := .loading, cause := none,
              shadow := some ⟨g.imageId, g.epoch, g.base, g.count, [], none, prior, 0⟩ }

/-- The request's timer and stage, and the load's age, at an accepted segment (R54, R57). -/
def segmentAccepted (s : State) (c : Chan) : State :=
  (s.modRequest c fun q => { q with timer := 0, stage := .loading }).modChan c fun ch =>
    { ch with shadow := ch.shadow.map fun sh => { sh with age := 0 } }

/-- A segment from the present target that passes the tests of R54. One of the same image id and count continues the
load whatever epoch and base it carries, and the load keeps those of the segment that opened it, the model's choice
(log 41). -/
def takeSegment (s : State) (c : Chan) (g : Segment) : State :=
  let ch := s.chan c
  match ch.replica, ch.shadow with
  | .current, _ => s
  | .loading, some sh =>
    if sh.imageId ≠ g.imageId then
      (((s.freeShadow c).openShadow c g sh.prior).segmentAccepted c).storeSegment c g
    else if (sh.segments.any fun x => decide (x.1 = g.index)) || decide (sh.count ≠ g.count) then s
    else (s.segmentAccepted c).storeSegment c g
  | st, _ => (((s.freeShadow c).openShadow c g (st, ch.cause)).segmentAccepted c).storeSegment c g

/-- An IMAGE for a channel arrives (R53, R54): from the present target, a count of 0 moves the request on, and a
segment is judged; all else is passed over. -/
def imageArrives (s : State) (c : Chan) (src : Addr) (g : Segment) : State :=
  let ch := s.chan c
  if !ch.watched || decide ((ch.request.bind ImageRequest.target) ≠ some src) then s
  else if g.count = 0 then s.chooseTarget c
  else if g.index < g.count ∧ ch.admits g.epoch g.base then s.takeSegment c g
  else s

end State

/-! ### The image server (R58, R59, R188) -/

/-- Pack records into segments of 222 bytes: `n` records of bytes `cur` already stand in the segment being filled. -/
def packSegments (n : Nat) (cur : List Byte) : List (List Byte) → List (Nat × List Byte)
  | [] => [(n, cur)]
  | r :: rs =>
    if cur.length + r.length ≤ 222 then packSegments (n + 1) (cur ++ r) rs
    else (n, cur) :: packSegments 1 r rs

/-- The segments of a channel's image: record count and contents of each, the profile first (R59, R188). -/
def ChannelRec.segments (rate : Rate) (ch : ChannelRec) : List (Nat × List Byte) :=
  packSegments 0 ch.profile.bytes (ch.list.map fun e => e.stated.bytes rate)

namespace State

/-- An IMAGEREQ directed to this station (R58). `byte` is the channel as carried; one that names no channel is answered
with a count of 0 that carries it, the model's choice (log 32). -/
def imagereqArrives (s : State) (src : Addr) (byte : Byte) : State :=
  match chanOf byte.toNat with
  | some c =>
    if (s.chan c).watched = false ∨ (s.chan c).replica ≠ .current then s.answerNone src byte
    else if (src, c) ∈ s.repl.service then s
    else if s.repl.service.length < 4 then s.setRepl fun r => { r with service := r.service ++ [(src, c)] }
    else s.answerNone src byte
  | none => s.answerNone src byte

/-- The image id counter's next value (R59). -/
def nextImageId (s : State) : Nat := if max32 ≤ s.repl.imageId then 1 else s.repl.imageId + 1

/-- Start the image of the head request (R59). -/
def startImage (s : State) (c : Chan) : State :=
  let ch := s.chan c
  s.setRepl fun r =>
    { r with imageId := s.nextImageId
             serving := some ⟨s.nextImageId, ch.epoch, ch.nextSeq, (ch.segments s.rate).length, 0⟩ }

/-- Build the next segment of the image being served, and queue it; after the last, the request waits for its echo
(R59). -/
def queueSegment (s : State) (dst : Addr) (c : Chan) : State :=
  match s.repl.serving with
  | some sv =>
    match ((s.chan c).segments s.rate)[sv.next]? with
    | some (n, body) =>
      if sv.next < sv.count then
        (s.setRepl fun r => { r with serving := some { sv with next := sv.next + 1 } }).enqueue
          (.image dst c sv.epoch sv.imageId sv.base sv.next sv.count n body)
      else s
    | none => s
  | none => s

/-- The image server's next step, when class 2 has a free entry: an answer of count 0 that waits, else the next segment
of the head request (R58, R59). The manual does not order the two; the model sends every waiting answer first
(log 20). -/
def serveNext (s : State) : State :=
  if s.hasRoom .two then
    match s.repl.zeroAnswers, s.repl.service with
    | (dst, b) :: rest, _ => (s.setRepl fun r => { r with zeroAnswers := [] }).answerNone dst b |>.setRepl fun r =>
        { r with zeroAnswers := rest }
    | [], (dst, c) :: _ =>
      if (s.chan c).replica = .current then
        (if s.repl.serving.isNone then s.startImage c else s).queueSegment dst c
      else s.dropService c
    | [], [] => s
  else s

/-- The last segment of an image has echoed: its request leaves the queue (R59). -/
def imageDone (s : State) (m : OutMsg) : State :=
  match m, s.repl.serving with
  | .image _ _ _ id _ index count _ _, some sv =>
    if id = sv.imageId ∧ index + 1 = count ∧ sv.next = sv.count then
      s.setRepl fun r => { r with service := r.service.drop 1, serving := none }
    else s
  | _, _ => s

end State

end Sys2Proof.Machine
end

