-- ==== Sys2Proof/Machine/Peers.lean ====
section
/-! DEFINITION. What peers send: BEACON, CLAIM, TAKE, RELEASE; and the echoes of this station's CLAIM and TAKE
(R104, R108, R115 to R119, R122 to R124, R167). -/

namespace Sys2Proof.Machine

namespace State

/-! ### BEACON (R104) -/

/-- This station's claim on a channel, as a duplicate is judged by (R124). -/
def ownClaim (s : State) (c : Chan) : Option Claim := (s.view c).holderClaim

/-- The claim of a peer that this station's view of a channel records (R124). -/
def knownClaim (s : State) (c : Chan) (a : Addr) : Option Claim :=
  (s.view c).rival.bind fun rv => if rv.addr = a then some rv.claim else none

/-- A peer's BEACON lists a channel this station holds (R124). -/
def beaconDuplicate (s : State) (c : Chan) (a : Addr) (e : Nat) : State :=
  let h := (s.view c).holderEpoch
  let claim := s.knownClaim c a
  let beats : Bool := match claim, s.ownClaim c with
    | some x, some own => WholeClaim.better ⟨a, x⟩ ⟨s.me, own⟩
    | _, _ => decide (a < s.me)
  if h < e ∨ (e = h ∧ beats) then s.recordDuplicate c ⟨a, e, claim⟩ else s

/-- A holder learned from a BEACON (R104, first line): the changes of a TAKE accepted, STALE with cause EPOCH when the
main site has edited under that epoch, and the contest as R117 gives. That the channel then counts as taken, its orphan
flag and source cleared as R83 and R108 give for a TAKE, is the model's choice (log 43). -/
def beaconHolder (s : State) (c : Chan) (a : Addr) (e : Nat) : State :=
  let edited := decide (e = (s.chan c).epoch) && decide ((s.chan c).authority = .main)
  let t := s.setHolder c a e none
  let t := if edited then t.makeStale c .epoch else t
  t.contestOnTake c true ⟨a, ⟨false, 0⟩, s.now⟩

/-- One on-air entry of a peer's BEACON, judged against the takeover view (R104). -/
def beaconEntry (s : State) (a : Addr) (c : Chan) (e : Nat) : State :=
  match (s.view c).holder with
  | none => if (s.chan c).epoch ≤ e then s.beaconHolder c a e else s
  | some q =>
    if q = a then s
    else if q = s.me then s.beaconDuplicate c a e
    else if (s.view c).holderEpoch < e then s.beaconHolder c a e
    else s

/-- A BEACON of a peer (R104): discarded for a state outside those named; else its fields, its entries in turn, and
the holdings it no longer lists. -/
def beaconArrives (s : State) (a : Addr) (b : RawBeacon) : State :=
  match StationState.ofCode b.station, TimeState.ofCode b.time, RefState.ofCode b.ref with
  | some st, some tm, some _ =>
    if st = .start ∨ st = .inert then s
    else
      let listed := b.onAir.filterMap fun x => (chanOf x.1).map fun c => (c, x.2)
      let t := s.modPeer a fun p =>
        { p with station := some st, time := some tm, freeSlots := b.freeSlots, onAir := listed,
                 current := b.current, contest := b.contest }
      let t := listed.foldl (fun t x => t.beaconEntry a x.1 x.2) t
      forChans (fun c t =>
        if (t.view c).holder = some a ∧ !(listed.any fun x => decide (x.1 = c)) then t.clearHolder c else t) t
  | _, _, _ => s

/-! ### CLAIM (R115, R116) -/

/-- The echo of a CLAIM starts the window of the contest whose latest CLAIM it is (R115). -/
def claimEchoed (s : State) (c : Chan) (serial : Nat) : State :=
  let v := s.view c
  if v.contest = .claiming ∧ v.serial = serial then s.modView c fun v => { v with window := some 0 } else s

/-- A CLAIM of a peer, for a watched channel (R116). -/
def claimArrives (s : State) (c : Chan) (a : Addr) (claim : Claim) : State :=
  let v := s.view c
  let rival : Rival := ⟨a, claim, s.now⟩
  if (s.chan c).watched = false ∨ (v.exclusions.any fun x => decide (x.1 = a)) then s
  else
    match v.contest with
    | .idle =>
      if v.holder.isNone then s.modView c fun v => { v with contest := .deferred, rival := some rival } else s
    | .claiming =>
      match v.own with
      | some own =>
        if WholeClaim.better ⟨a, claim⟩ ⟨s.me, own⟩ then (s.endClaim c .deferred (some rival)).look else s
      | none => s
    | .deferred =>
      match v.rival with
      | some old =>
        if WholeClaim.better ⟨a, claim⟩ ⟨old.addr, old.claim⟩ then s.modView c fun v => { v with rival := some rival }
        else s
      | none => s.modView c fun v => { v with rival := some rival }
    | .taking | .taken => s

/-! ### TAKE (R108, R117, R119) -/

/-- A TAKE of a peer is judged, and moves the view and the contest (R108, R117, R124). -/
def takeArrives (s : State) (c : Chan) (a : Addr) (claim : Claim) (epoch : Nat) : State :=
  let rival : Rival := ⟨a, claim, s.now⟩
  match judgeTake s.me (s.view c) (s.chan c).epoch a epoch claim with
  | .accepted => (s.acceptTake c a epoch (some claim)).contestOnTake c true rival
  | .notAccepted => s.contestOnTake c false rival
  | .duplicate => s.recordDuplicate c ⟨a, epoch, some claim⟩

/-- The contest stops being current (R119). -/
def endCurrent (s : State) : State := s.setClaims fun e => { e with current := none }

/-- The echo of this station's TAKE (R119). -/
def takeEchoed (s : State) (c : Chan) (claim : Claim) (epoch : Nat) : State :=
  if (s.view c).contest = .taking then
    match judgeTake s.me (s.view c) (s.chan c).epoch s.me epoch claim with
    | .accepted =>
      let t := (s.acceptTake c s.me epoch (some claim)).modView c fun v => { v with contest := .taken, window := none }
      ((t.joinSchedule c epoch).endCurrent).look
    | _ =>
      let t := (s.freeReserved c).modView c fun v =>
        { v with contest := .deferred, own := none, window := none, rival := none }
      t.endCurrent.look
  else s

/-! ### RELEASE (R167) -/

/-- A RELEASE of a peer, judged against the view (R167). `ret` is the return epoch it carries. -/
def releaseArrives (s : State) (c : Chan) (a : Addr) (reason : ReleaseReason) (ret : Option Nat) : State :=
  let up : Option Nat := if reason = .handback then ret.bind fun e => if (s.chan c).epoch < e then some e else none
    else none
  let holder := (s.view c).holder
  if holder = some a then
    let t := (s.dropHolder c).clearOrphan c
    let t := match up with
      | some e => t.mainReturns c (some e)
      | none => t
    (t.restartHealth c).authorityTest c
  else
    match holder, up with
    | none, some e => s.mainReturns c (some e)
    | _, _ => s

/-! ### FORCE TAKE (R122) -/

/-- A forced claim is started, or latched when class 0 is full, or refused (R122). -/
def forceStart (s : State) (c : Chan) : State × ResultCode :=
  if s.hasRoom .zero then (s.startClaim c true, .done)
  else if s.claims.latch.isNone then (s.setClaims fun e => { e with latch := some c }, .done)
  else (s, .busy)

/-- The running claim is sent again as a forced one (R122): the old CLAIM is taken back if unsent, and the window
waits for the new echo. With class 0 full even so, nothing changes. -/
def forceResend (s : State) (c : Chan) : State × ResultCode :=
  match (s.view c).own with
  | some own =>
    let t := s.takeBack .zero (isClaim (s.view c).serial)
    if t.hasRoom .zero then
      let k := s.claims.serial + 1
      let forced : Claim := { own with forced := true }
      let t := t.modView c fun v => { v with own := some forced, serial := k, window := none }
      ((t.setClaims fun e => { e with serial := k }).enqueue (.claim c forced k), .done)
    else (s, .busy)
  | none => (s, .busy)

/-- A FORCE TAKE that has passed the console's checks (R122). -/
def force (s : State) (c : Chan) : State × ResultCode :=
  let v := s.view c
  let mine := decide (s.claims.current = some c)
  if v.holder.isSome then (s, .onAirElsewhere)
  else if s.firstFree.isNone && !mine then (s, .noSlot)
  else
    match s.claims.current with
    | none => s.forceStart c
    | some d =>
      if d = c then (if v.contest = .claiming then s.forceResend c else (s, .busy))
      else if s.claims.latch.isNone then (s.setClaims fun e => { e with latch := some c }, .done)
      else (s, .busy)

end State

end Sys2Proof.Machine
end

