-- ==== Sys2Proof/Machine/Line.lean ====
section
/-! DEFINITION. The line interface: the payloads sent, the ladder wait, starting a message, the echo (R103, R180 to
R184, R187, R189). -/

namespace Sys2Proof.Machine

/-- Whether an optional value is there, as a flag byte. -/
def someFlag {α : Type} (x : Option α) : Byte := flagByte x.isSome

namespace State

/-- The on-air list of a BEACON: the channels held in this station's slots, each with the epoch its slot was given at its
handover, in slot order (R103, R162). -/
def onAirList (s : State) : List (Chan × Nat) :=
  (List.finRange 8).filterMap fun n =>
    if (s.slot n).state.holds then (s.slot n).chan.map fun c => (c, (s.slot n).epoch.getD 0) else none

/-- The CURRENT set of a BEACON: the watched channels whose replica is CURRENT (R103, R187). -/
def currentSet (s : State) : Nat :=
  (List.finRange 32).foldl (fun n c =>
    if (s.chan c).watched && decide ((s.chan c).replica = .current) then n + 2 ^ c.val else n) 0

/-- The configuration flags as a byte (R103, R187). -/
def configFlags (s : State) : Nat := (if s.loader.clamped then 1 else 0) + (if s.loader.defaulted then 2 else 0)

/-- The contents of a BEACON as the state stands (R103, R187). -/
def beaconPayload (s : State) : List Byte :=
  toBE 1 s.loader.station.code ++ toBE 1 s.time.timeState.code ++ toBE 1 s.time.refState.code ++
    toBE 1 s.configFlags ++ toBE 1 s.freeSlots ++ toBE 1 (chanNo? s.claims.current) ++ toBE 4 s.currentSet ++
    toBE 1 s.onAirList.length ++ s.onAirList.flatMap fun x => toBE 1 (chanNo x.1) ++ toBE 4 x.2

/-- The payload of a message; a BEACON's is made now, all others carry what they were queued with
(R182, R187, R189). The return epoch of a RELEASE that carries none is sent as 0, the model's choice (log 37). -/
def payload (s : State) : OutMsg → List Byte
  | .claim c k _ => toBE 1 (chanNo c) ++ toBE 2 k.weight ++ [flagByte k.forced]
  | .take c k e => toBE 1 (chanNo c) ++ toBE 2 k.weight ++ [flagByte k.forced] ++ toBE 4 e
  | .release c r p e _ => toBE 1 (chanNo c) ++ toBE 1 r.code ++ p.bytes ++ [someFlag e] ++ toBE 4 (e.getD 0)
  | .handover c ev h e x => toBE 1 (chanNo c) ++ toBE 4 ev ++ h.bytes ++ toBE 4 e ++ [flagByte x]
  | .beacon => s.beaconPayload
  | .verdict c v => toBE 1 (chanNo c) ++ toBE 1 v.code
  | .edit c e n op bs => toBE 1 (chanNo c) ++ toBE 4 e ++ toBE 4 n ++ [op] ++ bs
  | .imagereq c _ => toBE 1 (chanNo c)
  | .reply _ tag code part count items =>
    toBE 2 tag ++ toBE 1 code.code ++ toBE 1 part ++ toBE 1 count ++ items
  | .image _ c e id b i n r body =>
    toBE 1 (chanNo c) ++ toBE 4 e ++ toBE 4 id ++ toBE 4 b ++ toBE 2 i ++ toBE 2 n ++ toBE 1 r ++ body
  | .imageNone _ chan fresh =>
    chan :: ((List.range 14).map fun i => Config.freeByte (14 * fresh + i)) ++ toBE 2 0 ++ toBE 1 0

/-- A message as the line carries it (R180). -/
def messageBytes (s : State) (m : OutMsg) : List Byte := frameBytes m.dst s.me m.kind (s.payload m)

/-- The courtesy step of a class is cleared when a wait in that class ends (R181). -/
def clearCourtesy (s : State) (k : Cls) : State :=
  s.setLine fun l =>
    match k with
    | .zero => l
    | .one => { l with courtesy1 := false }
    | .two => { l with courtesy2 := false }

/-- The courtesy step of a class is set at an echo (R181, R184). -/
def setCourtesy (s : State) (k : Cls) : State :=
  s.setLine fun l =>
    match k with
    | .zero => l
    | .one => { l with courtesy1 := true }
    | .two => { l with courtesy2 := true }

/-- The line becomes idle (R181), and with it the message that another station had on it is at its end. -/
def lineBecomesIdle (s : State) : State :=
  (s.setLine fun l => { l with idle := true, receiving := false, spoilt := false }).startWait

/-- The head of a class queue starts onto the line (R181, R182). -/
def startSending (s : State) (k : Cls) : State :=
  match s.queue k with
  | e :: rest =>
    let t := (s.setQueue k (⟨e.msg, true⟩ :: rest)).setLine fun l => { l with sending := some k, idle := false }
    { t with out := t.out ++ [.line (s.messageBytes e.msg)] }
  | [] => s.startWait

/-- The running wait runs out with the line still idle (R181). -/
def waitRunsOut (s : State) : State :=
  match s.line.wait with
  | some w => ((s.clearCourtesy w.cls).setLine fun l => { l with wait := none }).startSending w.cls
  | none => s

/-- Another station starts on the line, and its message is being received: the wait is abandoned, and with it the
courtesy step it applied (R181). In START and INERT what the line carries is discarded, so that a message begun there is
lost whatever follows (R179; log 7). -/
def lineBecomesBusy (s : State) : State :=
  let t := s.setLine fun l =>
    { l with idle := false, wait := none, receiving := true, spoilt := l.spoilt || !s.active }
  match s.line.wait with
  | some w => t.clearCourtesy w.cls
  | none => t

/-- The message now on the line, if `p` names it. -/
def sendingHead (s : State) (p : OutMsg → Bool) : Option OutMsg :=
  match s.line.sending with
  | some k =>
    match s.queue k with
    | e :: _ => if e.begun && p e.msg then some e.msg else none
    | [] => none
  | none => none

/-- At its echo a message leaves the head of its queue and sets the courtesy step of its class (R184). -/
def leaveHead (s : State) : State :=
  match s.line.sending with
  | some k => ((s.setQueue k ((s.queue k).drop 1)).setLine fun l => { l with sending := none }).setCourtesy k
  | none => s

/-- This station's own reception of its message failed: it stays at the head and is sent again (R184). -/
def echoLost (s : State) : State := s.setLine fun l => { l with sending := none }

/-- The echo of an IMAGEREQ to the present target (R53), a segment of which may have been accepted already (R54). That of
one to a station that a new round has passed by adds no station to the asked set and starts no timer, the model's choice
(log 32). -/
def askEchoed (s : State) (c : Chan) (d : Addr) : State :=
  s.modRequest c fun q =>
    if q.target = some d then
      { q with asked := if d ∈ q.asked then q.asked else q.asked ++ [d], timer := 0, ask := .echoed }
    else q

/-- The echo of a HANDOVER without the cancel flag sets the plan's notice sent (R170). -/
def noticeEchoed (s : State) (c : Chan) (event : Nat) (h : Pos) (ret : Nat) : State :=
  match s.holdingSlot c with
  | some n => s.modSlot n fun x =>
      { x with handback := x.handback.map fun p =>
          if p.event = event ∧ p.boundary = h ∧ p.returnEpoch = ret then { p with noticeSent := true } else p }
  | none => s

end State

end Sys2Proof.Machine
end

