-- ==== Sys2Proof/Machine/Replies.lean ====
section
/-! DEFINITION. Replies: the items, their values, and the parts a reply is sent in (R177, R189, R191 to R193). -/

namespace Sys2Proof.Machine

/-- A position of a reply: 9 bytes, the label after the position; absent as 9 bytes of 255 (R189). -/
def replyPos (r : Rate) : Option Pos → List Byte
  | some p => p.bytes ++ (Label.ofFrame r p.frame).bytes
  | none => List.replicate 9 255#8

/-- A lateness of a reply: -2,147,483,648 for none (R189). -/
def replyLate : Option Int → List Byte
  | some n => toBESigned n
  | none => toBE 4 2147483648

/-- An age in a 2-byte field: 0 when negative, 65,535 when above it (R189). -/
def replyAge (n : Int) : List Byte := toBE 2 (min 65535 n.toNat)

/-- An item: its code, the length of its value, the value (R189). -/
def item (code : Nat) (value : List Byte) : List Byte := toBE 1 code ++ toBE 1 value.length ++ value

/-- The code of a named value that may be absent, 0 for none (R186). -/
def codeOr0 {α : Type} (f : α → Nat) (x : Option α) : List Byte := toBE 1 (x.elim 0 f)

/-- Line levels, or any four flags, as a byte: line l adds 2^(l - 1) (R189). -/
def levelsByte (v : Vector Bool 4) : List Byte :=
  toBE 1 ((List.finRange 4).foldl (fun n l => if v.get l then n + 2 ^ l.val else n) 0)

/-- The reply's parts: whole items in order, up to 235 bytes each (R189, R192). -/
def packItems (cur : List Byte) : List (List Byte) → List (List Byte)
  | [] => [cur]
  | x :: xs => if cur.length + x.length ≤ 235 then packItems (cur ++ x) xs else cur :: packItems x xs

namespace State

/-- Item 1, STATION. -/
def stationItem (s : State) : List Byte :=
  item 1 <| toBE 1 s.loader.station.code ++ toBE 1 s.time.timeState.code ++ toBE 1 s.time.refState.code ++
    toBE 1 s.configFlags ++ replyPos s.rate (some s.now) ++ toBE 2 s.free.length ++ toBE 1 s.repl.parked.length ++
    toBE 1 (chanNo? s.claims.current) ++ toBE 1 (chanNo? s.claims.latch) ++ toBE 4 s.logNext

/-- Item 2, SLOT. -/
def slotItem (s : State) (n : SlotId) : List Byte :=
  let x := s.slot n
  item 2 <| toBE 1 n.val ++ toBE 1 x.state.code ++ toBE 1 (chanNo? x.chan) ++ toBE 4 (x.epoch.getD 0) ++
    toBE 4 ((x.cur.bind Cue.event).getD 0) ++ replyPos s.rate (x.cur.map Cue.actual) ++
    replyPos s.rate (x.cur.bind Cue.cueEnd) ++ toBE 4 ((x.armed.map Armed.event).getD 0) ++
    replyPos s.rate (x.armed.map Armed.firePos) ++ [flagByte (x.armed.elim false Armed.locked)] ++
    levelsByte x.lines ++ replyPos s.rate x.fallbackSince

/-- Item 3, PROBE. -/
def probeItem (s : State) (p : ProbeId) : List Byte :=
  let x := s.probe p
  item 3 <| toBE 1 p.val ++ toBE 1 (chanNo? x.chan) ++ toBE 1 x.verdict.code ++ toBE 1 x.silence ++
    toBE 1 x.lockLoss ++ toBE 1 x.darkRun ++ toBE 1 x.flatRun ++ toBE 1 x.freezeRun ++ toBE 1 x.gridCount ++
    toBE 1 (x.mean.getD 255) ++ toBE 1 (x.active.getD 255)

/-- Item 4, PEER; zeros for the station's own address (R192). -/
def peerItem (s : State) (a : Addr) : List Byte :=
  let p := s.peer a
  item 4 <| toBE 1 a ++
    (if a = s.me then toBE 8 0
     else [flagByte p.present] ++ toBE 2 p.count ++ codeOr0 StationState.code p.station ++
       codeOr0 TimeState.code p.time ++ toBE 1 p.freeSlots ++ toBE 1 p.contest ++
       toBE 1 (if 17 ≤ a ∧ a ≤ 20 then p.link.code else 0))

/-- Item 5, REPLICA. -/
def replicaItem (s : State) (c : Chan) : List Byte :=
  let ch := s.chan c
  item 5 <| toBE 1 (chanNo c) ++ [flagByte ch.watched] ++ toBE 1 ch.replica.code ++ codeOr0 StaleCause.code ch.cause ++
    toBE 4 ch.epoch ++ toBE 4 ch.nextSeq ++ toBE 1 ch.authority.code ++ [flagByte ch.withheld] ++
    toBE 2 ch.list.length ++ toBE 4 ((ch.anchor.map Anchor.event).getD 0) ++
    codeOr0 AnchorSource.code (ch.anchor.map Anchor.source) ++ replyPos s.rate (ch.anchor.map Anchor.actual) ++
    replyPos s.rate (ch.anchor.map Anchor.report) ++
    (ch.anchor.elim (toBE 4 0) fun a => toBESigned (s.age a.report))

/-- An evidence flag of the WATCH item. -/
def flagPart (r : Rate) (f : EvFlag) : List Byte :=
  [flagByte f.value] ++ replyPos r (some f.since) ++ toBE 2 f.duration

/-- The last beat entry of the WATCH item. -/
def beatPart (r : Rate) (b : Option BeatEntry) : List Byte :=
  [someFlag b] ++ toBE 4 ((b.map BeatEntry.epoch).getD 0) ++ codeOr0 MainState.code (b.map BeatEntry.main) ++
    toBE 4 ((b.map BeatEntry.event).getD 0) ++ toBE 4 ((b.map BeatEntry.offset).getD 0) ++
    replyPos r (b.map BeatEntry.report) ++ [someFlag (b.bind BeatEntry.prepared)] ++
    toBE 4 (((b.bind BeatEntry.prepared).map Prod.fst).getD 0) ++ replyPos r ((b.bind BeatEntry.prepared).map Prod.snd)

/-- Item 6, WATCH. -/
def watchItem (s : State) (c : Chan) (w : WatchRec) : List Byte :=
  item 6 <| toBE 1 (chanNo c) ++ toBE 1 w.health.code ++ toBE 2 w.beatTimer ++ [flagByte w.inhibit] ++
    [flagByte w.orphan] ++ flagPart s.rate w.beatLost ++ flagPart s.rate w.mainFault ++
    flagPart s.rate w.pictureBad ++ flagPart s.rate w.pictureUnknown ++ flagPart s.rate w.linkDown ++
    beatPart s.rate w.lastBeat

/-- Item 7, SOURCE. -/
def sourceItem (s : State) (x : VerdictSource) : List Byte :=
  item 7 <| toBE 1 x.addr ++ toBE 1 x.verdict.code ++ replyPos s.rate (some x.heardAt) ++ replyAge (s.age x.heardAt)

/-- A claim's forced flag and weight, zeros for unknown. -/
def claimPart (k : Option Claim) : List Byte :=
  [flagByte (k.elim false Claim.forced)] ++ toBE 2 ((k.map Claim.weight).getD 0)

/-- Item 8, VIEW. -/
def viewItem (s : State) (c : Chan) : List Byte :=
  let v := s.view c
  item 8 <| toBE 1 (chanNo c) ++ toBE 1 (v.holder.getD 0) ++ toBE 4 v.holderEpoch ++ claimPart v.holderClaim ++
    toBE 1 v.contest.code ++ claimPart v.own ++ toBE 1 ((v.rival.map Rival.addr).getD 0) ++
    claimPart (v.rival.map Rival.claim) ++ replyPos s.rate (v.rival.map Rival.heardAt) ++
    replyPos s.rate v.ineligible ++ toBE 1 (v.orphanSource.getD 0)

/-- Item 9, EXCLUSION. -/
def exclusionItem (s : State) (c : Chan) (x : Addr × Pos) : List Byte :=
  item 9 <| toBE 1 (chanNo c) ++ toBE 1 x.1 ++ replyPos s.rate (some x.2)

/-- Item 10, PLAN. -/
def planItem (s : State) (p : Plan) : List Byte :=
  item 10 <| toBE 1 p.kind.code ++ toBE 1 p.basis.code ++ replyPos s.rate (some p.join) ++ toBE 4 (p.event.getD 0) ++
    toBE 4 p.offset

/-- Item 11, HANDBACK. -/
def handbackItem (s : State) (h : HandbackPlan) : List Byte :=
  item 11 <| toBE 4 h.event ++ replyPos s.rate (some h.boundary) ++ toBE 4 h.returnEpoch ++ [flagByte h.noticeSent] ++
    [flagByte h.committed]

/-- Item 12, EVENT. -/
def eventItem (s : State) (e : Rec) : List Byte :=
  let d := e.derived
  let flags := (if d.resolved then 1 else 0) + (if d.eclipsed then 2 else 0) + (if d.truncated then 4 else 0) +
    (if d.lateStart then 8 else 0) + (if d.past then 16 else 0)
  item 12 <| e.stated.bytes s.rate ++ replyPos s.rate d.start ++ replyPos s.rate d.stop ++ toBE 1 flags ++ toBE 4 d.gap

/-- Item 13, ASRUN. -/
def asrunItem (s : State) (e : AsRun) : List Byte :=
  item 13 <| toBE 4 e.seq ++ replyPos s.rate (some e.pos) ++ toBE 1 (e.slot.elim 255 Fin.val) ++
    toBE 1 (chanNo? e.chan) ++ toBE 4 (e.event.getD 0) ++ toBE 1 e.kind.code ++ replyLate e.lateness ++
    replyPos s.rate e.tally ++ codeOr0 ReleaseReason.code e.reason

/-- Item 14, ASRUN END. -/
def asrunEnd (s : State) (gap : Bool) : List Byte := item 14 (toBE 4 s.logNext ++ [flagByte gap])

/-- Queue a REPLY in its parts (R189, R191). -/
def answer (s : State) (dst : Addr) (tag : Nat) (code : ResultCode) (items : List (List Byte)) : State :=
  let parts := packItems [] items
  parts.zipIdx.foldl (fun t x => t.offerReply (.reply dst tag code x.2 parts.length x.1)) s

/-- The items of QUERY STATION (R192). -/
def stationReply (s : State) : List (List Byte) :=
  [s.stationItem] ++ (List.finRange 8).map s.slotItem ++ (List.finRange 4).map s.probeItem ++
    (List.range 30).map fun i => s.peerItem (i + 1)

/-- The items of QUERY CHANNEL (R192). -/
def channelReply (s : State) (c : Chan) : List (List Byte) :=
  let watch := match s.watchRec c with
    | some w => s.watchItem c w :: w.sources.map s.sourceItem
    | none => []
  let slot := match s.slotFor c with
    | some n =>
      [s.slotItem n] ++
        (if (s.slot n).state = .joining then ((s.slot n).join.map s.planItem).toList else []) ++
        ((s.slot n).handback.map s.handbackItem).toList
    | none => []
  [s.replicaItem c] ++ (if (s.chan c).watched then watch else []) ++ [s.viewItem c] ++
    ((s.view c).exclusions.map (s.exclusionItem c)) ++ slot

/-- The run of records that QUERY LIST asks for; none where the from id is not held (R193). -/
def listRun (s : State) (c : Chan) (start count : Nat) : Option (List Rec) :=
  let list := (s.chan c).list
  if start = 0 then some (list.take (min 6 count))
  else (splitAt start list).map fun x => x.2.2.take (min 6 count)

/-- The entries a read of the log returns, and the GAP flag (R177, R193). -/
def readLog (s : State) (start count : Nat) : List AsRun × Bool :=
  let d := (s.logNext + 4294967296 - start % 4294967296) % 4294967296
  let k := min 8 count
  if d ≤ s.log.length then ((s.log.drop (s.log.length - d)).take k, false) else (s.log.take k, true)

end State

end Sys2Proof.Machine
end

