-- ==== Sys2Proof/Machine/Console.lean ====
section
/-! DEFINITION. The console commands: their form, and each command's own checks and effect (R61, R155, R168 to R170,
R191 to R197). -/

namespace Sys2Proof.Machine

/-- A COMMAND whose form is good (R191 step 2). A HANDBACK carries the event id of the mode AT, none for NEXT
BOUNDARY. -/
inductive Command where
  | queryStation
  | queryChannel (c : Chan)
  | queryList (c : Chan) (start count : Nat)
  | queryAsrun (start count : Nat)
  | forceTake (c : Chan)
  | forceRelease (c : Chan)
  | inhibit (c : Chan) (on : Bool)
  | next (c : Chan)
  | handback (c : Chan) (at? : Option Nat)
  | editRequest (c : Chan) (op : Byte) (operands : List Byte)
  | restart
  deriving DecidableEq, Repr

/-- The channel operand at the front. -/
def readChan (bs : List Byte) : Option (Chan × List Byte) := do
  let (n, bs) ← readNat 1 bs
  let c ← chanOf n
  some (c, bs)

/-- The form check of R191: the code, the exact operand length of R189, and the operands' ranges. -/
def readCommand (code : Nat) (bs : List Byte) : Option Command :=
  match code with
  | 1 => if bs.length = 0 then some .queryStation else none
  | 2 => if bs.length = 1 then (readChan bs).map fun x => .queryChannel x.1 else none
  | 3 =>
    if bs.length = 6 then do
      let (c, bs) ← readChan bs
      let (f, bs) ← readNat 4 bs
      let (n, _) ← readNat 1 bs
      some (.queryList c f n)
    else none
  | 4 =>
    if bs.length = 5 then do
      let (f, bs) ← readNat 4 bs
      let (n, _) ← readNat 1 bs
      some (.queryAsrun f n)
    else none
  | 5 => if bs.length = 1 then (readChan bs).map fun x => .forceTake x.1 else none
  | 6 => if bs.length = 1 then (readChan bs).map fun x => .forceRelease x.1 else none
  | 7 =>
    if bs.length = 2 then do
      let (c, bs) ← readChan bs
      let (f, _) ← readNat 1 bs
      let on ← flagOf f
      some (.inhibit c on)
    else none
  | 8 => if bs.length = 1 then (readChan bs).map fun x => .next x.1 else none
  | 9 =>
    if bs.length = 6 then do
      let (c, bs) ← readChan bs
      let (mode, bs) ← readNat 1 bs
      let (ev, _) ← readNat 4 bs
      match mode with
      | 1 => some (.handback c none)
      | 2 => if ev = 0 then none else some (.handback c (some ev))
      | _ => none
    else none
  | 10 =>
    if 2 ≤ bs.length then do
      let (c, bs) ← readChan bs
      let (op, bs) ← readNat 1 bs
      some (.editRequest c (BitVec.ofNat 8 op) bs)
    else none
  | 11 => if bs.length = 0 then some .restart else none
  | _ => none

namespace State

/-- The first three checks of R191 are passed: outside the release phase the command's own checks follow. -/
def commandTaken (s : State) (dst src : Addr) (tag : Nat) (broadcast : Bool) (f : State → State) : State :=
  if dst = 0 ∧ broadcast = false then s
  else if s.loader.releasePhase.isSome then s.answer src tag .notReady []
  else f s

/-- The slot that holds a channel this station's view gives to it (R194, R196). -/
def ownSlot (s : State) (c : Chan) : Option SlotId :=
  if (s.view c).holder = some s.me then s.holdingSlot c else none

/-- QUERY CHANNEL (R192). -/
def queryChannelCmd (s : State) (src : Addr) (tag : Nat) (c : Chan) : State :=
  s.answer src tag (if (s.chan c).watched then .done else .notWatched) (s.channelReply c)

/-- QUERY LIST (R193). -/
def queryListCmd (s : State) (src : Addr) (tag : Nat) (c : Chan) (start count : Nat) : State :=
  if (s.chan c).watched then
    match s.listRun c start count with
    | some run => s.answer src tag .done (s.replicaItem c :: run.map s.eventItem)
    | none => s.answer src tag .notFound []
  else s.answer src tag .notWatched []

/-- QUERY ASRUN (R177, R193). -/
def queryAsrunCmd (s : State) (src : Addr) (tag : Nat) (start count : Nat) : State :=
  s.answer src tag .done ((s.readLog start count).1.map s.asrunItem ++ [s.asrunEnd (s.readLog start count).2])

/-- FORCE TAKE (R122, R194). -/
def forceTakeCmd (s : State) (src : Addr) (tag : Nat) (c : Chan) : State :=
  if (s.chan c).watched = false then s.answer src tag .notWatched []
  else if (s.view c).holder.isSome then s.answer src tag .onAirElsewhere []
  else if (s.chan c).replica ≠ .current then s.answer src tag .notCurrent []
  else if s.time.timeState ≠ .set then s.answer src tag .timeUnset []
  else if s.loader.station ≠ .ready then s.answer src tag .notReady []
  else
    (s.force c).1.answer src tag (s.force c).2 []

/-- FORCE RELEASE (R164, R194). -/
def forceReleaseCmd (s : State) (src : Addr) (tag : Nat) (c : Chan) : State :=
  if (s.chan c).watched = false then s.answer src tag .notWatched []
  else
    match s.ownSlot c with
    | some n =>
      (s.modSlot n fun x => { x with releasePending := some (x.releasePending.getD .operator) }).answer src tag .done []
    | none => s.answer src tag .notOnAirHere []

/-- INHIBIT (R82, R195); the claim engine's part follows at the end of the arrival. -/
def inhibitCmd (s : State) (dst src : Addr) (tag : Nat) (c : Chan) (on : Bool) : State :=
  if (s.chan c).watched then (s.modWatch c fun w => { w with inhibit := on }).answer src tag .done []
  else if dst = 0 then s
  else s.answer src tag .notWatched []

/-- The armed next cue of a NEXT (R155). -/
def nextArmed (s : State) (e : Rec) (skipped : List Nat) : Armed :=
  { event := e.stated.id, firePos := s.now.add s.rate s.cfg.lockLead, armedAt := s.now, lateBy := 0, locked := true,
    skipped := skipped, cueOwed := e.stated.source.isClip }

/-- NEXT (R155, R196). -/
def nextCommand (s : State) (src : Addr) (tag : Nat) (c : Chan) : State :=
  if (s.chan c).watched = false then s.answer src tag .notWatched []
  else
    match s.ownSlot c with
    | none => s.answer src tag .notOnAirHere []
    | some n =>
      let x := s.slot n
      if x.state = .joining then s.answer src tag .busy []
      else if x.handback.isSome then s.answer src tag .handbackPending []
      else if x.armed.elim false Armed.locked then s.answer src tag .locked []
      else
        match s.nextEvent n with
        | none => s.answer src tag .notFound []
        | some (e, skipped) =>
          (s.modSlot n fun x => { x with armed := some (s.nextArmed e skipped) }).answer src tag .done []

/-- The boundary position of an event: its armed fire position, else its derived start (R169). -/
def boundaryOf (s : State) (n : SlotId) (e : Rec) : Option Pos :=
  match (s.slot n).armed with
  | some a => if a.event = e.stated.id then some a.firePos else e.derived.start
  | none => e.derived.start

/-- A boundary position far enough ahead (R169). -/
def farEnough (s : State) (p : Pos) : Bool := Pos.atOrPast s.rate p (s.now.add s.rate s.cfg.handbackLead)

/-- NEXT BOUNDARY over a run of events (R169). -/
def nextBoundary (s : State) (n : SlotId) : List Rec → Option (Rec × Pos)
  | [] => none
  | e :: es =>
    if e.derived.eclipsed || e.derived.past then nextBoundary s n es
    else
      match e.derived.start, s.boundaryOf n e with
      | some _, some p => if s.farEnough p then some (e, p) else nextBoundary s n es
      | _, _ => none

/-- AT over a run of events (R169). -/
def atBoundaryOf (s : State) (n : SlotId) (id : Nat) (events : List Rec) : Option (Rec × Pos) :=
  (findEvent id events).bind fun e =>
    if e.derived.eclipsed || e.derived.past then none
    else (s.boundaryOf n e).bind fun p => if s.farEnough p then some (e, p) else none

/-- The handback event and its boundary (R169). -/
def findBoundary (s : State) (n : SlotId) (c : Chan) (at? : Option Nat) : Option (Rec × Pos) :=
  match at? with
  | none => s.nextBoundary n (s.afterCurrent n c)
  | some id => s.atBoundaryOf n id (s.afterCurrent n c)

/-- HANDBACK (R168 to R170, R196). -/
def handbackCmd (s : State) (src : Addr) (tag : Nat) (c : Chan) (at? : Option Nat) : State :=
  if (s.chan c).watched = false then s.answer src tag .notWatched []
  else
    match s.ownSlot c with
    | none => s.answer src tag .notOnAirHere []
    | some n =>
      let x := s.slot n
      if x.state = .joining then s.answer src tag .busy []
      else if !s.beatsFresh c then s.answer src tag .mainSilent []
      else if x.handback.isSome then s.answer src tag .handbackPending []
      else if at?.elim false fun id => (findEvent id (s.chan c).list).isNone then s.answer src tag .notFound []
      else
        match s.findBoundary n c at? with
        | none => s.answer src tag .noBoundary []
        | some (e, h) =>
          if s.hasRoom .zero then
            let ret := min max32 ((s.chan c).epoch + 1)
            let t := s.modSlot n fun x => { x with handback := some ⟨e.stated.id, h, ret, false, false⟩ }
            (t.enqueue (.handover c e.stated.id h ret false)).answer src tag .done []
          else s.answer src tag .busy []

/-- EDIT REQUEST (R61, R196): the six checks in order, then the edit, its broadcast, and the REPLY. The operands
broadcast are the bytes the operation reads (log 10); a SET PROFILE whose operands make the EDIT longer than the 240
bytes of R180 is applied and queued whole all the same, the model's choice (log 33). -/
def editRequestCmd (s : State) (src : Addr) (tag : Nat) (c : Chan) (op : Byte) (operands : List Byte) : State :=
  let ch := s.chan c
  if ch.watched = false then s.answer src tag .notWatched []
  else if (s.view c).holder ≠ some s.me then s.answer src tag .notOnAirHere []
  else if ch.replica ≠ .current then s.answer src tag .notCurrent []
  else
    match readEdit op operands with
    | none => s.answer src tag .badCommand []
    | some (e, rest) =>
      match s.contentCheck c e with
      | some code => s.answer src tag code []
      | none =>
        if (s.holdingSlot c).elim false fun n => s.lockRefuses n c e then s.answer src tag .locked []
        else if !s.hasRoom .one then s.answer src tag .busy []
        else
          let t := (s.applyEdit c e).enqueue
            (.edit c ch.epoch ch.nextSeq op (operands.take (operands.length - rest.length)))
          (t.advanceSeq c).answer src tag .done []

/-- RESTART (R197, R203): DONE, and the release phase begins; a CLAIMING contest is withdrawn. -/
def restartCmd (s : State) (src : Addr) (tag : Nat) : State :=
  let t := (s.answer src tag .done []).setLoader fun l => { l with releasePhase := some 0 }
  match t.claims.current with
  | some c => if (t.view c).contest = .claiming then t.endClaim c .idle none else t
  | none => t

end State

end Sys2Proof.Machine
end

