-- ==== Sys2Proof/Machine/Probes.lean ====
section
/-! DEFINITION. The probe analyser: the judgement of a grid, the verdict, silence and repeats (R85 to R99). -/

namespace Sys2Proof.Machine

/-- A run that counts one more, saturating at 255, or returns to 0 (R85, R91, R92, R94). -/
def runOf (holds : Bool) (n : Nat) : Nat := if holds then min 255 (n + 1) else 0

/-- The active cells of a grid (R89). -/
def activeCells (p : Profile) (cells : List Byte) : List Nat :=
  cells.zipIdx.filterMap fun x => if p.masked x.2 then none else some x.1.toNat

/-- The difference of two values, in either direction. -/
def apart (x y : Nat) : Nat := max x y - min x y

/-- The share P that a flat percent code names (R92). -/
def flatShare : Nat → Nat
  | 0 => 80
  | 1 => 90
  | 2 => 95
  | _ => 99

/-- The mean M of the active values (R90). -/
def meanOf (vs : List Nat) : Nat := vs.foldl (· + ·) 0 / vs.length

/-- A grid is flat (R92). -/
def isFlat (p : Profile) (vs : List Nat) : Bool :=
  let m := meanOf vs
  decide (flatShare p.fp * vs.length ≤ (vs.filter fun v => apart v m ≤ p.fl).length * 100)

/-- The changed count C against a reference (R93). -/
def changedCount (p : Profile) (cells ref : List Byte) : Nat :=
  (((activeCells p cells).zip (activeCells p ref)).filter fun x => p.cl < apart x.1 x.2).length

/-- The context starts afresh, its verdict left to the caller (R87, R88). -/
def Probe.afresh (x : Probe) : Probe :=
  { x with reference := none, gridCount := 0, lockLoss := 0, darkRun := 0, flatRun := 0, freezeRun := 0, mean := none,
           active := none }

/-- The comparison with the reference, the freeze run and the grid counter; a first grid becomes the reference
(R93, R94). -/
def Probe.compare (p : Profile) (cells : List Byte) (x : Probe) : Probe :=
  match x.reference with
  | none => { x with reference := some cells }
  | some ref =>
    let still := decide (changedCount p cells ref < p.cs)
    let x := { x with freezeRun := runOf still x.freezeRun }
    if p.k ≤ x.gridCount + 1 then { x with reference := some cells, gridCount := 0 }
    else { x with gridCount := x.gridCount + 1 }

/-- Mean, dark run, flat run and freeze run brought up to date (R90 to R94). A first grid starts from cleared
counts (R93). -/
def Probe.arithmetic (p : Profile) (cells : List Byte) (x : Probe) : Probe :=
  let vs := activeCells p cells
  let x := if x.reference.isNone then { x with gridCount := 0, darkRun := 0, flatRun := 0, freezeRun := 0 } else x
  Probe.compare p cells
    { x with mean := some (meanOf vs), active := some vs.length
             darkRun := runOf (decide (meanOf vs < p.dl)) x.darkRun
             flatRun := runOf (isFlat p vs) x.flatRun }

/-- The verdict of a grid judged through the whole arithmetic (R95, lines 3 to 6). -/
def Probe.picture (p : Profile) (x : Probe) : Verdict :=
  if p.nd ≤ x.darkRun then .dark
  else if p.nf ≤ x.flatRun then .flat
  else if p.nz ≤ x.freezeRun then .frozen
  else .nominal

/-- The judgement of one grid: the context after it, and the verdict it forms, if it forms one (R86, R88 to R95). -/
def Probe.judge (p : Profile) (lock : Bool) (cells : List Byte) (x : Probe) : Probe × Option Verdict :=
  let x := { x with silence := 0 }
  if lock then
    let x := if 3 ≤ x.lockLoss then x.afresh else { x with lockLoss := 0 }
    if (activeCells p cells).length < 16 then (x, some .unknown)
    else
      let x := x.arithmetic p cells
      (x, some (x.picture p))
  else
    let x := { x with lockLoss := min 255 (x.lockLoss + 1) }
    (x, if 3 ≤ x.lockLoss then some .noSignal else none)

namespace State

/-- A probe's verdict is given for sending (R96, R99): it enters the own source, and a VERDICT is offered. -/
def giveVerdict (s : State) (p : ProbeId) : State :=
  match (s.probe p).chan with
  | some c =>
    let t := s.verdictEnters c s.me (s.probe p).verdict
    (t.modProbe p fun x => { x with repeatTimer := 0, sendPending := true }).offerVerdict p
  | none => s

/-- A verdict is formed; one that differs from the verdict before is given for sending (R96). -/
def formVerdict (s : State) (p : ProbeId) (v : Verdict) : State :=
  if (s.probe p).verdict = v then s else (s.modProbe p fun x => { x with verdict := v }).giveVerdict p

/-- An accepted delivery is judged (R86). -/
def judgeGrid (s : State) (p : ProbeId) (c : Chan) (lock : Bool) (cells : List Byte) : State :=
  let x := (s.probe p).judge (s.chan c).profile lock cells
  let t := s.modProbe p fun _ => x.1
  match x.2 with
  | some v => t.formVerdict p v
  | none => t

/-- A delivery on the probe port (R86). -/
def gridArrives (s : State) (probe : Nat) (lock : Bool) (cells : List Byte) : State :=
  if h : probe < 4 then
    match (s.probe ⟨probe, h⟩).chan with
    | some c => if s.active && decide (cells.length = 144) then s.judgeGrid ⟨probe, h⟩ c lock cells else s
    | none => s
  else s

/-- A mapped probe whose silence count stands at 12 starts afresh, and its verdict is UNKNOWN (R87). -/
def probeGone (s : State) (p : ProbeId) : State :=
  if (s.probe p).chan.isSome ∧ 12 ≤ (s.probe p).silence then
    (s.modProbe p Probe.afresh).formVerdict p .unknown
  else s

/-- A mapped probe whose repeat timer stands at 50 gives its verdict again (R99). -/
def repeatVerdict (s : State) (p : ProbeId) : State :=
  if (s.probe p).chan.isSome ∧ 50 ≤ (s.probe p).repeatTimer then s.giveVerdict p else s

end State

end Sys2Proof.Machine
end

