-- ==== Sys2Proof/Machine/Watching.lean ====
section
/-! DEFINITION. What reaches the watch unit and the relay records from the line: AIRBEAT, RELAYSTATE and VERDICT
(R60, R65, R68, R69). -/

namespace Sys2Proof.Machine

/-- A carried beat entry as the watch unit reads it; none where R65 passes it over for its form. -/
def RawBeat.entry (r : Rate) (b : RawBeat) : Option (Chan × BeatEntry) := do
  let c ← chanOf b.chan
  let main ← MainState.ofCode b.main
  let present ← flagOf b.present
  if b.report.frame < r.fpd then
    some (c, { epoch := b.epoch, main := main, event := b.event, offset := b.offset, report := b.report,
               prepared := if present && decide (b.preparedPos.frame < r.fpd) then
                 some (b.preparedEvent, b.preparedPos) else none })
  else none

namespace State

/-- A beat entry handed to the replication unit (R60). -/
def judgeBeat (s : State) (c : Chan) (b : BeatEntry) : State :=
  let ch := s.chan c
  if ch.authority = .main ∧ b.main = .onAir then
    if b.epoch < ch.epoch then s
    else if ch.epoch < b.epoch then
      match ch.replica with
      | .current => s.makeStale c .epoch
      | .stale => s.setStale c .epoch
      | _ => s
    else if ch.anchor.elim false fun a => decide (a.source = .beat) && Pos.before s.rate b.report a.report then s
    else if (findEvent b.event ch.list).isSome then
      s.writeAnchor c ⟨b.event, b.report.sub s.rate b.offset, .beat, b.report⟩
    else if ch.replica = .current then s.makeStale c .mismatch
    else s
  else s

/-- An accepted beat entry in the watch record (R65 to R67). -/
def recordBeat (s : State) (c : Chan) (b : BeatEntry) : State :=
  s.modWatch c fun w =>
    let last := match w.lastBeat with
      | some old => if Pos.atOrPast s.rate b.report old.report then b else old
      | none => b
    (({ w with beatTimer := 0, lastBeat := some last } : WatchRec).setBeatLost s.cfg.tb s.now).setFault s.now

/-- One channel entry of an AIRBEAT (R65). -/
def beatArrives (s : State) (raw : RawBeat) : State :=
  match raw.entry s.rate with
  | none => s
  | some (c, b) =>
    if (s.chan c).watched = false then s
    else if s.time.timeState = .set ∧ (s.cfg.tb : Int) < s.age b.report then s
    else (s.recordBeat c b).judgeBeat c b

/-- A RELAYSTATE of relay `a` (R68). -/
def relaystateArrives (s : State) (a : Addr) (link : Nat) : State :=
  match LinkState.ofCode link with
  | some l => (s.modPeer a fun p => { p with link := l }).updateLink
  | none => s

/-- A VERDICT of a peer (R69). -/
def verdictArrives (s : State) (a : Addr) (chan verdict : Nat) : State :=
  match chanOf chan, Verdict.ofCode verdict with
  | some c, some v => if (s.chan c).watched then s.verdictEnters c a v else s
  | _, _ => s

end State

end Sys2Proof.Machine
end

