-- ==== Sys2Proof/Machine/Startup.lean ====
section
/-! DEFINITION. Resets, the configuration memory, the station states, the soft restart (R36, R63, R84, R85, R101, R126,
R163, R178, R190, R198 to R203). -/

namespace Sys2Proof.Machine

/-! ### The configuration block (R200, R201) -/

/-- The fields of a block as numbers. -/
structure RawSettings where
  rate : Nat
  watch : Nat
  probes : List Nat
  values : List Nat
  deriving DecidableEq, Repr

/-- Two-byte and one-byte values in turn, by their widths. -/
def readFields : List Nat → List Byte → Option (List Nat)
  | [], _ => some []
  | w :: ws, bs => do
    let (n, bs) ← readNat w bs
    let rest ← readFields ws bs
    some (n :: rest)

/-- The widths of Tb, Tu, Tp, Tr, Ta, Tw, L, tail margin, G, arm lead, lock lead, W and handback lead (R200). -/
def holdWidths : List Nat := [2, 2, 2, 2, 2, 1, 1, 1, 1, 1, 1, 1, 2]

/-- The ranges of those values, in the same order (R200). -/
def holdRanges : List (Nat × Nat) :=
  [(10, 250), (25, 1500), (25, 1500), (50, 3000), (25, 1500), (4, 25), (4, 100), (0, 250), (0, 25), (10, 250), (2, 25),
   (2, 10), (100, 3000)]

/-- A block whose check is good (R201); none for a block that is to be defaulted. -/
def readBlock (bs : List Byte) : Option RawSettings :=
  if bs.length = 30 ∧ (crc (bs.take 28)).toNat = beNat (bs.drop 28) then do
    let (rate, bs) ← readNat 1 bs
    let (watch, bs) ← readNat 4 bs
    let (probes, bs) ← takeBytes 4 bs
    let values ← readFields holdWidths bs
    some ⟨rate, watch, probes.map BitVec.toNat, values⟩
  else none

/-- The site rate of a block, 0 and values above 2 clamped (R201). -/
def rateOf (n : Nat) : Rate := if n ≤ 1 then .rate25 else .rate30df

/-- A probe map entry: 0 and values above 32 are unused (R200, R201). -/
def probeEntry (xs : List Nat) (i : Nat) : Option Chan := chanOf (xs.getD i 0)

/-- A hold, lead, window or margin at the nearer bound (R201). -/
def holdOf (xs : List Nat) (i : Nat) : Nat :=
  clamp (holdRanges.getD i (0, 0)).1 (holdRanges.getD i (0, 0)).2 (xs.getD i 0)

/-- A lock lead that is not below the arm lead becomes the arm lead less 2 (R201). -/
def lockLeadOf (armLead lockLead : Nat) : Nat := if armLead ≤ lockLead then armLead - 2 else lockLead

/-- The configuration values of a block (R200, R201); `rate` is the site rate that stands. -/
def RawSettings.settings (x : RawSettings) (rate : Rate) : Settings :=
  let v := holdOf x.values
  { rate := rate, watch := BitVec.ofNat 32 x.watch, probeMap := Vector.ofFn fun p => probeEntry x.probes p.val
    tb := v 0, tu := v 1, tp := v 2, tr := v 3, ta := v 4, tw := v 5, lead := v 6, tailMargin := v 7, grace := v 8
    armLead := v 9, lockLead := lockLeadOf (v 9) (v 10), confirm := v 11, handbackLead := v 12 }

/-- Whether the clamps of R201 changed a value. At a soft restart a rate that differs from the running one sets no
flag. -/
def RawSettings.clamped (x : RawSettings) (cold : Bool) (running : Rate) : Bool :=
  ((decide (x.rate = 0) || decide (2 < x.rate)) && (cold || decide (rateOf x.rate = running))) ||
    (x.probes.any fun n => decide (32 < n)) ||
    ((List.range 13).any fun i => decide (holdOf x.values i ≠ x.values.getD i 0)) ||
    decide (holdOf x.values 9 ≤ holdOf x.values 10)

/-- What the loader makes of the memory's answer: the values, CONFIG CLAMPED and CONFIG DEFAULTED (R201). -/
def loadSettings (cold : Bool) (running : Rate) (block : Option (List Byte)) : Settings × Bool × Bool :=
  match block.bind readBlock with
  | some x => (x.settings (if cold then rateOf x.rate else running), x.clamped cold running, false)
  | none => ({ Settings.default with rate := if cold then .rate25 else running }, false, true)

/-- The values of R84 for a record opened at `now`. -/
def WatchRec.opened (now : Pos) : WatchRec :=
  { beatTimer := 0, lastBeat := none, beatLost := ⟨false, now, 0⟩, mainFault := ⟨false, now, 0⟩,
    pictureBad := ⟨false, now, 0⟩, pictureUnknown := ⟨true, now, 0⟩, linkDown := ⟨true, now, 0⟩, sources := [],
    health := .nominal, inhibit := false, orphan := false }

/-- A channel record as a soft restart leaves it before its walk: no anchor, no image request (R35, R51, R63). -/
def ChannelRec.unanchored (ch : ChannelRec) : ChannelRec := { ch with anchor := none, request := none }

/-- A probe context at START, mapped to a channel of the watch set or unused (R85, R101). -/
def Probe.mapped (s : State) (c : Option Chan) : Probe :=
  { Probe.reset with chan := c.bind fun c => if (s.chan c).watched then some c else none }

/-- The line interface at an entry into START: its queues are empty, and a message being received is to be discarded
(R178, R179, R190). The level of the line is not the part's. A HANDOVER cancel still waiting for class 0 is dropped with
the queues, on which R174 is silent (log 36). -/
def Line.atStart (l : Line) : Line :=
  { Line.reset with idle := l.idle, receiving := l.receiving, spoilt := l.receiving }

namespace State

/-- Whether a channel is in the watch set of the configuration. -/
def inWatchSet (s : State) (c : Chan) : Bool := s.cfg.watch.getLsbD c.val

/-- The watched flag of one channel follows the watch set; a channel that leaves it frees its list (R17, R21). Where
several leave at one START their records reach the free list in rising channel order, the model's choice (log 31). -/
def watchChannel (s : State) (c : Chan) : State :=
  if s.inWatchSet c then s.modChan c fun ch => { ch with watched := true }
  else
    (s.modChan c fun ch =>
      { ch with watched := false, replica := .empty, cause := none, anchor := none, list := [], request := none }).freeRecs
        (s.chan c).list

/-- The values handed to the blocks at the end of START, in the order of R199; the channels are taken in rising order,
which is the order their records are freed in (R21 does not order the channels; log 31). -/
def handOver (s : State) (cfg : Settings) : State :=
  let t := if s.loader.cold then s.setTime fun t => { t with running := true, sinceFrame := 0, sinceMark := 0 } else s
  let t := forChans (fun c t => t.watchChannel c) (t.setLoader fun l => { l with cfg := cfg })
  { t with
      watch := t.chans.map fun ch => if ch.watched then some (WatchRec.opened t.now) else none
      probes := cfg.probeMap.map (Probe.mapped t) }

/-- The entry into LISTENING: the first BEACON is offered (R103), and the image requests of the EMPTY and STALE
channels begin (R49, R51). -/
def enterListening (s : State) : State :=
  let t := (s.setLoader fun l => { l with station := .listening, listening := 0 }).setLine fun l =>
    { l with beaconTimer := 0 }
  forChans (fun c t =>
    if (t.chan c).replica = .empty ∨ (t.chan c).replica = .stale then t.beginRequest c else t) t.offerBeacon

/-- The straps and the memory have been read in START (R199): INERT without an address, else LISTENING. -/
def configured (s : State) (straps : BitVec 5) (block : Option (List Byte)) : State :=
  let cold := s.loader.cold
  let address := if cold then (if 1 ≤ straps.toNat ∧ straps.toNat ≤ 16 then some straps.toNat else none)
    else s.loader.address
  let x := loadSettings cold s.rate block
  let t := s.setLoader fun l => { l with address := address, clamped := x.2.1, defaulted := x.2.2 }
  match address with
  | some _ => (t.handOver x.1).enterListening
  | none =>
    (t.setLoader fun l => { l with station := .inert, cfg := { l.cfg with rate := x.1.rate } }).setTime fun t =>
      { t with running := true, sinceFrame := 0, sinceMark := 0 }

/-! ### Station states (R202) -/

def setStation (s : State) (st : StationState) : State := s.setLoader fun l => { l with station := st }

/-- READY is left for DEGRADED, and the other way (R202). -/
def judgeReady (s : State) : State :=
  let spoilt := decide (s.time.refState = .flywheel) || decide (s.time.timeState = .disputed)
  match s.loader.station with
  | .ready => if spoilt then s.setStation .degraded else s
  | .degraded =>
    if !s.loader.defaulted && decide (s.time.refState = .pulsed) && decide (s.time.timeState = .set) then
      s.setStation .ready
    else s
  | _ => s

/-- The station state, judged at a frame event and at each change of what it rests on (R202); not changed during the
release phase (R203). Entering READY from LISTENING makes the test of R81. -/
def updateStation (s : State) : State :=
  if s.loader.releasePhase.isSome then s
  else if s.loader.station = .listening then
    if 36 ≤ s.loader.listening then
      if s.loader.defaulted then s.setStation .degraded
      else if s.time.timeState = .set then
        (forChans (fun c t => t.authorityTest c) (s.setStation .ready)).judgeReady
      else s
    else s
  else s.judgeReady

/-! ### Full reset and soft restart -/

/-- Every block at its full-reset values, the reset pin held (R198). The queue of commands, the levels on the tally
pins, whether the line is idle or carries another station's message and the model's count of free values are not the part's to reset; the
message being received is discarded (R179). -/
def afterFullReset (s : State) : State :=
  { Sys2Proof.Machine.State.reset with
      pending := s.pending, freeCount := s.freeCount, slots := s.slots.map fun x => Slot.reset x.tally
      line := s.line.atStart }

/-- The reset pin is released: START, with the flags clear (R198, R199), and a message being received is to be discarded
(R179). -/
def afterRelease (s : State) : State :=
  if s.loader.resetHeld then
    (s.setLoader fun l =>
      { l with resetHeld := false, station := .start, cold := true, clamped := false, defaulted := false }).setLine
        fun l => { l with spoilt := l.receiving }
  else s

/-- A channel's replica at a soft restart (R36, R63). Where several loads end at one restart their records reach the
free list in rising channel order, the model's choice (R21; log 31). -/
def restartChannel (s : State) (c : Chan) : State :=
  let parked := s.repl.parked.any fun e => decide (e.chan = c)
  match (s.chan c).replica with
  | .loading => s.setStale c .restart
  | .current => if parked then s.setStale c .restart else s
  | _ => s

/-- The soft-restart values of every block, at the entry into START that ends the release phase (R36, R63, R101, R126,
R163, R166, R178, R179, R190). The time base runs on (R14); the log, the pool, epochs and profiles are kept. R63 and R190
empty the image service queue and the class queues and do not name the answers of count 0 that still wait for a class 2
entry (R58); that those are dropped is the model's choice (log 50). -/
def enterStart (s : State) : State :=
  let t := s.setLoader fun l =>
    { l with station := .start, cold := false, clamped := false, defaulted := false, listening := 0,
             releasePhase := none }
  let t := { t with slots := t.slots.map fun x => Slot.reset x.tally }
  let t := forChans (fun c t => t.restartChannel c) t
  let t := { t with chans := t.chans.map ChannelRec.unanchored }
  let t := t.setRepl fun r => { r with parked := [], service := [], serving := none, zeroAnswers := [] }
  let t := forChans (fun c t => t.walk c) t
  { t with probes := Vector.replicate 4 Probe.reset, peers := Vector.replicate 30 Peer.reset,
           views := Vector.replicate 32 View.reset, claims := ClaimEngine.reset,
           line := t.line.atStart }

/-- A RELEASE of the release phase. -/
def isPhaseRelease : OutMsg → Bool
  | .release _ _ _ _ p => p
  | _ => false

/-- Whether a RELEASE of the phase has not echoed yet (R203). -/
def phaseReleaseLeft (s : State) : Bool :=
  (s.line.q0.any fun e => isPhaseRelease e.msg) || s.line.outbox.any isPhaseRelease

/-- Whether no slot holds a channel; a release is pending only on a slot that holds one. -/
def noSlotHolds (s : State) : Bool := (List.finRange 8).all fun n => !(s.slot n).state.holds

/-- The phase ends when no slot holds a channel and every RELEASE of it has echoed (R203). -/
def endPhase (s : State) : State :=
  match s.loader.releasePhase with
  | some k => if 1 ≤ k ∧ s.noSlotHolds ∧ !s.phaseReleaseLeft then s.enterStart else s
  | none => s

/-- The phase ends at its twelfth frame event at the latest; a slot that still holds a channel takes its release first
(R126, R203). -/
def timeOutPhase (s : State) : State :=
  match s.loader.releasePhase with
  | some k => if 12 ≤ k then (forSlots (fun n t => t.slotReleaseStep n) s).enterStart else s
  | none => s

end State

end Sys2Proof.Machine
end

