-- ==== Sys2Proof/Machine/Frame.lean ====
section
/-! DEFINITION. The frame event: its making, its timers, the mark judged at it, and its work in one fixed order
(R1 to R4, R11, R12, R71, R146, R183; log 1). -/

namespace Sys2Proof.Machine

/-- A watch record at a frame event: its beat timer and the durations of its flags (R66, R71). -/
def WatchRec.tick (w : WatchRec) : WatchRec :=
  { w with beatTimer := min 65535 (w.beatTimer + 1), beatLost := w.beatLost.tick, mainFault := w.mainFault.tick,
           pictureBad := w.pictureBad.tick, pictureUnknown := w.pictureUnknown.tick, linkDown := w.linkDown.tick }

/-- An image request at a frame event: the timer runs from the echo, during a load and while WAITING (R53). -/
def ImageRequest.tick (q : ImageRequest) : ImageRequest :=
  if q.stage = .asking ∧ q.ask ≠ .echoed then q else { q with timer := min 250 (q.timer + 1) }

/-- A channel record at a frame event (R53, R57). -/
def ChannelRec.tick (ch : ChannelRec) : ChannelRec :=
  { ch with request := ch.request.map ImageRequest.tick
            shadow := ch.shadow.map fun sh => { sh with age := min 100 (sh.age + 1) } }

/-- A probe at a frame event (R87, R99). -/
def Probe.tick (x : Probe) : Probe :=
  if x.chan.isSome then { x with silence := min 12 (x.silence + 1), repeatTimer := min 50 (x.repeatTimer + 1) } else x

/-- A peer record at a frame event (R102, R105). The count of a station once heard goes on while it is absent, and that
of a station never heard since the reset stays 0, as R126 gives it (log 18). -/
def Peer.tick (p : Peer) : Peer := if p.heard then { p with count := min 65535 (p.count + 1) } else p

/-- The claim window at a frame event, up to Tw (R115, R118). -/
def View.tick (tw : Nat) (v : View) : View :=
  if v.contest = .claiming then { v with window := v.window.map fun w => min tw (w + 1) } else v

/-- A slot at a frame event: its own work is still to do; a fault found before it falls due (R160); an open confirm
window's count goes on, up to 10, the largest W (R1, R13, R200; log 28). -/
def Slot.tick (x : Slot) : Slot :=
  { x with fired := false, stepsDone := 0, faultDue := x.faultPending
           sincePlay := if x.expectedBy.isSome then min 10 (x.sincePlay + 1) else x.sincePlay }

/-- The loader's counts at a frame event (R202, R203). -/
def Loader.tick (l : Loader) : Loader :=
  { l with listening := if l.station = .listening then min 36 (l.listening + 1) else l.listening
           releasePhase := l.releasePhase.map fun k => min 12 (k + 1) }

namespace State

/-- The ages of parked entries rise, but for those of a channel that is LOADING (R40, R42, R56). -/
def tickParked (s : State) (xs : List Parked) : List Parked :=
  xs.map fun e => if (s.chan e.chan).replica = .loading then e else { e with age := min 50 (e.age + 1) }

/-- A frame event opens: the position advances by one (R4), every timer counts (R1), and its work stands open. -/
def openFrame (s : State) : State :=
  { s with
      time := { s.time with pos := s.time.pos.succ s.rate, sinceFrame := 0, sinceMark := 0, frameOpen := true }
      loader := s.loader.tick
      chans := s.chans.map ChannelRec.tick
      repl := { s.repl with parked := s.tickParked s.repl.parked }
      watch := s.watch.map (Option.map WatchRec.tick)
      probes := s.probes.map Probe.tick
      peers := s.peers.map Peer.tick
      views := s.views.map (View.tick s.cfg.tw)
      slots := s.slots.map Slot.tick
      line := { s.line with beaconTimer := if s.active then min 12 (s.line.beaconTimer + 1) else s.line.beaconTimer } }

/-- Whether any slot is active (R10, R11). -/
def anyActive (s : State) : Bool := (List.finRange 8).any fun n => decide ((s.slot n).state ≠ .free)

/-- A mark is adopted: the frame event carries it; the time is SET; a TIME STEP entry for a move (R11, R12). -/
def adoptMark (s : State) (m : Pos) (d : Int) (entry : Bool) : State :=
  let t := s.setTime fun t => { t with pos := m, timeState := .set, pendingMark := none }
  if entry && decide (d ≠ 0) then t.writeEntry .timeStep none none none (some d) none else t

/-- The pending mark is judged against the expected position, which the open frame event carries (R11, R12). -/
def judgeMark (s : State) : State :=
  match s.time.pendingMark with
  | none => s
  | some m =>
    let d := Pos.diff s.rate s.now m
    let near := decide (-1 ≤ d) && decide (d ≤ 1)
    let t := match s.time.timeState with
      | .unset => s.adoptMark m d false
      | _ =>
        if near || !s.anyActive then s.adoptMark m d true
        else s.setTime fun t => { t with timeState := .disputed, pendingMark := none }
    t.updateStation.review

/-- A BEACON falls due (R103). -/
def beaconDue (s : State) : State :=
  if s.active ∧ 12 ≤ s.line.beaconTimer then (s.setLine fun l => { l with beaconTimer := 0 }).offerBeacon else s

/-- The silences of a frame event (R68, R105). -/
def silences (s : State) : State :=
  [17, 18, 19, 20].foldl (fun t a => t.relayGone a) (((List.range 16).map (· + 1)).foldl (fun t a => t.peerGone a) s)

/-- The offers that wait for a frame event, in the order of R183, and the probes' silence and repeats. Each change of a
probe's verdict reaches the claim engine as it arises (R80, R120). Two probes of one channel both pending follow R183's
order, P0 first, so that the higher-numbered one's VERDICT is reported, where R99 has the one given last reported
(log 34). -/
def offers (s : State) : State :=
  let t := s.offerCancels.beaconDue.beaconRetry
  let t := forProbes (fun p t => ((t.probeGone p).review.repeatVerdict p).review.offerVerdict p) t
  forChans (fun c t => t.askTarget c) t

/-- The replica store's and the replication unit's timed work on one channel (R23 to R25, R34, R42, R53, R57). -/
def frameChannel (s : State) (c : Chan) : State :=
  (((((s.expireAnchor c).frameStore c).parkedTimeout c).targetTimeout c).loadTimeout c).roundRestart c

/-- The claim engine's timed work (R113, R118, R120, R121, R125). -/
def frameClaims (s : State) : State :=
  let t := forChans (fun c t => ((t.expireExclusions c).expireIneligible c).deadWinner c) s
  t.offerTake.review.look

/-- All the work of a frame event that is still to do, in one fixed order (log 1). -/
def frameWork (s : State) : State :=
  let t := s.judgeMark.silences.offers
  let t := forChans (fun c t => t.frameChannel c) t
  let t := forChans (fun c t => t.frameWatch c) t
  let t := t.updateStation.review
  let t := forSlots (fun n t => t.slotRun n 9) (forSlots (fun n t => t.slotReleaseStep n) t)
  t.frameClaims.endPhase.timeOutPhase

/-- The open frame event's work is finished (log 1). -/
def settle (s : State) : State :=
  if s.time.frameOpen then s.frameWork.setTime fun t => { t with frameOpen := false } else s

/-- What every command does first: the outputs of the last are gone (log 8). -/
def clearOut (s : State) : State := { s with out := [] }

/-- An event between frame events: what is left of an open one is taken first, then the event (log 1), and a
contest whose conditions have lapsed by it is withdrawn (R120). -/
def event (s : State) (f : State → State) : State := (f s.clearOut.settle).review

/-- A step of the open frame event: the mark is judged first (R11), then the step; with none open, nothing
(log 1). -/
def atFrame (s : State) (f : State → State) : State :=
  let t := s.clearOut
  if t.time.frameOpen then (f t.judgeMark).review else t

/-! ### Pulses and substitutes (R1 to R3) -/

/-- Oscillator time passes with no frame event. -/
def timePasses (s : State) (dt : Nat) : State :=
  s.setTime fun t => { t with sinceFrame := t.sinceFrame + dt, sinceMark := t.sinceMark + dt }

/-- The reference state has changed: READY and DEGRADED follow at once (R2, R202), but not in the release phase. -/
def referenceChanged (s : State) : State := if s.loader.releasePhase.isSome then s else s.judgeReady.review

/-- A pulse on the house reference input (R1, R3). -/
def pulse (s : State) (dt : Nat) : State :=
  if s.time.running then
    let e := s.time.sinceFrame + dt
    let whole := decide (s.rate.half ≤ e)
    match s.time.refState with
    | .pulsed => if whole then s.openFrame else s.timePasses dt
    | .flywheel =>
      let t := s.setTime fun t => { t with refState := .pulsed }
      if whole then t.openFrame.referenceChanged
      else (t.setTime fun t => { t with sinceFrame := e, sinceMark := 0 }).referenceChanged
  else s

/-- One and a half periods without a pulse: FLYWHEEL, and a substitute frame event (R2). -/
def loseReference (s : State) (dt : Nat) : State :=
  if s.time.running then
    if s.time.refState = .pulsed ∧ s.rate.loss ≤ s.time.sinceMark + dt then
      (s.setTime fun t => { t with refState := .flywheel }).openFrame.referenceChanged
    else s.timePasses dt
  else s

/-- In FLYWHEEL, one period after the last substitute, another (R2). -/
def substitute (s : State) (dt : Nat) : State :=
  if s.time.running then
    if s.time.refState = .flywheel ∧ s.rate.period ≤ s.time.sinceFrame + dt then s.openFrame else s.timePasses dt
  else s

end State

end Sys2Proof.Machine
end

