-- ==== Sys2Proof/Machine/Operands.lean ====
section
/-! DEFINITION. The operand forms of the commands: a reception off the line, a console command, an echo, a pin, a step of
a frame event (R146, R179, R184, R185, R191; log 1). -/

namespace Sys2Proof.Machine

namespace State

/-- The receive checks on what the line carried: the line interface works in LISTENING, READY and DEGRADED only, and
discards a message that was being received as the station entered START (R179, R185). -/
def receive (s : State) (rx : Reception) : Received :=
  if s.active && !s.line.spoilt then
    match readFrame rx with
    | some f => judgeFrame s.me f
    | none => .discard
  else .discard

/-- A message arrives: when the receive checks pass it and `f` takes messages of its kind, its source is heard and
the effect `f` gives follows (R185). Anything else is not this command's and changes nothing. -/
def arrival (s : State) (rx : Reception) (f : Addr → Addr → Msg → Option (State → State)) : State :=
  s.event fun t =>
    match t.receive rx with
    | .deliver src dst m =>
      match f src dst m with
      | some g => g (t.hear src)
      | none => t
    | _ => t

/-- A COMMAND of good form arrives (R191): `f` takes the commands of one code, given the destination, the console and
the tag. `broadcast` says that destination 0 is allowed. -/
def console (s : State) (rx : Reception) (broadcast : Bool)
    (f : Addr → Addr → Nat → Command → Option (State → State)) : State :=
  s.arrival rx fun src dst m =>
    match m with
    | .command tag code bs =>
      (readCommand code bs).bind fun k =>
        (f dst src tag k).map fun g t => t.commandTaken dst src tag broadcast g
    | _ => none

/-- The echo of a message that `p` names: it leaves its queue, and its block is told (R184). -/
def echo (s : State) (p : OutMsg → Bool) (f : OutMsg → State → State) : State :=
  s.event fun t =>
    match t.sendingHead p with
    | some m => f m t.leaveHead
    | none => t

/-- A slot's work of the open frame event, up to step `k` of R146. -/
def slotTo (s : State) (n : SlotId) (k : Nat) : State := s.atFrame fun t => t.slotRun n k

/-- The tally input of a slot rises (R159): the level is taken, and a rise confirms a CLIP event whose confirm window
is open. -/
def tallyRises (s : State) (n : SlotId) : State :=
  let x := s.slot n
  let t := s.modSlot n fun x => { x with tally := true }
  match x.cur with
  | some cue =>
    if x.tally = false ∧ cue.source.isClip ∧ cue.event.isSome ∧ x.expectedBy.isSome then t.confirmCue n s.now else t
  | none => t

/-- Whether now lies before a cue end less one frame (R159). -/
def beforeCueEnd (s : State) : Option Pos → Bool
  | none => true
  | some e => Pos.before s.rate s.now (e.sub s.rate 1)

/-- The tally input of a slot falls (R159): a fall under a confirmed CLIP before its end is a server fault. -/
def tallyFalls (s : State) (n : SlotId) : State :=
  let x := s.slot n
  let t := s.modSlot n fun x => { x with tally := false, highSincePlay := false }
  match x.cur with
  | some cue =>
    if x.tally = true ∧ cue.source.isClip ∧ x.confirmed ∧ x.restartPlay.isNone ∧ s.beforeCueEnd cue.cueEnd then
      t.foundFault n
    else t
  | none => t

end State

end Sys2Proof.Machine
end

