-- ==== Sys2Proof/Machine/RowsClaims.lean ====
section
/-! DEFINITION. The meanings of the peer and claim commands (R102 to R108, R115 to R125, R167). -/

namespace Sys2Proof.Machine

/-- BEACON_OFFERED (R103). -/
def execBeaconOffered (s : State) : Host.Outcome State Fault Refusal := .next (s.atFrame State.beaconDue)

/-- BEACON_OFFER_RETRY (R183). -/
def execBeaconOfferRetry (s : State) : Host.Outcome State Fault Refusal := .next (s.atFrame State.beaconRetry)

/-- BEACON_RECEIVED (R104). -/
def execBeaconReceived (rx : Reception) (s : State) : Host.Outcome State Fault Refusal :=
  .next (s.arrival rx fun src _ m =>
    match m with
    | .beacon b => some fun t => t.beaconArrives src b
    | _ => none)

/-- PEER_SILENT (R105). -/
def execPeerSilent (a : Addr) (s : State) : Host.Outcome State Fault Refusal := .next (s.atFrame fun t => t.peerGone a)

/-- CLAIM_ECHO (R115, R184). -/
def execClaimEcho (s : State) : Host.Outcome State Fault Refusal :=
  .next (s.echo (fun m => decide (m.kind = .claim)) fun m t =>
    match m with
    | .claim c _ serial => t.claimEchoed c serial
    | _ => t)

/-- CLAIM_HEARD (R116). -/
def execClaimHeard (rx : Reception) (s : State) : Host.Outcome State Fault Refusal :=
  .next (s.arrival rx fun src _ m =>
    match m with
    | .claim chan weight forced => some fun t =>
      match chanOf chan, flagOf forced with
      | some c, some f => t.claimArrives c src ⟨f, weight⟩
      | _, _ => t
    | _ => none)

/-- CLAIM_WINDOW_EXPIRY (R118). -/
def execClaimWindowExpiry (s : State) : Host.Outcome State Fault Refusal := .next (s.atFrame State.offerTake)

/-- TAKE_OFFER_RETRY (R118, R183). -/
def execTakeOfferRetry (s : State) : Host.Outcome State Fault Refusal := .next (s.atFrame fun t => t.offerTake)

/-- TAKE_HEARD (R108, R117, R124). -/
def execTakeHeard (rx : Reception) (s : State) : Host.Outcome State Fault Refusal :=
  .next (s.arrival rx fun src _ m =>
    match m with
    | .take chan weight forced epoch => some fun t =>
      match chanOf chan, flagOf forced with
      | some c, some f => t.takeArrives c src ⟨f, weight⟩ epoch
      | _, _ => t
    | _ => none)

/-- TAKE_ECHO (R119, R127, R128, R184). -/
def execTakeEcho (s : State) : Host.Outcome State Fault Refusal :=
  .next (s.echo (fun m => decide (m.kind = .take)) fun m t =>
    match m with
    | .take c claim epoch => t.takeEchoed c claim epoch
    | _ => t)

/-- DEAD_WINNER_EXCLUSION (R121). -/
def execDeadWinnerExclusion (c : Chan) (s : State) : Host.Outcome State Fault Refusal :=
  .next (s.atFrame fun t => t.deadWinner c)

/-- EXCLUSION_EXPIRY (R121). -/
def execExclusionExpiry (c : Chan) (s : State) : Host.Outcome State Fault Refusal :=
  .next (s.atFrame fun t => t.expireExclusions c)

/-- PENDING_FORCE_LATCH_RUN (R123). -/
def execPendingForceLatchRun (s : State) : Host.Outcome State Fault Refusal := .next (s.atFrame State.runLatch)

/-- INELIGIBLE_EXPIRY (R125). -/
def execIneligibleExpiry (c : Chan) (s : State) : Host.Outcome State Fault Refusal :=
  .next (s.atFrame fun t => t.expireIneligible c)

/-- RELEASE_OUTBOX_OFFER (R166). -/
def execReleaseOutboxOffer (s : State) : Host.Outcome State Fault Refusal := .next (s.atFrame State.offerOutbox)

/-- RELEASE_ECHO (R166, R184): the release is sent; the phase of R203 counts those still to be. -/
def execReleaseEcho (s : State) : Host.Outcome State Fault Refusal :=
  .next (s.echo (fun m => decide (m.kind = .release)) fun _ t => t)

/-- RELEASE_HEARD (R167). -/
def execReleaseHeard (rx : Reception) (s : State) : Host.Outcome State Fault Refusal :=
  .next (s.arrival rx fun src _ m =>
    match m with
    | .release chan reason _ present ret => some fun t =>
      match chanOf chan, ReleaseReason.ofCode reason, flagOf present with
      | some c, some r, some f =>
        if r = .handback ∧ f = false then t else t.releaseArrives c src r (if f then some ret else none)
      | _, _, _ => t
    | _ => none)

/-- HANDOVER_CANCEL_OFFER (R174). -/
def execHandoverCancelOffer (s : State) : Host.Outcome State Fault Refusal := .next (s.atFrame State.offerCancels)

/-- HANDOVER_ECHO (R170, R184). -/
def execHandoverEcho (s : State) : Host.Outcome State Fault Refusal :=
  .next (s.echo (fun m => decide (m.kind = .handover)) fun m t =>
    match m with
    | .handover c event h ret false => t.noticeEchoed c event h ret
    | _ => t)

/-- HANDOVER_HEARD (R170, R185): its source is heard, and no action is taken. -/
def execHandoverHeard (rx : Reception) (s : State) : Host.Outcome State Fault Refusal :=
  .next (s.arrival rx fun _ _ m =>
    match m with
    | .handover .. => some id
    | _ => none)

end Sys2Proof.Machine
end

