-- ==== Sys2Proof/Machine/RowsConsole.lean ====
section
/-! DEFINITION. The meanings of the console commands (R61, R155, R168, R177, R191 to R197). -/

namespace Sys2Proof.Machine

/-- QUERY_STATION (R192). -/
def execQueryStation (rx : Reception) (s : State) : Host.Outcome State Fault Refusal :=
  .next (s.console rx false fun _ src tag k =>
    match k with
    | .queryStation => some fun t => t.answer src tag .done t.stationReply
    | _ => none)

/-- QUERY_CHANNEL (R192). -/
def execQueryChannel (rx : Reception) (s : State) : Host.Outcome State Fault Refusal :=
  .next (s.console rx false fun _ src tag k =>
    match k with
    | .queryChannel c => some fun t => t.queryChannelCmd src tag c
    | _ => none)

/-- QUERY_LIST (R193). -/
def execQueryList (rx : Reception) (s : State) : Host.Outcome State Fault Refusal :=
  .next (s.console rx false fun _ src tag k =>
    match k with
    | .queryList c start count => some fun t => t.queryListCmd src tag c start count
    | _ => none)

/-- QUERY_ASRUN (R177, R193). -/
def execQueryAsrun (rx : Reception) (s : State) : Host.Outcome State Fault Refusal :=
  .next (s.console rx false fun _ src tag k =>
    match k with
    | .queryAsrun start count => some fun t => t.queryAsrunCmd src tag start count
    | _ => none)

/-- FORCE_TAKE (R122, R194). -/
def execForceTake (rx : Reception) (s : State) : Host.Outcome State Fault Refusal :=
  .next (s.console rx false fun _ src tag k =>
    match k with
    | .forceTake c => some fun t => t.forceTakeCmd src tag c
    | _ => none)

/-- FORCE_RELEASE (R164, R194). -/
def execForceRelease (rx : Reception) (s : State) : Host.Outcome State Fault Refusal :=
  .next (s.console rx false fun _ src tag k =>
    match k with
    | .forceRelease c => some fun t => t.forceReleaseCmd src tag c
    | _ => none)

/-- INHIBIT (R82, R195); destination 0 is allowed. -/
def execInhibit (rx : Reception) (s : State) : Host.Outcome State Fault Refusal :=
  .next (s.console rx true fun dst src tag k =>
    match k with
    | .inhibit c on => some fun t => t.inhibitCmd dst src tag c on
    | _ => none)

/-- NEXT (R155, R196). -/
def execNextCmd (rx : Reception) (s : State) : Host.Outcome State Fault Refusal :=
  .next (s.console rx false fun _ src tag k =>
    match k with
    | .next c => some fun t => t.nextCommand src tag c
    | _ => none)

/-- HANDBACK (R168 to R170, R196). -/
def execHandback (rx : Reception) (s : State) : Host.Outcome State Fault Refusal :=
  .next (s.console rx false fun _ src tag k =>
    match k with
    | .handback c at? => some fun t => t.handbackCmd src tag c at?
    | _ => none)

/-- EDIT_REQUEST (R61, R62, R196). -/
def execEditRequest (rx : Reception) (s : State) : Host.Outcome State Fault Refusal :=
  .next (s.console rx false fun _ src tag k =>
    match k with
    | .editRequest c op operands => some fun t => t.editRequestCmd src tag c op operands
    | _ => none)

/-- RESTART (R197, R203). -/
def execRestart (rx : Reception) (s : State) : Host.Outcome State Fault Refusal :=
  .next (s.console rx false fun _ src tag k =>
    match k with
    | .restart => some fun t => t.restartCmd src tag
    | _ => none)

/-- BAD_COMMAND (R185 step 6, R191): a directed COMMAND too short to be read is answered without its source counting as
heard; one whose form is bad is answered; one for destination 0 that is not an INHIBIT draws no answer. -/
def execBadCommand (rx : Reception) (s : State) : Host.Outcome State Fault Refusal :=
  .next (s.event fun t =>
    match t.receive rx with
    | .badLength src tag => t.answer src tag .badCommand []
    | .deliver src dst (.command tag code bs) =>
      if (readCommand code bs).isSome then t
      else if dst = 0 ∧ code ≠ 7 then t.hear src
      else (t.hear src).answer src tag .badCommand []
    | _ => t)

end Sys2Proof.Machine
end

