-- ==== Sys2Proof/Machine/RowsLine.lean ====
section
/-! DEFINITION. The meanings of the line commands (R181, R184, R185). -/

namespace Sys2Proof.Machine

/-- LINE_IDLE (R181). -/
def execLineIdle (s : State) : Host.Outcome State Fault Refusal := .next (s.event State.lineBecomesIdle)

/-- LADDER_WAIT_EXPIRY (R181): the wait runs out with the line still idle. -/
def execLadderWaitExpiry (s : State) : Host.Outcome State Fault Refusal :=
  .next (s.event fun t => if t.active && t.line.idle then t.waitRunsOut else t)

/-- LINE_GOES_BUSY (R181). -/
def execLineGoesBusy (s : State) : Host.Outcome State Fault Refusal := .next (s.event State.lineBecomesBusy)

/-- MESSAGE_ECHO (R184): an EDIT, BEACON, VERDICT or REPLY. -/
def execMessageEcho (s : State) : Host.Outcome State Fault Refusal :=
  .next (s.echo (fun m => m.kind ∈ [.edit, .beacon, .verdict, .reply]) fun _ t => t)

/-- ECHO_FAILED (R184). -/
def execEchoFailed (s : State) : Host.Outcome State Fault Refusal := .next (s.event State.echoLost)

/-- MESSAGE_DISCARDED (R185): nothing of it reaches a block. -/
def execMessageDiscarded (_rx : Reception) (s : State) : Host.Outcome State Fault Refusal := .next (s.event id)

end Sys2Proof.Machine
end

