-- ==== Sys2Proof/Machine/RowsReplica.lean ====
section
/-! DEFINITION. The meanings of the replica store and replication commands (R34, R37, R42, R53 to R59). -/

namespace Sys2Proof.Machine

/-- BEAT_ANCHOR_EXPIRY (R34). -/
def execBeatAnchorExpiry (c : Chan) (s : State) : Host.Outcome State Fault Refusal :=
  .next (s.atFrame fun t => t.expireAnchor c)

/-- EDIT_RECEIVED (R37 to R48). -/
def execEditReceived (rx : Reception) (s : State) : Host.Outcome State Fault Refusal :=
  .next (s.arrival rx fun src _ m =>
    match m with
    | .edit chan epoch seq op operands => some fun t =>
      match chanOf chan with
      | some c => t.editArrives c src epoch seq op operands
      | none => t
    | _ => none)

/-- PARKED_EDIT_TIMEOUT (R42). -/
def execParkedEditTimeout (c : Chan) (s : State) : Host.Outcome State Fault Refusal :=
  .next (s.atFrame fun t => t.parkedTimeout c)

/-- IMAGEREQ_OFFER_RETRY (R53, R183). -/
def execImagereqOfferRetry (c : Chan) (s : State) : Host.Outcome State Fault Refusal :=
  .next (s.atFrame fun t => t.askTarget c)

/-- IMAGEREQ_ECHO (R53, R184). -/
def execImagereqEcho (s : State) : Host.Outcome State Fault Refusal :=
  .next (s.echo (fun m => decide (m.kind = .imagereq)) fun m t =>
    match m with
    | .imagereq c d => t.askEchoed c d
    | _ => t)

/-- IMAGE_TARGET_TIMEOUT (R53). -/
def execImageTargetTimeout (c : Chan) (s : State) : Host.Outcome State Fault Refusal :=
  .next (s.atFrame fun t => t.targetTimeout c)

/-- IMAGE_ROUND_RESTART (R53). -/
def execImageRoundRestart (c : Chan) (s : State) : Host.Outcome State Fault Refusal :=
  .next (s.atFrame fun t => t.roundRestart c)

/-- IMAGE_SEGMENT_RECEIVED (R54 to R56). -/
def execImageSegmentReceived (rx : Reception) (s : State) : Host.Outcome State Fault Refusal :=
  .next (s.arrival rx fun src _ m =>
    match m with
    | .image chan epoch imageId base index count records body => some fun t =>
      match chanOf chan with
      | some c => t.imageArrives c src ⟨imageId, epoch, base, index, count, records, body⟩
      | none => t
    | _ => none)

/-- IMAGE_LOAD_TIMEOUT (R57). -/
def execImageLoadTimeout (c : Chan) (s : State) : Host.Outcome State Fault Refusal :=
  .next (s.atFrame fun t => t.loadTimeout c)

/-- IMAGEREQ_RECEIVED (R58): one directed to this station. -/
def execImagereqReceived (rx : Reception) (s : State) : Host.Outcome State Fault Refusal :=
  .next (s.arrival rx fun src dst m =>
    match m with
    | .imagereq chan => some fun t => if dst = 0 then t else t.imagereqArrives src chan
    | _ => none)

/-- IMAGE_SEGMENT_QUEUED (R58, R59). -/
def execImageSegmentQueued (s : State) : Host.Outcome State Fault Refusal := .next (s.event State.serveNext)

/-- IMAGE_ECHO (R59, R184). -/
def execImageEcho (s : State) : Host.Outcome State Fault Refusal :=
  .next (s.echo (fun m => decide (m.kind = .image)) fun m t => t.imageDone m)

end Sys2Proof.Machine
end

