-- ==== Sys2Proof/Machine/RowsSlots.lean ====
section
/-! DEFINITION. The meanings of the slot commands: a row names the step of R146 that the slot has come to, and takes the
steps before it first (R146; log 1). -/

namespace Sys2Proof.Machine

/-- JOIN_CUE_ISSUE (R137). -/
def execJoinCueIssue (n : SlotId) (s : State) : Host.Outcome State Fault Refusal := .next (s.slotTo n 3)

/-- JOIN_CUE_FIRE (R140). -/
def execJoinCueFire (n : SlotId) (s : State) : Host.Outcome State Fault Refusal := .next (s.slotTo n 3)

/-- LINE_PULSE_END (R158), step 1. -/
def execLinePulseEnd (n : SlotId) (s : State) : Host.Outcome State Fault Refusal := .next (s.slotTo n 1)

/-- LOCK_POINT (R150), step 2. -/
def execLockPoint (n : SlotId) (s : State) : Host.Outcome State Fault Refusal := .next (s.slotTo n 2)

/-- CUE_FIRE (R151, R152, R156), step 3. -/
def execCueFire (n : SlotId) (s : State) : Host.Outcome State Fault Refusal := .next (s.slotTo n 3)

/-- ARM_NEXT_CUE (R148), step 9. -/
def execArmNextCue (n : SlotId) (s : State) : Host.Outcome State Fault Refusal := .next (s.slotTo n 9)

/-- RESTART_PLAY (R160), step 4. -/
def execRestartPlay (n : SlotId) (s : State) : Host.Outcome State Fault Refusal := .next (s.slotTo n 4)

/-- SERVER_FAULT_ACTION (R160, R161), step 5. -/
def execServerFaultAction (n : SlotId) (s : State) : Host.Outcome State Fault Refusal := .next (s.slotTo n 5)

/-- SCHEDULE_RUN_OUT (R153), step 6. -/
def execScheduleRunOut (n : SlotId) (s : State) : Host.Outcome State Fault Refusal := .next (s.slotTo n 6)

/-- CONFIRM_WINDOW_EXPIRY (R159), step 7. -/
def execConfirmWindowExpiry (n : SlotId) (s : State) : Host.Outcome State Fault Refusal := .next (s.slotTo n 7)

/-- FALLBACK_TIMEOUT (R161), step 7. -/
def execFallbackTimeout (n : SlotId) (s : State) : Host.Outcome State Fault Refusal := .next (s.slotTo n 7)

/-- SECONDARY_OCCURRENCE (R157, R158), step 8. -/
def execSecondaryOccurrence (n : SlotId) (s : State) : Host.Outcome State Fault Refusal := .next (s.slotTo n 8)

/-- HANDBACK_COMMIT_CHECK (R172, R173), step 3. -/
def execHandbackCommitCheck (n : SlotId) (s : State) : Host.Outcome State Fault Refusal := .next (s.slotTo n 3)

/-- HANDBACK_BOUNDARY (R172), step 3. -/
def execHandbackBoundary (n : SlotId) (s : State) : Host.Outcome State Fault Refusal := .next (s.slotTo n 3)

/-- TALLY_RISE (R159). -/
def execTallyRise (n : SlotId) (s : State) : Host.Outcome State Fault Refusal := .next (s.event fun t => t.tallyRises n)

/-- TALLY_FALL (R159). -/
def execTallyFall (n : SlotId) (s : State) : Host.Outcome State Fault Refusal := .next (s.event fun t => t.tallyFalls n)

/-- SLOT_RELEASE (R164, R165). -/
def execSlotRelease (n : SlotId) (s : State) : Host.Outcome State Fault Refusal :=
  .next (s.atFrame fun t => t.slotReleaseStep n)

end Sys2Proof.Machine
end

