-- ==== Sys2Proof/Machine/RowsTime.lean ====
section
/-! DEFINITION. The meanings of the reset, configuration, reference, time and station state commands (R1 to R4, R10, R11, R197 to R203). -/

namespace Sys2Proof.Machine

/-- FULL_RESET (R198). The work of a frame event still open when the pin is asserted is dropped with no word, the
model's choice (log 1). -/
def execFullReset (s : State) : Host.Outcome State Fault Refusal := .next s.afterFullReset

/-- RESET_RELEASED (R198). -/
def execResetReleased (s : State) : Host.Outcome State Fault Refusal := .next (s.event State.afterRelease)

/-- CONFIG_READ_COMPLETE (R199 to R201): the read ends a START, and means nothing elsewhere. -/
def execConfigReadComplete (straps : BitVec 5) (block : Option (List Byte)) (s : State) :
    Host.Outcome State Fault Refusal :=
  .next (s.event fun t =>
    if t.loader.station = .start ∧ t.loader.resetHeld = false then t.configured straps block else t)

/-- FRAME_PULSE (R1, R3). -/
def execFramePulse (dt : Nat) (s : State) : Host.Outcome State Fault Refusal := .next (s.clearOut.settle.pulse dt)

/-- FLYWHEEL_ENTRY (R2). -/
def execFlywheelEntry (dt : Nat) (s : State) : Host.Outcome State Fault Refusal :=
  .next (s.clearOut.settle.loseReference dt)

/-- SUBSTITUTE_FRAME_EVENT (R2). -/
def execSubstituteFrameEvent (dt : Nat) (s : State) : Host.Outcome State Fault Refusal :=
  .next (s.clearOut.settle.substitute dt)

/-- TIMEMARK_RECEIVED (R10). -/
def execTimemarkReceived (rx : Reception) (s : State) : Host.Outcome State Fault Refusal :=
  .next (s.arrival rx fun _ _ m =>
    match m with
    | .timemark rate pos => some fun t =>
      if Rate.ofCode rate = some t.rate ∧ pos.frame < t.rate.fpd then
        t.setTime fun b => { b with pendingMark := some pos }
      else t
    | _ => none)

/-- TIME_MARK_JUDGEMENT (R11, R12); every step of a frame event judges the mark first. -/
def execTimeMarkJudgement (s : State) : Host.Outcome State Fault Refusal := .next (s.atFrame State.judgeMark)

/-- LISTENING_COUNT_EXPIRY (R202). -/
def execListeningCountExpiry (s : State) : Host.Outcome State Fault Refusal := .next (s.atFrame State.updateStation)

/-- RELEASE_PHASE_END (R203). -/
def execReleasePhaseEnd (s : State) : Host.Outcome State Fault Refusal := .next (s.atFrame State.endPhase)

/-- RELEASE_PHASE_TIMEOUT (R203). -/
def execReleasePhaseTimeout (s : State) : Host.Outcome State Fault Refusal := .next (s.atFrame State.timeOutPhase)

end Sys2Proof.Machine
end

