-- ==== Sys2Proof/Machine/RowsWatch.lean ====
section
/-! DEFINITION. The meanings of the watch unit, relay and probe commands (R65, R66, R68 to R70, R86, R87, R99). -/

namespace Sys2Proof.Machine

/-- AIRBEAT_RECEIVED (R60, R65): its entries in turn. -/
def execAirbeatReceived (rx : Reception) (s : State) : Host.Outcome State Fault Refusal :=
  .next (s.arrival rx fun _ _ m =>
    match m with
    | .airbeat entries => some fun t => entries.foldl State.beatArrives t
    | _ => none)

/-- RELAYSTATE_RECEIVED (R68). -/
def execRelaystateReceived (rx : Reception) (s : State) : Host.Outcome State Fault Refusal :=
  .next (s.arrival rx fun src _ m =>
    match m with
    | .relaystate link => some fun t => t.relaystateArrives src link
    | _ => none)

/-- BEAT_LOST (R66). -/
def execBeatLost (c : Chan) (s : State) : Host.Outcome State Fault Refusal :=
  .next (s.atFrame fun t => t.updateBeatLost c)

/-- RELAY_SILENT (R68). -/
def execRelaySilent (a : Addr) (s : State) : Host.Outcome State Fault Refusal := .next (s.atFrame fun t => t.relayGone a)

/-- VERDICT_RECEIVED (R69). -/
def execVerdictReceived (rx : Reception) (s : State) : Host.Outcome State Fault Refusal :=
  .next (s.arrival rx fun src _ m =>
    match m with
    | .verdict chan verdict => some fun t => t.verdictArrives src chan verdict
    | _ => none)

/-- VERDICT_SOURCE_STALE (R70). -/
def execVerdictSourceStale (c : Chan) (s : State) : Host.Outcome State Fault Refusal :=
  .next (s.atFrame fun t => t.updatePicture c)

/-- GRID_DELIVERY (R86, R88 to R96). -/
def execGridDelivery (probe : Nat) (lock : Bool) (cells : List Byte) (s : State) : Host.Outcome State Fault Refusal :=
  .next (s.event fun t => t.gridArrives probe lock cells)

/-- PROBE_SILENT (R87). -/
def execProbeSilent (p : ProbeId) (s : State) : Host.Outcome State Fault Refusal := .next (s.atFrame fun t => t.probeGone p)

/-- VERDICT_REPEAT (R99). -/
def execVerdictRepeat (p : ProbeId) (s : State) : Host.Outcome State Fault Refusal :=
  .next (s.atFrame fun t => t.repeatVerdict p)

/-- VERDICT_OFFER_RETRY (R99, R183). -/
def execVerdictOfferRetry (p : ProbeId) (s : State) : Host.Outcome State Fault Refusal :=
  .next (s.atFrame fun t => t.offerVerdict p)

end Sys2Proof.Machine
end

