-- ==== Sys2Proof/Machine/Dispatch.lean ====
section
/-! DEFINITION. Every command's meaning: one arm for each row of the table. -/

namespace Sys2Proof.Machine

def exec (i : Instr) (s : State) : Host.Outcome State Fault Refusal :=
  match i with
  | .fullReset => Sys2Proof.Machine.execFullReset s
  | .configReadComplete straps block => Sys2Proof.Machine.execConfigReadComplete straps block s
  | .framePulse dt => Sys2Proof.Machine.execFramePulse dt s
  | .flywheelEntry dt => Sys2Proof.Machine.execFlywheelEntry dt s
  | .substituteFrameEvent dt => Sys2Proof.Machine.execSubstituteFrameEvent dt s
  | .timemarkReceived rx => Sys2Proof.Machine.execTimemarkReceived rx s
  | .timeMarkJudgement => Sys2Proof.Machine.execTimeMarkJudgement s
  | .beatAnchorExpiry c => Sys2Proof.Machine.execBeatAnchorExpiry c s
  | .airbeatReceived rx => Sys2Proof.Machine.execAirbeatReceived rx s
  | .relaystateReceived rx => Sys2Proof.Machine.execRelaystateReceived rx s
  | .editReceived rx => Sys2Proof.Machine.execEditReceived rx s
  | .parkedEditTimeout c => Sys2Proof.Machine.execParkedEditTimeout c s
  | .imagereqOfferRetry c => Sys2Proof.Machine.execImagereqOfferRetry c s
  | .imagereqEcho => Sys2Proof.Machine.execImagereqEcho s
  | .imageTargetTimeout c => Sys2Proof.Machine.execImageTargetTimeout c s
  | .imageRoundRestart c => Sys2Proof.Machine.execImageRoundRestart c s
  | .imageSegmentReceived rx => Sys2Proof.Machine.execImageSegmentReceived rx s
  | .imageLoadTimeout c => Sys2Proof.Machine.execImageLoadTimeout c s
  | .imagereqReceived rx => Sys2Proof.Machine.execImagereqReceived rx s
  | .imageSegmentQueued => Sys2Proof.Machine.execImageSegmentQueued s
  | .imageEcho => Sys2Proof.Machine.execImageEcho s
  | .beatLost c => Sys2Proof.Machine.execBeatLost c s
  | .relaySilent a => Sys2Proof.Machine.execRelaySilent a s
  | .verdictReceived rx => Sys2Proof.Machine.execVerdictReceived rx s
  | .verdictSourceStale c => Sys2Proof.Machine.execVerdictSourceStale c s
  | .gridDelivery probe lock cells => Sys2Proof.Machine.execGridDelivery probe lock cells s
  | .probeSilent p => Sys2Proof.Machine.execProbeSilent p s
  | .verdictRepeat p => Sys2Proof.Machine.execVerdictRepeat p s
  | .verdictOfferRetry p => Sys2Proof.Machine.execVerdictOfferRetry p s
  | .beaconOffered => Sys2Proof.Machine.execBeaconOffered s
  | .beaconOfferRetry => Sys2Proof.Machine.execBeaconOfferRetry s
  | .beaconReceived rx => Sys2Proof.Machine.execBeaconReceived rx s
  | .peerSilent a => Sys2Proof.Machine.execPeerSilent a s
  | .claimEcho => Sys2Proof.Machine.execClaimEcho s
  | .claimHeard rx => Sys2Proof.Machine.execClaimHeard rx s
  | .claimWindowExpiry => Sys2Proof.Machine.execClaimWindowExpiry s
  | .takeOfferRetry => Sys2Proof.Machine.execTakeOfferRetry s
  | .takeHeard rx => Sys2Proof.Machine.execTakeHeard rx s
  | .takeEcho => Sys2Proof.Machine.execTakeEcho s
  | .deadWinnerExclusion c => Sys2Proof.Machine.execDeadWinnerExclusion c s
  | .exclusionExpiry c => Sys2Proof.Machine.execExclusionExpiry c s
  | .pendingForceLatchRun => Sys2Proof.Machine.execPendingForceLatchRun s
  | .ineligibleExpiry c => Sys2Proof.Machine.execIneligibleExpiry c s
  | .joinCueIssue n => Sys2Proof.Machine.execJoinCueIssue n s
  | .joinCueFire n => Sys2Proof.Machine.execJoinCueFire n s
  | .linePulseEnd n => Sys2Proof.Machine.execLinePulseEnd n s
  | .lockPoint n => Sys2Proof.Machine.execLockPoint n s
  | .cueFire n => Sys2Proof.Machine.execCueFire n s
  | .armNextCue n => Sys2Proof.Machine.execArmNextCue n s
  | .restartPlay n => Sys2Proof.Machine.execRestartPlay n s
  | .serverFaultAction n => Sys2Proof.Machine.execServerFaultAction n s
  | .scheduleRunOut n => Sys2Proof.Machine.execScheduleRunOut n s
  | .confirmWindowExpiry n => Sys2Proof.Machine.execConfirmWindowExpiry n s
  | .fallbackTimeout n => Sys2Proof.Machine.execFallbackTimeout n s
  | .secondaryOccurrence n => Sys2Proof.Machine.execSecondaryOccurrence n s
  | .tallyRise n => Sys2Proof.Machine.execTallyRise n s
  | .tallyFall n => Sys2Proof.Machine.execTallyFall n s
  | .slotRelease n => Sys2Proof.Machine.execSlotRelease n s
  | .releaseOutboxOffer => Sys2Proof.Machine.execReleaseOutboxOffer s
  | .releaseEcho => Sys2Proof.Machine.execReleaseEcho s
  | .releaseHeard rx => Sys2Proof.Machine.execReleaseHeard rx s
  | .handbackCommitCheck n => Sys2Proof.Machine.execHandbackCommitCheck n s
  | .handbackBoundary n => Sys2Proof.Machine.execHandbackBoundary n s
  | .handoverCancelOffer => Sys2Proof.Machine.execHandoverCancelOffer s
  | .handoverEcho => Sys2Proof.Machine.execHandoverEcho s
  | .handoverHeard rx => Sys2Proof.Machine.execHandoverHeard rx s
  | .lineIdle => Sys2Proof.Machine.execLineIdle s
  | .ladderWaitExpiry => Sys2Proof.Machine.execLadderWaitExpiry s
  | .messageEcho => Sys2Proof.Machine.execMessageEcho s
  | .echoFailed => Sys2Proof.Machine.execEchoFailed s
  | .messageDiscarded rx => Sys2Proof.Machine.execMessageDiscarded rx s
  | .queryStation rx => Sys2Proof.Machine.execQueryStation rx s
  | .queryChannel rx => Sys2Proof.Machine.execQueryChannel rx s
  | .queryList rx => Sys2Proof.Machine.execQueryList rx s
  | .queryAsrun rx => Sys2Proof.Machine.execQueryAsrun rx s
  | .forceTake rx => Sys2Proof.Machine.execForceTake rx s
  | .forceRelease rx => Sys2Proof.Machine.execForceRelease rx s
  | .inhibit rx => Sys2Proof.Machine.execInhibit rx s
  | .nextCmd rx => Sys2Proof.Machine.execNextCmd rx s
  | .handback rx => Sys2Proof.Machine.execHandback rx s
  | .editRequest rx => Sys2Proof.Machine.execEditRequest rx s
  | .restart rx => Sys2Proof.Machine.execRestart rx s
  | .badCommand rx => Sys2Proof.Machine.execBadCommand rx s
  | .releasePhaseEnd => Sys2Proof.Machine.execReleasePhaseEnd s
  | .releasePhaseTimeout => Sys2Proof.Machine.execReleasePhaseTimeout s
  | .listeningCountExpiry => Sys2Proof.Machine.execListeningCountExpiry s
  | .lineGoesBusy => Sys2Proof.Machine.execLineGoesBusy s
  | .resetReleased => Sys2Proof.Machine.execResetReleased s

end Sys2Proof.Machine
end

