-- ==== Sys2Proof/Safety.lean ====
section
/-! DEFINITION. What counts as a safe run, in the terms the statements use: where a command finds the state, and the
invariants that every step keeps. -/

namespace Sys2Proof.Machine

namespace State

/-- Where an arrival, an echo, a pin or a reference event finds the state: the outputs of the last command gone, and
the work of an open frame event finished (log 1). -/
def found (s : State) : State := s.clearOut.settle

/-- Where a step of the open frame event finds the state: the outputs of the last command gone, and the mark judged
(R11; log 1). -/
def atStep (s : State) : State := s.clearOut.judgeMark

/-- Where a step of slot `n` after its third finds the state: the slot that holds the channel's leader, if one does, has
come to the end of its own step 3 (R146, R156; log 1). -/
def atLater (s : State) (n : SlotId) : State := s.atStep.leaderFirst n

/-- The house position lies in its ranges (R4). -/
def posInRange (s : State) : Prop := s.time.pos.day < 65536 ∧ s.time.pos.frame < s.rate.fpd

/-- The time base is sound: the position and a held mark lie in their ranges (R4, R10); while the pin is held the
station is in a cold START, in no release phase (R198); and before a cold START has read its configuration the count stands at its reset
value (R14, R199). -/
structure ClockSound (s : State) : Prop where
  position : s.posInRange
  mark : ∀ m, s.time.pendingMark = some m → m.day < 65536 ∧ m.frame < s.rate.fpd
  held : s.loader.resetHeld = true → s.loader.cold = true ∧ s.loader.station = .start ∧ s.loader.releasePhase = none
  cold : s.loader.cold = true → s.loader.station = .start →
    s.time.running = false ∧ s.time.pos = ⟨0, 0⟩ ∧ s.time.pendingMark = none

/-- Each sequence number is one above the one before, on the ring of 2^32 (R176). -/
def risingByOne : List AsRun → Prop
  | a :: b :: rest => b.seq = (a.seq + 1) % 4294967296 ∧ risingByOne (b :: rest)
  | _ => True

/-- The form of the as-run log (R176): at most 512 entries, their sequence numbers below 2^32 and rising by one from each
to the next, the last one below the next sequence number. -/
structure LogSound (s : State) : Prop where
  short : s.log.length ≤ 512
  next : s.logNext < 4294967296
  fits : ∀ e ∈ s.log, e.seq < 4294967296
  rising : risingByOne s.log
  last : ∀ e, s.log.getLast? = some e → s.logNext = (e.seq + 1) % 4294967296

/-- The pool indices of a channel's records: its list, then its shadow list (R17, R20). -/
def ChannelRec.indices (ch : ChannelRec) : List Nat :=
  ch.list.map Rec.idx ++ ch.shadow.elim [] fun sh => (shadowRecs sh).map Rec.idx

/-- Every record of the pool is in exactly one place: the free list, a channel list or a shadow list (R20). -/
def PoolWhole (s : State) : Prop :=
  (s.free ++ s.chans.toList.flatMap ChannelRec.indices).Perm (List.range 2048)

/-- The depths of the queues: the three classes (R182), the parked edits (R40) and the image service (R58); and what
waits for class 0 is RELEASEs in the outbox (R166) and HANDOVERs among the cancels (R174). -/
structure QueuesShort (s : State) : Prop where
  class0 : s.line.q0.length ≤ 12
  class1 : s.line.q1.length ≤ 8
  class2 : s.line.q2.length ≤ 16
  parked : s.repl.parked.length ≤ 16
  service : s.repl.service.length ≤ 4
  outbox : ∀ m ∈ s.line.outbox, m.kind = .release
  cancels : ∀ m ∈ s.line.cancels, m.kind = .handover

end State

end Sys2Proof.Machine
end

