-- ==== Sys2Proof/Certificates/Slice0/Obligations.lean ====
section
/-! DEFINITION. The statements for the provers. In them `s.found` is where an arrival, an echo or a pin finds the state,
and `s.atStep` where a step of the open frame event finds it (Sys2Proof/Safety.lean, log 1). -/

open Sys2Proof Sys2Proof.Machine

/-! ### The machine's shape -/

/-- For every command, every rest of the queue and every state, one step with the command at the front of the queue is
the command's effect on the state with that rest for its queue. On an empty queue a step finishes the work of an open
frame event, and with none open the block idles and nothing changes: that tick is the model's own (log 1). -/
def Obligations.StepTakesTheQueueInOrder : Prop :=
  (∀ (c : Instr) (rest : List Instr) (s : State),
    step { s with pending := c :: rest } = exec c { s with pending := rest }) ∧
  (∀ s : State, s.pending = [] →
    (s.time.frameOpen = false → step s = .next s) ∧ (s.time.frameOpen = true → step s = .next s.found))

/-- Every command answers a next state in every state, and leaves the queue of waiting commands as it was: no command
faults, none is refused, and none removes or adds a command. -/
def Obligations.EveryCommandCompletes : Prop :=
  ∀ (c : Instr) (s : State), ∃ t, exec c s = .next t ∧ t.pending = s.pending

/-- A reception that the receive checks of R185 discard, or that no active station takes (R179), reaches no block: for
every command that is an arrival the state after it is the found state, with the review of R120 that ends every event.
The receive checks, steps 1 to 6 of R185: a reception is delivered only by an active station, only when it was not being
received as the station entered START and did not begin in START or INERT (R179; log 7), only with a start delimiter, at
most 240 bytes of payload, exactly the bytes its length calls for and a good check code, for destination 0 or the
station, from another address 1 to 30 whose role may send the kind, and with a payload whose length fits it. Conversely
a reception that passes all of them is delivered as its kind's table reads it; where only the length does not fit, a
COMMAND directed to this station is one of bad length, with the tag its first two payload bytes give, or 0 with fewer,
and all else is discarded; and nothing else is of bad length. Where a command finds the state, and the review after it,
are the model's order (log 1). -/
def Obligations.DeliveryPassesTheReceiveChecks : Prop :=
  (∀ f ∈ [Instr.timemarkReceived, .airbeatReceived, .relaystateReceived, .editReceived, .imageSegmentReceived,
        .imagereqReceived, .verdictReceived, .beaconReceived, .claimHeard, .takeHeard, .releaseHeard, .handoverHeard,
        .messageDiscarded, .queryStation, .queryChannel, .queryList, .queryAsrun, .forceTake, .forceRelease, .inhibit,
        .nextCmd, .handback, .editRequest, .restart, .badCommand],
      ∀ (rx : Reception) (s : State), s.found.receive rx = .discard → exec (f rx) s = .next s.found.review) ∧
  (∀ (s : State) (rx : Reception) (src dst : Addr) (m : Msg), s.receive rx = .deliver src dst m →
      s.active = true ∧ s.line.spoilt = false ∧ rx.delimiter = true ∧
      ∃ d r k n rest kind, rx.bytes = d :: r :: k :: n :: rest ∧ dst = d.toNat ∧ src = r.toNat ∧
        n.toNat ≤ 240 ∧ rest.length = n.toNat + 2 ∧
        (crc (rx.bytes.take (4 + n.toNat))).toNat = beNat (rest.drop n.toNat) ∧
        (dst = 0 ∨ dst = s.me) ∧ 1 ≤ src ∧ src ≤ 30 ∧ src ≠ s.me ∧
        Kind.ofCode k.toNat = some kind ∧ roleSends src kind = true ∧
        lengthFits kind (rest.take n.toNat) = true ∧ readMsg kind (rest.take n.toNat) = some m) ∧
  (∀ (s : State) (rx : Reception) (d r k n : Byte) (rest : List Byte) (kind : Kind),
      s.active = true → s.line.spoilt = false → rx.delimiter = true → rx.bytes = d :: r :: k :: n :: rest →
      n.toNat ≤ 240 → rest.length = n.toNat + 2 →
      (crc (rx.bytes.take (4 + n.toNat))).toNat = beNat (rest.drop n.toNat) → (d.toNat = 0 ∨ d.toNat = s.me) →
      1 ≤ r.toNat → r.toNat ≤ 30 → r.toNat ≠ s.me → Kind.ofCode k.toNat = some kind → roleSends r.toNat kind = true →
      let body := rest.take n.toNat
      (∀ m, lengthFits kind body = true → readMsg kind body = some m → s.receive rx = .deliver r.toNat d.toNat m) ∧
      (lengthFits kind body = false → kind = .command → d.toNat ≠ 0 →
        s.receive rx = .badLength r.toNat (if 2 ≤ body.length then beNat (body.take 2) else 0)) ∧
      (lengthFits kind body = false → (kind ≠ .command ∨ d.toNat = 0) → s.receive rx = .discard)) ∧
  (∀ (s : State) (rx : Reception) (src : Addr) (tag : Nat), s.receive rx = .badLength src tag →
      s.active = true ∧ s.line.spoilt = false ∧ rx.delimiter = true ∧
      ∃ d r k n rest, rx.bytes = d :: r :: k :: n :: rest ∧ d.toNat = s.me ∧ d.toNat ≠ 0 ∧ src = r.toNat ∧
        21 ≤ src ∧ src ≤ 30 ∧ Kind.ofCode k.toNat = some .command ∧ lengthFits .command (rest.take n.toNat) = false)

/-! ### House time -/

/-- FRAME_PULSE, FLYWHEEL_ENTRY and SUBSTITUTE_FRAME_EVENT (R1, R2, R3). In PULSED a pulse at least half a period after
the last frame event is a frame event, and a sooner one is a runt that only lets time pass. In FLYWHEEL the first pulse
returns the reference to PULSED: half a period or more after the last substitute it is itself a frame event, sooner it
only marks the phase that loss is measured from. One and a half periods after the mark that loss is measured from, the
reference becomes FLYWHEEL with a substitute frame event; in FLYWHEEL each further period makes another; sooner, or in
the other reference state, these two commands only let time pass. A time base that does not run takes none of the three.
The operands are the oscillator time passed, and `referenceChanged` is the judgement of READY and DEGRADED (R202; log
2). Where a command finds the state, and the review after it, are the model's order (log 1). -/
def Obligations.PulsesAndLossMakeFrameEvents : Prop :=
  (∀ (dt : Nat) (s : State), let t := s.found
    let e := t.time.sinceFrame + dt
    let p : State := { t with time := { t.time with refState := .pulsed } }
    (t.time.running = false → exec (.framePulse dt) s = .next t) ∧
    (t.time.running = true → t.time.refState = .pulsed → t.rate.half ≤ e →
      exec (.framePulse dt) s = .next t.openFrame) ∧
    (t.time.running = true → t.time.refState = .pulsed → e < t.rate.half →
      exec (.framePulse dt) s =
        .next { t with time := { t.time with sinceFrame := e, sinceMark := t.time.sinceMark + dt } }) ∧
    (t.time.running = true → t.time.refState = .flywheel → t.rate.half ≤ e →
      exec (.framePulse dt) s = .next p.openFrame.referenceChanged) ∧
    (t.time.running = true → t.time.refState = .flywheel → e < t.rate.half →
      exec (.framePulse dt) s =
        .next ({ p with time := { p.time with sinceFrame := e, sinceMark := 0 } } : State).referenceChanged)) ∧
  (∀ (dt : Nat) (s : State), let t := s.found
    let idle : State :=
      { t with time := { t.time with sinceFrame := t.time.sinceFrame + dt, sinceMark := t.time.sinceMark + dt } }
    (t.time.running = false →
      exec (.flywheelEntry dt) s = .next t ∧ exec (.substituteFrameEvent dt) s = .next t) ∧
    (t.time.running = true → t.time.refState = .pulsed → t.rate.loss ≤ t.time.sinceMark + dt →
      exec (.flywheelEntry dt) s =
        .next ({ t with time := { t.time with refState := .flywheel } } : State).openFrame.referenceChanged) ∧
    (t.time.running = true → (t.time.refState = .flywheel ∨ t.time.sinceMark + dt < t.rate.loss) →
      exec (.flywheelEntry dt) s = .next idle) ∧
    (t.time.running = true → t.time.refState = .flywheel → t.rate.period ≤ t.time.sinceFrame + dt →
      exec (.substituteFrameEvent dt) s = .next t.openFrame) ∧
    (t.time.running = true → (t.time.refState = .pulsed ∨ t.time.sinceFrame + dt < t.rate.period) →
      exec (.substituteFrameEvent dt) s = .next idle))

/-- What a frame event does as it opens (R1, R4): the position advances by one and every block's timers count once, each
saturating where its rule says: beat timers and evidence durations (R66, R71), silence counts and repeat timers of
mapped probes (R87, R99), silence counts of stations ever heard (R102), claim windows of CLAIMING contests up to Tw
(R115), the ages of parked edits, but for those of a channel that is LOADING (R40, R42), the timer of an image request
from the echo on, in LOADING and in WAITING (R53), the age of a load (R57), the beacon timer of an active station
(R103), the listening count in LISTENING (R202), the release phase's count (R203), and the count of an open confirm
window, of which whether it ends the window is free (R13's last words; log 28). Nothing else changes by the opening
itself, but that the slots' marks of their work start afresh (log 1). The counts of absent stations and of parked edits
under a load are the model's reading (log 18). -/
def Obligations.FrameEventCountsEveryTimer : Prop :=
  ∀ s : State, let t := s.openFrame
    t.time = { s.time with pos := s.now.succ s.rate, sinceFrame := 0, sinceMark := 0, frameOpen := true } ∧
    (∀ c, t.watchRec c = (s.watchRec c).map fun w => { w with
      beatTimer := min 65535 (w.beatTimer + 1)
      beatLost := { w.beatLost with duration := min 3000 (w.beatLost.duration + 1) }
      mainFault := { w.mainFault with duration := min 3000 (w.mainFault.duration + 1) }
      pictureBad := { w.pictureBad with duration := min 3000 (w.pictureBad.duration + 1) }
      pictureUnknown := { w.pictureUnknown with duration := min 3000 (w.pictureUnknown.duration + 1) }
      linkDown := { w.linkDown with duration := min 3000 (w.linkDown.duration + 1) } }) ∧
    (∀ p, t.probe p = if (s.probe p).chan.isSome then
        { s.probe p with silence := min 12 ((s.probe p).silence + 1), repeatTimer := min 50 ((s.probe p).repeatTimer + 1) }
      else s.probe p) ∧
    (∀ a, t.peer a = if (s.peer a).heard then { s.peer a with count := min 65535 ((s.peer a).count + 1) }
      else s.peer a) ∧
    (∀ c, t.view c = if (s.view c).contest = .claiming then
        { s.view c with window := (s.view c).window.map fun w => min s.cfg.tw (w + 1) }
      else s.view c) ∧
    (∀ c, t.chan c = { s.chan c with
      request := (s.chan c).request.map fun q =>
        if q.stage = .asking ∧ q.ask ≠ .echoed then q else { q with timer := min 250 (q.timer + 1) }
      shadow := (s.chan c).shadow.map fun sh => { sh with age := min 100 (sh.age + 1) } }) ∧
    t.repl = { s.repl with parked := s.repl.parked.map fun e =>
      if (s.chan e.chan).replica = .loading then e else { e with age := min 50 (e.age + 1) } } ∧
    (∀ n, t.slot n = { s.slot n with
      fired := false, stepsDone := 0, faultDue := (s.slot n).faultPending
      sincePlay := if (s.slot n).expectedBy = none then (s.slot n).sincePlay else min 10 ((s.slot n).sincePlay + 1) }) ∧
    t.loader = { s.loader with
      listening := if s.loader.station = .listening then min 36 (s.loader.listening + 1) else s.loader.listening
      releasePhase := s.loader.releasePhase.map fun k => min 12 (k + 1) } ∧
    t.line = { s.line with beaconTimer := if s.active then min 12 (s.line.beaconTimer + 1) else s.line.beaconTimer } ∧
    t.free = s.free ∧ t.log = s.log ∧ t.logNext = s.logNext ∧ t.claims = s.claims ∧ t.out = s.out ∧
    t.pending = s.pending ∧ t.freeCount = s.freeCount

/-- Positions in their ranges advance and are compared on the ring (R4, R5). A frame event's advance keeps the ranges
and is one frame on the ring of 65,536 days. The absolute frame lies on the ring; the difference from y to x lies from
-32,768 FPD to 32,768 FPD - 1 and is the difference of the absolute frames on the ring; at or past, after and before are
its signs; and adding or subtracting frames moves the absolute frame on the ring. -/
def Obligations.PositionsAreComparedOnTheRing : Prop :=
  (∀ (r : Rate) (p : Pos), p.valid r = true →
    (p.succ r).valid r = true ∧ (p.succ r).abs r = (p.abs r + 1) % r.ring ∧ Pos.diff r p (p.succ r) = 1) ∧
  (∀ (r : Rate) (x y : Pos) (n : Nat), x.valid r = true → y.valid r = true →
    x.abs r = x.day * r.fpd + x.frame ∧ x.abs r < 65536 * r.fpd ∧
    -(32768 * r.fpd : Int) ≤ Pos.diff r y x ∧ Pos.diff r y x < 32768 * r.fpd ∧
    (Pos.diff r y x - ((x.abs r : Int) - y.abs r)) % (65536 * r.fpd : Int) = 0 ∧
    (Pos.atOrPast r x y = true ↔ 0 ≤ Pos.diff r y x) ∧ (Pos.after r x y = true ↔ 0 < Pos.diff r y x) ∧
    (Pos.before r x y = true ↔ Pos.diff r y x < 0) ∧
    (x.add r n).valid r = true ∧ (x.add r n).abs r = (x.abs r + n) % (65536 * r.fpd) ∧
    (x.sub r n).valid r = true ∧ ((x.sub r n).abs r : Int) = ((x.abs r : Int) - n) % (65536 * r.fpd : Int) ∧
    Pos.earlier r x y = (if Pos.diff r x y < 0 then y else x) ∧ Pos.later r x y = (if 0 < Pos.diff r x y then y else x))

/-- Labels and frames of day (R7, R8, R9). At RATE25 a frame's label is given by the divisions of R9; at RATE30DF by its
steps. For every frame of day the label made from it is one that the conversion accepts, with no clamp, and it converts
back to that frame. A RATE30DF label that the clamp reads converts back to the label with FF 2. A label is accepted
exactly when its fields lie in their ranges, and its frame of day then lies in the day. -/
def Obligations.LabelsConvertBack : Prop :=
  ((∀ f, Label.ofFrame .rate25 f = ⟨f / 90000, f % 90000 / 1500, f % 1500 / 25, f % 25⟩) ∧
  (∀ f, f % 107892 % 17982 < 1800 →
    Label.ofFrame .rate30df f = ⟨f / 107892, 10 * (f % 107892 / 17982), f % 107892 % 17982 / 30, f % 107892 % 17982 % 30⟩) ∧
  (∀ f, 1800 ≤ f % 107892 % 17982 →
    Label.ofFrame .rate30df f =
      ⟨f / 107892, 10 * (f % 107892 / 17982) + 1 + (f % 107892 % 17982 - 1800) / 1798,
        ((f % 107892 % 17982 - 1800) % 1798 + 2) / 30, ((f % 107892 % 17982 - 1800) % 1798 + 2) % 30⟩) ∧
  (∀ (r : Rate) (f : Nat), f < r.fpd →
    (Label.ofFrame r f).toFrame r = some f ∧ (r = .rate30df → (Label.ofFrame r f).dropFF = (Label.ofFrame r f).ff)) ∧
  (∀ (l : Label) (f : Nat), l.dropFF ≠ l.ff → l.toFrame .rate30df = some f →
    Label.ofFrame .rate30df f = { l with ff := 2 })) ∧
  (∀ (r : Rate) (l : Label),
    ((l.toFrame r).isSome = true ↔
      l.hh ≤ 23 ∧ l.mm ≤ 59 ∧ l.ss ≤ 59 ∧ l.ff ≤ (match r with | .rate25 => 24 | .rate30df => 29)) ∧
    ∀ f, l.toFrame r = some f → f < r.fpd)

/-- TIMEMARK_RECEIVED (R10): a mark of the site rate with a frame of day below FPD becomes the pending mark, in place of
any held before; a mark of another rate, or beyond the day, is discarded. Its source is heard either way.
TIME_MARK_JUDGEMENT (R11, R12): at the open frame event a pending mark at difference d from the position the frame event
carries is adopted when the time is UNSET, or when d is -1, 0 or +1, or when no slot is active; then the frame event
carries the mark, the time is SET and, unless it was UNSET or d is 0, the log gains one TIME STEP entry with d as its
lateness. Otherwise the time is DISPUTED, the position kept and nothing logged. Either way the mark is spent. With no
mark pending, or no frame event open, nothing changes but the outputs of the last command and what the review of R120
gives. Where a command finds the state, and the review after it, are the model's order (log 1). -/
def Obligations.MarksAreJudgedAgainstTheCount : Prop :=
  (∀ (rx : Reception) (s : State) (src dst : Addr) (rate : Nat) (m : Pos), let t := s.found
      t.receive rx = .deliver src dst (.timemark rate m) →
      (Rate.ofCode rate = some (t.hear src).rate → m.frame < (t.hear src).rate.fpd →
        exec (.timemarkReceived rx) s =
          .next ({ t.hear src with time := { (t.hear src).time with pendingMark := some m } } : State).review) ∧
      ((Rate.ofCode rate ≠ some (t.hear src).rate ∨ (t.hear src).rate.fpd ≤ m.frame) →
        exec (.timemarkReceived rx) s = .next (t.hear src).review)) ∧
  ((∀ (s : State) (m : Pos), s.time.frameOpen = true → s.time.pendingMark = some m →
      let d := Pos.diff s.rate s.now m
      let adopted := s.time.timeState = .unset ∨ (-1 ≤ d ∧ d ≤ 1) ∨ ∀ n, (s.slot n).state = .free
      ∃ t, exec .timeMarkJudgement s = .next t ∧ t.time.pendingMark = none ∧ t.rate = s.rate ∧
        (adopted → t.now = m ∧ t.time.timeState = .set) ∧
        (¬adopted → t.now = s.now ∧ t.time.timeState = .disputed ∧ t.log = s.log) ∧
        (adopted → (s.time.timeState = .unset ∨ d = 0) → t.log = s.log) ∧
        (adopted → s.time.timeState ≠ .unset → d ≠ 0 →
          t.log = (if s.log.length < 512 then s.log else s.log.drop 1) ++
            [{ seq := s.logNext, pos := m, kind := .timeStep, slot := none, chan := none, event := none,
               lateness := some d, tally := none, reason := none }])) ∧
    (∀ s : State, (s.time.frameOpen = true → s.time.pendingMark = none →
        exec .timeMarkJudgement s = .next s.clearOut.review) ∧
      (s.time.frameOpen = false → exec .timeMarkJudgement s = .next s.clearOut)))

/-! ### Resets, configuration and station states -/

/-- FULL_RESET and RESET_RELEASED (R198, R199). At a full reset every block takes its full-reset values, the pin held;
what is not the part's to reset is kept: the commands waiting outside, the levels on the tally pins, whether the line is
idle or carries another station's message, which is then discarded (R179), and the model's count of free values (log 6,
log 7, log 9). The work of a frame event still open then is dropped with no word, the model's choice (log 1). The
station state START under a held pin and the default configuration are the model's choice (log 3, log 4). The release of
a held pin enters a cold START with both configuration flags clear, a message then being received to be discarded
(R179), and with no pin held it means nothing. Where a command finds the state, and the review after it, are the model's
order (log 1). -/
def Obligations.ResetsEnterStart : Prop :=
  (∀ s : State, exec .fullReset s = .next
    { State.reset with pending := s.pending, freeCount := s.freeCount, slots := s.slots.map (fun x => Slot.reset x.tally),
                       line := { Line.reset with
                         idle := s.line.idle, receiving := s.line.receiving, spoilt := s.line.receiving } }) ∧
  (∀ s : State, let t := s.found
    (t.loader.resetHeld = true → exec .resetReleased s =
      .next ({ t with loader := { t.loader with resetHeld := false, station := .start, cold := true, clamped := false,
                                                defaulted := false }
                      line := { t.line with spoilt := t.line.receiving } } : State).review) ∧
    (t.loader.resetHeld = false → exec .resetReleased s = .next t.review))

/-- The values of a full reset (R14, R20, R36, R63, R101, R126, R163, R176, R190): the count at day 0, frame 0, UNSET
and in FLYWHEEL; every channel EMPTY at epoch 0 and sequence 0 under MAIN with no anchor and no list; every probe
UNKNOWN; no peer heard; every view IDLE with no holder; every slot FREE; the pool's 2,048 records free in order; the log
empty at next sequence 0; every queue empty. The station state START with the pin held, and the default profile and
configuration, are the model's choice where no rule gives them (log 3, log 4). -/
def Obligations.ResetLeavesTheStatedValues : Prop :=
  let s := State.reset
  s.time.pos = ⟨0, 0⟩ ∧ s.time.timeState = .unset ∧ s.time.refState = .flywheel ∧ s.time.pendingMark = none ∧
  s.loader.station = .start ∧ s.loader.cold = true ∧ s.loader.clamped = false ∧ s.loader.defaulted = false ∧
  s.free = List.range 2048 ∧ s.log = [] ∧ s.logNext = 0 ∧
  (∀ c, s.chan c = ⟨false, .empty, none, 0, 0, .main, false, none, [], none, Profile.default, none⟩) ∧
  (∀ c, s.watchRec c = none) ∧
  (∀ p, (s.probe p).verdict = .unknown ∧ (s.probe p).reference = none ∧ (s.probe p).chan = none) ∧
  (∀ a, (s.peer a).heard = false ∧ (s.peer a).present = false ∧ (s.peer a).link = .down) ∧
  (∀ c, (s.view c).holder = none ∧ (s.view c).contest = .idle ∧ (s.view c).exclusions = []) ∧
  (∀ n, (s.slot n).state = .free ∧ (s.slot n).chan = none ∧ (s.slot n).pending = []) ∧
  s.claims.current = none ∧ s.claims.latch = none ∧
  s.line.q0 = [] ∧ s.line.q1 = [] ∧ s.line.q2 = [] ∧ s.line.outbox = [] ∧ s.repl.parked = [] ∧ s.repl.service = []

/-- The state after a full reset is sound in every way that a step keeps (R14, R20, R40, R58, R176, R182, R198): its
clock, its log, its pool of records and its queues. That a held pin means a cold START, which the soundness of the clock
says, is the model's choice (log 3). -/
def Obligations.ResetIsSound : Prop :=
  State.reset.ClockSound ∧ State.reset.LogSound ∧ State.reset.PoolWhole ∧ State.reset.QueuesShort

/-- CONFIG_READ_COMPLETE (R199): after a full reset, straps of 1 to 16 give the station its address and it enters
LISTENING with the values the loader made of the block; straps of 0 or above 16 leave it INERT with no address, the site
rate alone taken and the time base running. At a soft restart the address stands and the rate is kept. In any other
state the read means nothing. Entering LISTENING hands the values over (R17, R64, R84, R85): a channel that is not in
the watch set has no list, its records free, no anchor and no request and is EMPTY; a watched one has a watch record
opened at now, and no other has; each probe stands at its reset values, mapped to its channel when that is watched; a
BEACON is offered (R103); and each watched channel that is EMPTY or STALE has its image request (R49, R51). The two
counts of oscillator time start at 0, the model's choice (log 2). Where a command finds the state, and the review after
it, are the model's order (log 1). -/
def Obligations.ConfigurationReadEndsStart : Prop :=
  ∀ (straps : BitVec 5) (block : Option (List Byte)) (s : State), let t := s.found
    let r := loadSettings t.loader.cold t.rate block
    let ok := t.loader.station = .start ∧ t.loader.resetHeld = false
    (¬ok → exec (.configReadComplete straps block) s = .next t.review) ∧
    (ok → t.loader.cold = true → (straps = 0 ∨ 16 < straps.toNat) → exec (.configReadComplete straps block) s =
      .next ({ t with
        loader := { t.loader with address := none, clamped := r.2.1, defaulted := r.2.2, station := .inert,
                                  cfg := { t.loader.cfg with rate := r.1.rate } }
        time := { t.time with running := true, sinceFrame := 0, sinceMark := 0 } } : State).review) ∧
    (ok → t.loader.cold = true → 1 ≤ straps.toNat → straps.toNat ≤ 16 →
      ∃ u, exec (.configReadComplete straps block) s = .next u ∧
        u.loader = { t.loader with address := some straps.toNat, clamped := r.2.1, defaulted := r.2.2,
                                   station := .listening, listening := 0, cfg := r.1 } ∧
        u.time = { t.time with running := true, sinceFrame := 0, sinceMark := 0 } ∧
        (∀ c, (u.chan c).watched = r.1.watch.getLsbD c.val)) ∧
    (ok → t.loader.cold = false → ∀ a, t.loader.address = some a →
      ∃ u, exec (.configReadComplete straps block) s = .next u ∧
        u.loader = { t.loader with clamped := r.2.1, defaulted := r.2.2, station := .listening, listening := 0,
                                   cfg := r.1 } ∧
        u.time = t.time ∧ u.rate = t.rate ∧ (∀ c, (u.chan c).watched = r.1.watch.getLsbD c.val)) ∧
    (ok → (if t.loader.cold = true then 1 ≤ straps.toNat ∧ straps.toNat ≤ 16 else t.loader.address ≠ none) →
      let v := t.configured straps block
      exec (.configReadComplete straps block) s = .next v.review ∧
      (∀ c, r.1.watch.getLsbD c.val = false → (v.chan c).watched = false ∧ (v.chan c).replica = .empty ∧
        (v.chan c).list = [] ∧ (v.chan c).anchor = none ∧ (v.chan c).request = none ∧
        ∀ e ∈ (t.chan c).list, e.idx ∈ v.free) ∧
      (∀ c, r.1.watch.getLsbD c.val = true → (v.chan c).list = (t.chan c).list ∧
        (v.chan c).replica = (t.chan c).replica ∧
        ((v.chan c).replica = .empty ∨ (v.chan c).replica = .stale → (v.chan c).request ≠ none)) ∧
      (∀ c, v.watchRec c = if r.1.watch.getLsbD c.val then some (WatchRec.opened t.now) else none) ∧
      (∀ p, v.probe p = { Probe.reset with chan := match r.1.probeMap.get p with
        | some c => if r.1.watch.getLsbD c.val then some c else none
        | none => none }) ∧
      v.line.beaconTimer = 0 ∧ (v.line.beaconHeld = true ∨ ∃ e ∈ v.line.q1, e.msg = .beacon))

/-- What the loader makes of the memory's answer (R200, R201), whatever it is: each hold, lead, window and margin lies
in its range, the lock lead lies below the arm lead, the running rate is kept at a soft restart; and an answer whose
check fails, or none, gives every default, with CONFIG DEFAULTED set and CONFIG CLAMPED clear. A block of 30 bytes whose
check is good is read field by field; a value in its range is the one taken, one outside it is taken at the nearer bound
with CONFIG CLAMPED set, a lock lead that is not below the arm lead becomes the arm lead less 2 with the flag set, and a
probe entry that names no channel is unused, with the flag set when it lies above 32. With every field in its range the
flag is clear. What the flag does for a rate that a soft restart does not take, and a block of another length, are the
model's reading (log 14). -/
def Obligations.ConfigurationValuesLieInTheirRanges : Prop :=
  (∀ (cold : Bool) (running : Rate) (block : Option (List Byte)),
    let r := loadSettings cold running block
    let v := r.1
    (10 ≤ v.tb ∧ v.tb ≤ 250) ∧ (25 ≤ v.tu ∧ v.tu ≤ 1500) ∧ (25 ≤ v.tp ∧ v.tp ≤ 1500) ∧ (50 ≤ v.tr ∧ v.tr ≤ 3000) ∧
    (25 ≤ v.ta ∧ v.ta ≤ 1500) ∧ (4 ≤ v.tw ∧ v.tw ≤ 25) ∧ (4 ≤ v.lead ∧ v.lead ≤ 100) ∧ v.tailMargin ≤ 250 ∧
    v.grace ≤ 25 ∧ (10 ≤ v.armLead ∧ v.armLead ≤ 250) ∧ (2 ≤ v.lockLead ∧ v.lockLead ≤ 25) ∧
    v.lockLead < v.armLead ∧ (2 ≤ v.confirm ∧ v.confirm ≤ 10) ∧ (100 ≤ v.handbackLead ∧ v.handbackLead ≤ 3000) ∧
    (cold = false → v.rate = running) ∧
    (block.bind readBlock = none →
      v = { Settings.default with rate := if cold then .rate25 else running } ∧ r.2.1 = false ∧ r.2.2 = true) ∧
    ((block.bind readBlock).isSome = true → r.2.2 = false)) ∧
  (∀ bs : List Byte,
    let part := fun o w => beNat ((bs.drop o).take w)
    let good := bs.length = 30 ∧ (crc (bs.take 28)).toNat = part 28 2
    (¬good → readBlock bs = none) ∧
    (good → readBlock bs = some ⟨part 0 1, part 1 4, [part 5 1, part 6 1, part 7 1, part 8 1],
      [part 9 2, part 11 2, part 13 2, part 15 2, part 17 2, part 19 1, part 20 1, part 21 1, part 22 1, part 23 1,
       part 24 1, part 25 1, part 26 2]⟩)) ∧
  (∀ (cold : Bool) (running : Rate) (bs : List Byte) (x : RawSettings), readBlock bs = some x →
    let r := loadSettings cold running (some bs)
    let v := r.1
    let ranges := [(10, 250), (25, 1500), (25, 1500), (50, 3000), (25, 1500), (4, 25), (4, 100), (0, 250), (0, 25),
      (10, 250), (2, 25), (2, 10), (100, 3000)]
    let taken := [v.tb, v.tu, v.tp, v.tr, v.ta, v.tw, v.lead, v.tailMargin, v.grace, v.armLead, v.lockLead, v.confirm,
      v.handbackLead]
    (∀ i lo hi n : Nat, ranges[i]? = some (lo, hi) → x.values[i]? = some n → i ≠ 10 →
      (lo ≤ n → n ≤ hi → taken[i]? = some n) ∧ (n < lo → taken[i]? = some lo ∧ r.2.1 = true) ∧
      (hi < n → taken[i]? = some hi ∧ r.2.1 = true)) ∧
    (∀ n, x.values[10]? = some n →
      (2 ≤ n → n ≤ 25 → n < v.armLead → v.lockLead = n) ∧ (n < 2 → v.lockLead = 2 ∧ r.2.1 = true) ∧
      (25 < n → 25 < v.armLead → v.lockLead = 25 ∧ r.2.1 = true) ∧
      (v.armLead ≤ min 25 n → v.lockLead = v.armLead - 2 ∧ r.2.1 = true)) ∧
    v.watch = BitVec.ofNat 32 x.watch ∧
    (∀ (p : ProbeId) n, x.probes[p.val]? = some n → v.probeMap.get p = chanOf n ∧ (32 < n → r.2.1 = true)) ∧
    (cold = true → (x.rate = 1 → v.rate = .rate25) ∧ (x.rate = 2 → v.rate = .rate30df) ∧
      (x.rate = 0 → v.rate = .rate25 ∧ r.2.1 = true) ∧ (2 < x.rate → v.rate = .rate30df ∧ r.2.1 = true)) ∧
    ((x.rate = 1 ∨ x.rate = 2) → (∀ n ∈ x.probes, n ≤ 32) →
      (∀ i lo hi n : Nat, ranges[i]? = some (lo, hi) → x.values[i]? = some n → lo ≤ n ∧ n ≤ hi) →
      (∀ a l, x.values[9]? = some a → x.values[10]? = some l → l < a) → r.2.1 = false))

/-- LISTENING_COUNT_EXPIRY and the station states (R202, R203). At the open frame event, outside a release phase, a
LISTENING station whose count is 36 becomes DEGRADED when its block was defaulted; else, with the time SET, READY, or at
once DEGRADED while the reference is FLYWHEEL; with the time UNSET or DISPUTED, or the count below 36, it stays. Outside
a release phase a judgement makes a READY station DEGRADED while the reference is FLYWHEEL or the time DISPUTED, and a
DEGRADED one READY while its block was not defaulted, the reference is PULSED and the time SET; in START, in INERT and
in a release phase the state does not change. The judgement changes nothing else of the loader and nothing of the time
base. The entry into READY from LISTENING makes the test of R81 for every channel: one under SITE with no holder, no
orphan and health NOMINAL goes back to MAIN at sequence 0 under its epoch, the replica STALE with cause HANDBACK and its
image request running; of the others only the request may change, as an IMAGEREQ is offered (R183; log 1). That an EMPTY
replica stays EMPTY there is the model's reading (log 16). Where a command finds the state, and the review after it, are
the model's order (log 1). -/
def Obligations.StationStatesFollowTheTable : Prop :=
  (∀ s : State, s.time.frameOpen = true → let t := s.atStep
    t.loader.station = .listening → t.loader.releasePhase = none →
    (36 ≤ t.loader.listening → t.loader.defaulted = true →
      exec .listeningCountExpiry s = .next ({ t with loader := { t.loader with station := .degraded } } : State).review) ∧
    (36 ≤ t.loader.listening → t.loader.defaulted = false → t.time.timeState = .set →
      ∃ u, exec .listeningCountExpiry s = .next u ∧ u = t.updateStation.review ∧ u.time = t.time ∧
        u.loader = { t.loader with station := if t.time.refState = .flywheel then .degraded else .ready }) ∧
    ((t.loader.listening < 36 ∨ (t.loader.defaulted = false ∧ t.time.timeState ≠ .set)) →
      exec .listeningCountExpiry s = .next t.review)) ∧
  (∀ s : State, let t := s.updateStation
    t.time = s.time ∧ t.loader = { s.loader with station := t.loader.station } ∧
    (s.loader.releasePhase.isSome = true → t = s) ∧
    (s.loader.releasePhase = none → s.loader.station = .ready → t.loader.station =
      if s.time.refState = .flywheel ∨ s.time.timeState = .disputed then .degraded else .ready) ∧
    (s.loader.releasePhase = none → s.loader.station = .degraded → t.loader.station =
      if s.loader.defaulted = false ∧ s.time.refState = .pulsed ∧ s.time.timeState = .set then .ready else .degraded) ∧
    (s.loader.station = .start ∨ s.loader.station = .inert → t = s)) ∧
  (∀ s : State, s.loader.releasePhase = none → s.loader.station = .listening → 36 ≤ s.loader.listening →
    s.loader.defaulted = false → s.time.timeState = .set → let t := s.updateStation
    ∀ c, let back := (s.chan c).authority = .site ∧ (s.view c).holder = none ∧
        ∃ w, s.watchRec c = some w ∧ w.orphan = false ∧ w.health = .nominal
      (¬back → t.chan c = { s.chan c with request := (t.chan c).request }) ∧
      (back → (t.chan c).authority = .main ∧ (t.chan c).epoch = (s.chan c).epoch ∧ (t.chan c).nextSeq = 0 ∧
        (t.chan c).list = (s.chan c).list ∧
        ((s.chan c).replica ≠ .empty → (t.chan c).replica = .stale ∧ (t.chan c).cause = some .handback) ∧
        ((s.chan c).replica = .empty → (t.chan c).replica = .empty) ∧
        ((s.chan c).watched = true → (t.chan c).request ≠ none)))

/-- RESTART, RELEASE_PHASE_END and RELEASE_PHASE_TIMEOUT (R197, R203). Outside a release phase RESTART is answered DONE
and the phase begins with no frame event counted, the station state unchanged; a CLAIMING contest that is current is
withdrawn with it. At an open frame event of the phase, its first at the earliest, the phase ends in START when no slot
holds a channel and no RELEASE of it is still to echo; at its twelfth it ends whatever is left, each slot that still
holds a channel first taking its release (R126). Otherwise, and with no phase, nothing happens. The soft-restart values
at the entry into START (R14, R35, R36, R63, R101, R126, R163, R176, R178, R190, R201): the time base, the log, the
address and the configuration stand; epochs, sequences, authority and profiles stand; every slot is FREE, its tally
pin's level aside; probes, peers, views, the claim engine and every queue take their reset values; anchors and image
requests are gone; and a replica is STALE with cause RESTART when it was LOADING, or CURRENT with an edit parked; a
watched list is trimmed to four past events and walked unanchored with the leader's starts of then, and another stands;
a message being received is discarded (R179). That the pin levels and the level of the line are kept, and that a
HANDOVER cancel still waiting goes with the queues, is the model's choice (log 6, log 7, log 36). Where a command finds
the state, and the review after it, are the model's order (log 1). -/
def Obligations.RestartRunsTheReleasePhase : Prop :=
  ((∀ (rx : Reception) (s : State) (src dst : Addr) (tag : Nat), let t := s.found
      t.receive rx = .deliver src dst (.command tag 11 []) → dst ≠ 0 → t.loader.releasePhase = none →
      let u := (t.hear src).answer src tag .done []
      let p : State := { u with loader := { u.loader with releasePhase := some 0 } }
      (p.claims.current = none → exec (.restart rx) s = .next p.review) ∧
      (∀ c, p.claims.current = some c → (p.view c).contest ≠ .claiming → exec (.restart rx) s = .next p.review) ∧
      (∀ c, p.claims.current = some c → (p.view c).contest = .claiming →
        exec (.restart rx) s = .next (p.endClaim c .idle none).review ∧
        (p.endClaim c .idle none).claims.current = none ∧ ((p.endClaim c .idle none).view c).contest = .idle)) ∧
    (∀ s : State, s.time.frameOpen = true → let t := s.atStep
      (t.loader.releasePhase = none →
        exec .releasePhaseEnd s = .next t.review ∧ exec .releasePhaseTimeout s = .next t.review) ∧
      (∀ k, t.loader.releasePhase = some k → 1 ≤ k → (∀ n, (t.slot n).state.holds = false) → t.phaseReleaseLeft = false →
        exec .releasePhaseEnd s = .next t.enterStart.review) ∧
      (∀ k, t.loader.releasePhase = some k → (k = 0 ∨ (∃ n, (t.slot n).state.holds = true) ∨ t.phaseReleaseLeft = true) →
        exec .releasePhaseEnd s = .next t.review) ∧
      (∀ k, t.loader.releasePhase = some k → 12 ≤ k → let u := forSlots (fun n u => u.slotReleaseStep n) t
        exec .releasePhaseTimeout s = .next u.enterStart.review ∧
        ((∀ n, (t.slot n).state.holds = false) → u = t)) ∧
      (∀ k, t.loader.releasePhase = some k → k < 12 → exec .releasePhaseTimeout s = .next t.review))) ∧
  (∀ s : State, let t := s.enterStart
      t.time = s.time ∧ t.log = s.log ∧ t.logNext = s.logNext ∧ t.repl.imageId = s.repl.imageId ∧
      t.loader = { s.loader with station := .start, cold := false, clamped := false, defaulted := false, listening := 0,
                                 releasePhase := none } ∧
      t.slots = s.slots.map (fun x => Slot.reset x.tally) ∧ t.probes = Vector.replicate 4 Probe.reset ∧
      t.peers = Vector.replicate 30 Peer.reset ∧ t.views = Vector.replicate 32 View.reset ∧
      t.claims = ClaimEngine.reset ∧ t.line = { Line.reset with
        idle := s.line.idle, receiving := s.line.receiving, spoilt := s.line.receiving } ∧
      t.repl.parked = [] ∧ t.repl.service = [] ∧ t.repl.serving = none ∧
      ∀ c, (t.chan c).anchor = none ∧ (t.chan c).request = none ∧ (t.chan c).epoch = (s.chan c).epoch ∧
        (t.chan c).nextSeq = (s.chan c).nextSeq ∧ (t.chan c).authority = (s.chan c).authority ∧
        (t.chan c).profile = (s.chan c).profile ∧ (t.chan c).watched = (s.chan c).watched ∧
        ((s.chan c).replica = .loading → (t.chan c).replica = .stale ∧ (t.chan c).cause = some .restart) ∧
        ((s.chan c).replica = .current → (∃ e ∈ s.repl.parked, e.chan = c) →
          (t.chan c).replica = .stale ∧ (t.chan c).cause = some .restart) ∧
        ((s.chan c).replica = .current → (∀ e ∈ s.repl.parked, e.chan ≠ c) → (t.chan c).replica = .current) ∧
        ((s.chan c).replica = .stale → (t.chan c).replica = .stale ∧ (t.chan c).cause = (s.chan c).cause) ∧
        ((s.chan c).replica = .empty → (t.chan c).replica = .empty) ∧
        ((s.chan c).watched = false → (t.chan c).list = (s.chan c).list) ∧
        ((s.chan c).watched = true → let key := fun e : Rec => (e.idx, e.stated, e.derived.past)
          (t.chan c).list.map key = (trimList (s.chan c).list).2.map key ∧
          (((s.chan c).list.filter fun e => e.derived.past).length ≤ 4 →
            (t.chan c).list = walkList s.rate s.now (t.leaderStart c) none (s.chan c).list)))

/-! ### Lists, walks and anchors -/

/-- The timing walk (R16, R26 to R31): records keep order, stated fields and past flags. With no anchor event in the
list it starts at the first event not past with T unresolved, what stands before kept (R28). With one it starts at the
anchor event, at the actual start; its end is the earlier of its natural end and the first later hard start, but at
least P + 1, and T becomes it; an event before it has its start and end, where unresolved or later, brought to the
actual start, and is eclipsed where that leaves them equal (R27); its other flags and gap stay, the model's choice (log
47). A FIXED event's hard start is its stated one; a LOCKED event's its leader start, unless there is none or it lies
before the nearest hard start behind it, which eclipses the event; a FOLLOW event has none (R26). Those after follow in
list order, each with the first later hard start, raised to its start, for ceiling (R29). A FOLLOW event starts at T;
one with a hard start there, but at T, late, when T is later; a gap is the frames from T to a later hard start, at most
14 days; a LOCKED event with no hard start is unresolved; one eclipsed by R26 takes no time, is neither late nor after a
gap, and leaves T (R30). The end is the earlier of natural end and ceiling, whichever are resolved; the event is
truncated when it is before the natural end, eclipsed when it is the start, and T becomes it (R31). A past event behind
one not past is kept (R23); that T passes it by while its hard start counts, and that an event eclipsed by R26 is not
truncated, are the model's choice (log 26). A walk of a watched channel puts this list, by the leader starts of R19 and
R26, into it, marked past and trimmed; its followers are walked next, the model's reading (log 19). At a frame event
(R23 to R25) a channel whose AIR anchor's event has ended is walked; else the events before the anchor event whose end
now has reached are past, and all past events but the last four go to the free list's tail, oldest first. -/
def Obligations.WalksDeriveEachStartAndEnd : Prop :=
  (∀ (r : Rate) (now : Pos) (lead : Nat → Option Pos) (a : Option Anchor) (l : List Rec),
      (walkList r now lead a l).map (fun e => (e.idx, e.stated, e.derived.past)) =
        l.map (fun e => (e.idx, e.stated, e.derived.past))) ∧
  ((∀ (r : Rate) (t : Option Pos) (e : Rec) (next : Option Pos),
      (e.stated.start = .follow → (walkOne r t e .soft next).1.derived.start = t) ∧
      (e.stated.start = .locked → (walkOne r t e .soft next).1.derived.start = none ∧
        (walkOne r t e .soft next).2 = none) ∧
      (∀ p, (walkOne r none e (.hard p) next).1.derived.start = some p ∧
        (walkOne r none e (.hard p) next).1.derived.lateStart = false ∧
        (walkOne r none e (.hard p) next).1.derived.gap = 0) ∧
      (∀ p q, t = some q → Pos.before r p q = true →
        (walkOne r t e (.hard p) next).1.derived.start = some q ∧
        (walkOne r t e (.hard p) next).1.derived.lateStart = true ∧ (walkOne r t e (.hard p) next).1.derived.gap = 0) ∧
      (∀ p q, t = some q → Pos.before r p q = false →
        (walkOne r t e (.hard p) next).1.derived.start = some p ∧
        (walkOne r t e (.hard p) next).1.derived.lateStart = false ∧
        (walkOne r t e (.hard p) next).1.derived.gap =
          if 0 < Pos.diff r q p then min (Pos.diff r q p).toNat (14 * r.fpd) else 0) ∧
      ((walkOne r t e .eclipsed next).1.derived.start = t ∧ (walkOne r t e .eclipsed next).1.derived.stop = t ∧
        (walkOne r t e .eclipsed next).1.derived.eclipsed = true ∧ (walkOne r t e .eclipsed next).2 = t ∧
        (walkOne r t e .eclipsed next).1.derived.truncated = false) ∧
      (∀ h, h = .soft ∨ h = .eclipsed → (e.stated.start = .follow ∨ e.stated.start = .locked) →
        (walkOne r t e h next).1.derived.lateStart = false ∧ (walkOne r t e h next).1.derived.gap = 0)) ∧
    (∀ (r : Rate) (t : Option Pos) (e : Rec) (h : Hard) (next : Option Pos), h ≠ .eclipsed →
      let d := (walkOne r t e h next).1.derived
      (walkOne r t e h next).2 = d.stop ∧
      (d.start = none → d.stop = none ∧ d.eclipsed = false ∧ d.truncated = false) ∧
      ∀ p, d.start = some p →
        let natural := match e.stated.stop with
          | .timed n => some (p.add r n)
          | .openEnd (some n) => some (p.add r n)
          | .openEnd none => none
        let ceiling := next.map fun q => if Pos.before r q p then p else q
        d.stop = (match natural, ceiling with
          | some n, some q => some (if Pos.before r q n then q else n)
          | some n, none => some n
          | none, c => c) ∧
        d.eclipsed = decide (d.stop = some p) ∧
        (d.truncated = true ↔ ∃ n q, natural = some n ∧ d.stop = some q ∧ Pos.before r q n = true))) ∧
  ((∀ (r : Rate) (now : Pos) (lead : Nat → Option Pos) (a : Option Anchor) (l : List Rec),
      (∀ x, a = some x → splitAt x.event l = none) →
      ∃ kept rest, l = kept ++ rest ∧ (∀ e ∈ kept, e.derived.past = true) ∧
        (∀ e, rest.head? = some e → e.derived.past = false) ∧
        walkList r now lead a l = kept ++ walkFrom r none (hards r lead none rest)) ∧
    (∀ (r : Rate) (now : Pos) (lead : Nat → Option Pos) (a : Anchor) (l before : List Rec) (e : Rec) (after : List Rec),
      splitAt a.event l = some (before, e, after) →
      ∃ first later e', hards r lead none (e :: after) = first :: later ∧
        walkList r now lead (some a) l = before.map (capAt r a.actual) ++ e' :: walkFrom r e'.derived.stop later ∧
        e'.idx = e.idx ∧ e'.stated = e.stated ∧ e'.derived.start = some a.actual ∧ e'.derived.eclipsed = false ∧
        e'.derived.lateStart = false ∧ e'.derived.gap = 0 ∧
        let p := match a.source with
          | .beat => a.report
          | .air => now
        let natural := match e.stated.stop with
          | .timed n => some (a.actual.add r n)
          | .openEnd (some n) => some (a.actual.add r n)
          | .openEnd none => none
        let reach := match natural, firstHard later with
          | some n, some h => some (if Pos.before r h n then h else n)
          | some n, none => some n
          | none, h => h
        e'.derived.stop = reach.map (fun q => if Pos.after r (p.add r 1) q then p.add r 1 else q) ∧
        (e'.derived.truncated = true ↔ ∃ n q, natural = some n ∧ e'.derived.stop = some q ∧ Pos.before r q n = true)) ∧
    (∀ (r : Rate) (p : Pos) (e : Rec), let x := capAt r p e
      let cap := fun q : Option Pos => match q with
        | some q => if Pos.after r q p then p else q
        | none => p
      x.idx = e.idx ∧ x.stated = e.stated ∧ x.derived.start = some (cap e.derived.start) ∧
      x.derived.stop = some (cap e.derived.stop) ∧ x.derived.past = e.derived.past ∧
      x.derived.truncated = e.derived.truncated ∧ x.derived.lateStart = e.derived.lateStart ∧
      x.derived.gap = e.derived.gap ∧
      (x.derived.eclipsed = true ↔ e.derived.eclipsed = true ∨ (x ≠ e ∧ x.derived.start = x.derived.stop))) ∧
    (∀ (r : Rate) (t : Option Pos) (e : Rec) (h : Hard) (es : List (Rec × Hard)),
      (e.derived.past = false → walkFrom r t ((e, h) :: es) =
        (walkOne r t e h (firstHard es)).1 :: walkFrom r (walkOne r t e h (firstHard es)).2 es) ∧
      (e.derived.past = true → walkFrom r t ((e, h) :: es) = e :: walkFrom r t es) ∧ walkFrom r t [] = []) ∧
    (∀ (es : List (Rec × Hard)) (p : Pos), firstHard es = some p ↔
      ∃ as x bs, es = as ++ (x, .hard p) :: bs ∧ ∀ y ∈ as, ∀ q, y.2 ≠ .hard q) ∧
    (∀ (r : Rate) (lead : Nat → Option Pos) (near : Option Pos) (e : Rec) (es : List Rec),
      let h := hardOf r lead near e.stated
      hards r lead near (e :: es) = (e, h) :: hards r lead (match h with | .hard p => some p | _ => near) es ∧
      hards r lead near [] = [] ∧
      (∀ p, e.stated.start = .fixed p → h = .hard p) ∧ (e.stated.start = .follow → h = .soft) ∧
      (e.stated.start = .locked → e.stated.lockKey.bind lead = none → h = .soft) ∧
      (∀ p, e.stated.start = .locked → e.stated.lockKey.bind lead = some p →
        ((∀ q, near = some q → Pos.before r p q = false) → h = .hard p) ∧
        (∀ q, near = some q → Pos.before r p q = true → h = .eclipsed)))) ∧
  ((∀ (s : State) (c : Chan),
      let marked := markPastList s.rate s.now (s.chan c).anchor
        (walkList s.rate s.now (s.leaderStart c) (s.chan c).anchor (s.chan c).list)
      ((s.chan c).watched = false → s.walkOwn c = s) ∧
      ((s.chan c).watched = true →
        (s.walkOwn c).chan c = { s.chan c with list := (trimList marked).2 } ∧
        (s.walkOwn c).free = s.free ++ (trimList marked).1.map Rec.idx ∧
        ∀ d, d ≠ c → (s.walkOwn c).chan d = s.chan d) ∧
      s.walk c = ((List.finRange 32).filter fun f => decide (s.leaderOf f = some c)).foldl (fun t f => t.walkOwn f)
        (s.walkOwn c) ∧
      (∀ l, s.leaderOf c = some l ↔ (s.chan c).profile.leader = some l ∧ l ≠ c ∧ (s.chan l).profile.leader = none)) ∧
    (∀ (s : State) (c : Chan) (key : Nat), (s.leaderOf c = none → s.leaderStart c key = none) ∧
      ∀ l, s.leaderOf c = some l →
        let bears := fun e : Rec => e.stated.lockKey = some key ∧ e.derived.eclipsed = false
        ((∀ e ∈ (s.chan l).list, ¬bears e) → s.leaderStart c key = none) ∧
        ∀ as e bs, (s.chan l).list = as ++ e :: bs → bears e → (∀ z ∈ as, ¬bears z) →
          s.leaderStart c key = e.derived.start)) ∧
  ((∀ (r : Rate) (now : Pos) (l : List Rec), markPastList r now none l = l) ∧
    (∀ (r : Rate) (now : Pos) (a : Anchor) (l before : List Rec) (e : Rec) (after : List Rec),
      splitAt a.event l = some (before, e, after) → markPastList r now (some a) l =
        before.map (fun x => { x with derived := { x.derived with
          past := x.derived.past || x.derived.stop.elim false fun p => decide (0 ≤ Pos.diff r p now) } }) ++ e :: after) ∧
    (∀ l : List Rec, let x := trimList l
      let past := l.filter fun e => e.derived.past
      x.1 = past.take (past.length - 4) ∧ x.2.Sublist l ∧
      (x.2.filter fun e => e.derived.past) = past.drop (past.length - 4) ∧
      (x.2.filter fun e => !e.derived.past) = l.filter fun e => !e.derived.past) ∧
    (∀ (s : State) (c : Chan),
      ((s.chan c).watched = false → s.frameStore c = s) ∧
      ((s.chan c).watched = true → s.airRunOut c = true → s.frameStore c = s.walk c) ∧
      ((s.chan c).watched = true → s.airRunOut c = false →
        let marked := markPastList s.rate s.now (s.chan c).anchor (s.chan c).list
        ((s.frameStore c).chan c).list = (trimList marked).2 ∧
        ∃ more, (s.frameStore c).free = s.free ++ (trimList marked).1.map Rec.idx ++ more) ∧
      (s.airRunOut c = true ↔ ∃ a e p, (s.chan c).anchor = some a ∧ a.source = .air ∧
        findEvent a.event (s.chan c).list = some e ∧ e.derived.stop = some p ∧ s.reached p = true)))

/-- BEAT_ANCHOR_EXPIRY, PARKED_EDIT_TIMEOUT and IMAGE_LOAD_TIMEOUT at the open frame event (R34, R42, R57). A BEAT
anchor whose report position is more than Ta frames behind now is removed and the channel is walked unanchored; any
other anchor is left. Parked entries of the channel that have reached 50 frames make a CURRENT replica STALE with cause
GAP and free every parked entry of the channel, the image request beginning; under a load they stay; on an EMPTY or
STALE replica they alone are freed. A load that has waited 100 frames for a segment is abandoned: its records return to
the pool in shadow order, the replica has the state and cause it had before, and the request goes on to the next
candidate. Sooner, nothing happens. Where a command finds the state, and the review after it, are the model's order (log
1). -/
def Obligations.ReplicaTimersExpire : Prop :=
  ((∀ (c : Chan) (s : State), s.time.frameOpen = true → let t := s.atStep
    (∀ a, (t.chan c).anchor = some a → a.source = .beat → (t.cfg.ta : Int) < Pos.diff t.rate a.report t.now →
      exec (.beatAnchorExpiry c) s = .next ((t.modChan c fun ch => { ch with anchor := none }).walk c).review) ∧
    ((∀ a, (t.chan c).anchor = some a → a.source = .air ∨ Pos.diff t.rate a.report t.now ≤ t.cfg.ta) →
      exec (.beatAnchorExpiry c) s = .next t.review)) ∧
  (∀ (c : Chan) (s : State), s.time.frameOpen = true → let t := s.atStep
    ((∀ e ∈ t.repl.parked, e.chan = c → e.age < 50) → exec (.parkedEditTimeout c) s = .next t.review) ∧
    ((∃ e ∈ t.repl.parked, e.chan = c ∧ 50 ≤ e.age) →
      ((t.chan c).replica = .current → exec (.parkedEditTimeout c) s =
        .next (((t.setStale c .gap).freeParked c fun _ => true).beginRequest c).review) ∧
      ((t.chan c).replica = .loading → exec (.parkedEditTimeout c) s = .next t.review) ∧
      ((t.chan c).replica = .empty ∨ (t.chan c).replica = .stale → exec (.parkedEditTimeout c) s =
        .next ({ t with repl := { t.repl with parked :=
          (t.repl.parked.filter fun e => !(decide (e.chan = c) && decide (50 ≤ e.age))) } } : State).review)))) ∧
  (∀ (c : Chan) (s : State), s.time.frameOpen = true → let t := s.atStep
    (∀ sh, (t.chan c).shadow = some sh → 100 ≤ sh.age →
      let u : State := (({ t with free := t.free ++ (State.shadowRecs sh).map Rec.idx } : State).modChan c fun ch =>
        { ch with shadow := none, replica := sh.prior.1, cause := sh.prior.2 })
      exec (.imageLoadTimeout c) s = .next (u.chooseTarget c).review) ∧
    ((∀ sh, (t.chan c).shadow = some sh → sh.age < 100) → exec (.imageLoadTimeout c) s = .next t.review))

/-! ### Edits -/

/-- EDIT_RECEIVED before the sequence is judged (R17, R37, R38): an edit of a channel that is not watched is passed
over; a relay's under SITE only sets the withheld flag; a standby station's without authority changes nothing but that,
from one not named holder, above the channel's epoch it makes the replica STALE with cause EPOCH; an edit of an epoch
below the channel's from the party in authority is ignored, a relay's setting the withheld flag; and one of a higher
epoch from that party makes a CURRENT replica STALE with cause EPOCH and is then taken as by one not CURRENT. After
STALE by an edit (R37, R40, R49, R57): the list stands, a load's records are in the pool again, and the image request
runs; that an EMPTY one stays so, and that a load abandoned begins a new round, are the model's reading (log 16). The
rows of a replica that is not CURRENT (R40): EMPTY or STALE it parks what lies above the epoch, or at it from the
expected sequence on; under a load what has the image's epoch from its base on, and what lies above that epoch, the load
given up; the rest, and what finds the parked queue full, is passed over. For a CURRENT replica, at the channel's epoch,
from the party that holds authority (R39): a sequence below the expected one is a duplicate and changes no state; the
expected one is applied or refused, the sequence rises by one, or at 4,294,967,295 stays with the replica STALE with
cause OVERFLOW, and the parked edits drain; up to 31 above it the edit is parked with age 0 while the parked queue has
room; else it is STALE with cause OVERFLOW, its parked entries freed. The drain (R41): it takes the earliest parked
entry of the channel's epoch whose sequence is due, the entries before it of a lower sequence freed, one after another;
and when it ends CURRENT, no entry of that epoch is parked at or below the expected sequence. Bytes behind the operands
are not read (log 10). Where a command finds the state, and the review after it, are the model's order (log 1). -/
def Obligations.EditsAreTakenInSequence : Prop :=
  (∀ (rx : Reception) (s : State) (src dst : Addr) (c : Chan) (epoch seq : Nat) (op : Byte) (operands : List Byte),
      let t := s.found.hear src
      s.found.receive rx = .deliver src dst (.edit (chanNo c) epoch seq op operands) →
      ((t.chan c).watched = false → exec (.editReceived rx) s = .next t.review) ∧
      ((t.chan c).watched = true → (t.chan c).authority = .site → 17 ≤ src → (t.view c).holder ≠ some src →
        exec (.editReceived rx) s = .next (t.modChan c fun ch => { ch with withheld := true }).review) ∧
      ((t.chan c).watched = true → src ≤ 16 → ((t.chan c).authority = .main ∨ (t.view c).holder ≠ some src) →
        (epoch ≤ (t.chan c).epoch → exec (.editReceived rx) s = .next t.review) ∧
        ((t.chan c).epoch < epoch → (t.view c).holder ≠ some src →
          exec (.editReceived rx) s = .next (t.editAbove c).review)) ∧
      ((t.chan c).watched = true → src ≤ 16 → (t.chan c).authority = .main → (t.view c).holder = some src →
        exec (.editReceived rx) s = .next t.review) ∧
      ((t.chan c).watched = true → (t.chan c).authority = .main → 17 ≤ src → src ≤ 20 → epoch < (t.chan c).epoch →
        exec (.editReceived rx) s = .next (t.modChan c fun ch => { ch with withheld := true }).review) ∧
      ((t.chan c).watched = true → (t.chan c).authority = .site → (t.view c).holder = some src → src ≤ 16 →
        epoch < (t.chan c).epoch → exec (.editReceived rx) s = .next t.review) ∧
      ((t.chan c).watched = true → t.holdsAuthority c src = true →
        ((t.chan c).epoch < epoch → (t.chan c).replica = .current → exec (.editReceived rx) s =
          .next ((t.makeStale c .epoch).editNotCurrent c src epoch seq op operands).review) ∧
        ((t.chan c).epoch ≤ epoch → (t.chan c).replica ≠ .current → exec (.editReceived rx) s =
          .next (t.editNotCurrent c src epoch seq op operands).review))) ∧
  (∀ (s : State) (c : Chan),
      (s.editAbove c).chan c = { s.chan c with
        replica := if (s.chan c).replica = .empty then .empty else .stale
        cause := if (s.chan c).replica = .empty then (s.chan c).cause else some .epoch
        shadow := if (s.chan c).replica = .empty then (s.chan c).shadow else none
        request := ((s.editAbove c).chan c).request } ∧
      (s.active = true → (s.chan c).watched = true → ((s.editAbove c).chan c).request ≠ none) ∧
      (∀ sh, (s.chan c).replica ≠ .empty → (s.chan c).shadow = some sh →
        (s.editAbove c).free = s.free ++ (State.shadowRecs sh).map Rec.idx) ∧
      (s.editAbove c).repl.parked = s.repl.parked) ∧
  (∀ (s : State) (c : Chan) (src : Addr) (epoch seq : Nat) (op : Byte) (operands : List Byte),
      let out := s.editNotCurrent c src epoch seq op operands
      let parked := fun u : State => if u.repl.parked.length < 16 then
          ({ u with repl := { u.repl with parked := u.repl.parked ++ [⟨c, epoch, seq, src, op, operands, 0⟩] } } : State)
        else u
      let ch := s.chan c
      (ch.replica = .empty ∨ ch.replica = .stale →
        (ch.epoch < epoch → out = parked (s.editAbove c)) ∧
        (epoch = ch.epoch → ch.nextSeq ≤ seq → out = parked s) ∧ (epoch = ch.epoch → seq < ch.nextSeq → out = s)) ∧
      (∀ sh, ch.replica = .loading → ch.shadow = some sh →
        (epoch < sh.epoch → out = s) ∧ (epoch = sh.epoch → sh.base ≤ seq → out = parked s) ∧
        (epoch = sh.epoch → seq < sh.base → out = s) ∧ (sh.epoch < epoch → out = parked (s.editAbove c)))) ∧
  (∀ (rx : Reception) (s : State) (src dst : Addr) (c : Chan) (seq : Nat) (op : Byte) (operands : List Byte),
      let t := s.found.hear src
      s.found.receive rx = .deliver src dst (.edit (chanNo c) (t.chan c).epoch seq op operands) →
      (t.chan c).watched = true → t.holdsAuthority c src = true → (t.chan c).replica = .current →
      let n := (t.chan c).nextSeq
      (seq < n → exec (.editReceived rx) s = .next t.review) ∧
      (∀ e rest, seq = n → readEdit op operands = some (e, rest) → t.contentCheck c e = none →
        exec (.editReceived rx) s = .next (((t.applyEdit c e).advanceSeq c).drain c).review) ∧
      (∀ code, seq = n → (readEdit op operands = none ∧ code = .badCommand ∨
          ∃ e rest, readEdit op operands = some (e, rest) ∧ t.contentCheck c e = some code) →
        exec (.editReceived rx) s = .next (((t.makeStale c
          (if code = .poolFull then .poolFull else .diverged)).advanceSeq c).drain c).review) ∧
      (n < seq → seq ≤ n + 31 → t.repl.parked.length < 16 →
        exec (.editReceived rx) s = .next ({ t with repl := { t.repl with
          parked := t.repl.parked ++ [⟨c, (t.chan c).epoch, seq, src, op, operands, 0⟩] } } : State).review) ∧
      ((n + 31 < seq ∨ (n < seq ∧ 16 ≤ t.repl.parked.length)) →
        exec (.editReceived rx) s =
          .next ((((t.setStale c .overflow).freeParked c fun _ => true).beginRequest c)).review)) ∧
  (∀ (s : State) (c : Chan), ((s.chan c).replica ≠ .current → s.drain c = s) ∧
      (s.repl.parked.length ≤ 16 → let u := s.drain c
        u.repl.parked.Sublist s.repl.parked ∧
        ((u.chan c).replica = .current → ∀ e ∈ u.repl.parked, e.chan = c → e.epoch = (u.chan c).epoch →
          (u.chan c).nextSeq < e.seq)) ∧
      (∀ k as e bs, (s.chan c).replica = .current → s.repl.parked = as ++ e :: bs →
        let due := fun x : Parked => x.chan = c ∧ x.epoch = (s.chan c).epoch ∧ x.seq = (s.chan c).nextSeq
        due e → (∀ x ∈ as, ¬due x) → drainParked c (k + 1) s = drainParked c k (({ s with repl := { s.repl with
          parked := (as.filter fun x => !(decide (x.chan = c) && decide (x.epoch = (s.chan c).epoch) &&
            decide (x.seq < (s.chan c).nextSeq))) ++ bs } } : State).takeDue c e.op e.operands))) ∧
  (∀ (s : State) (c : Chan), let n := (s.chan c).nextSeq
      let u := s.advanceSeq c
      (n < 4294967295 → u = s.modChan c fun ch => { ch with nextSeq := n + 1 }) ∧
      (4294967295 ≤ n → (u.chan c).nextSeq = n ∧ (u.chan c).epoch = (s.chan c).epoch ∧
        (u.chan c).list = (s.chan c).list ∧
        ((s.chan c).replica ≠ .empty → (u.chan c).replica = .stale ∧ (u.chan c).cause = some .overflow) ∧
        (s.active = true → (s.chan c).watched = true → (u.chan c).request ≠ none)))

/-- Edits over a list (R22, R43, R45, R46). An edit that passes the content checks over a list of distinct ids in order
of its stated starts leaves such a list; an INSERT AFTER adds one record to at most 512, a DELETE takes one away, the
others keep their number; and every event but the edit's target keeps its record. A RETIME moves its target's stated
start, or its duration in its own end mode, a SET END makes the end TIMED with the duration, a REPLACE rewrites all its
stated fields, each leaving all else; a DELETE takes its target alone out, and an INSERT AFTER puts the new record right
behind its anchor or first. The content checks (R43) are made over the channel's list, the pool and the time as they
stand, in the order BAD COMMAND, BAD TIME, OUT OF HORIZON while the time is SET, NO ANCHOR or NOT FOUND (or BAD COMMAND
for a new start of an event that is not FIXED), DUPLICATE ID, BAD ORDER, LIST FULL, POOL FULL, each for the operations
R45 and R46 give it to, and the first that fails gives the code. An edit applied leaves the channel this list, with the
head of the free list for the record an INSERT AFTER adds and a deleted record at its tail (R20, R21), drops an anchor
whose event is gone (R35), and is followed by the walk (R48); a SET PROFILE stores the profile, each value clamped to
the nearer bound, a name cut to 12, a leader outside 1 to 32 as none, and of the preference entries the first of each
address 1 to 16 in their order (R18, R47). With a mask other than before, the probes mapped to the channel lose their
reference, grid counter and runs; with the same mask, and by any other edit, no probe changes (R98). That the ranges
checked first take unnamed presence bits and event 0 for badly formed is the model's reading (log 11). -/
def Obligations.CheckedEditsKeepTheListSound : Prop :=
  (∀ (rate : Rate) (now : Pos) (timeSet poolFull : Bool) (list : List Rec) (e : EditOp) (idx : Nat),
    e.check rate now timeSet poolFull list = none → (list.map fun x => x.stated.id).Nodup → inOrder rate list = true →
    let after := e.onList rate idx list
    (after.map fun x => x.stated.id).Nodup ∧ inOrder rate after = true ∧
    (∀ x ∈ list, some x.stated.id ≠ e.target → x ∈ after) ∧
    (match e with
      | .insertAfter _ _ => after.length = list.length + 1 ∧ after.length ≤ 512
      | .delete _ => after.length + 1 = list.length
      | _ => after.length = list.length)) ∧
  (∀ (rate : Rate) (list : List Rec) (id : Nat) (x : Rec) (before after : List Rec) (idx d : Nat) (p : Nat × Label) (q : Pos),
    splitAt id list = some (before, x, after) →
    (EditOp.onList rate idx (.setEnd id d) list =
      before ++ { x with stated := { x.stated with stop := .timed d } } :: after) ∧
    (∀ old, x.stated.stop = .timed old → EditOp.onList rate idx (.retimeDuration id d) list =
      before ++ { x with stated := { x.stated with stop := .timed d } } :: after) ∧
    (∀ old, x.stated.stop = .openEnd old → EditOp.onList rate idx (.retimeDuration id d) list =
      before ++ { x with stated := { x.stated with stop := .openEnd (some d) } } :: after) ∧
    (statedPos rate p = some q → EditOp.onList rate idx (.retimeStart id p) list =
      before ++ { x with stated := { x.stated with start := .fixed q } } :: after) ∧
    (EditOp.onList rate idx (.delete id) list = before ++ after) ∧
    (∀ raw : RawRecord, EditOp.onList rate idx (.replace id raw) list =
        before ++ { x with stated := raw.stated! rate } :: after ∧
      EditOp.onList rate idx (.insertAfter (some id) raw) list =
        before ++ x :: ⟨idx, raw.stated! rate, Derived.fresh⟩ :: after ∧
      EditOp.onList rate idx (.insertAfter none raw) list = ⟨idx, raw.stated! rate, Derived.fresh⟩ :: list)) ∧
  ((∀ (s : State) (c : Chan) (e : EditOp),
      s.contentCheck c e = e.check s.rate s.now (decide (s.time.timeState = .set)) s.free.isEmpty (s.chan c).list) ∧
    (∀ (rate : Rate) (now : Pos) (timeSet poolFull : Bool) (list : List Rec) (e : EditOp),
      let far := timeSet = true ∧ ∃ p q, e.carried = some p ∧ statedPos rate p = some q ∧ Pos.inHorizon rate now q = false
      let repeated := ∃ x ∈ list, (∃ a r, e = .insertAfter a r ∧ x.stated.id = r.id) ∨
        (∃ id r, e = .replace id r ∧ r.id ≠ id ∧ x.stated.id = r.id)
      let timed := (∃ a r, e = .insertAfter a r) ∨ (∃ id r, e = .replace id r) ∨ (∃ id p, e = .retimeStart id p) ∨
        ∃ id d, e = .retimeDuration id d
      let adds := ∃ a r, e = .insertAfter a r
      let unordered := timed ∧ inOrder rate (e.onList rate 0 list) = false
      let out := e.check rate now timeSet poolFull list
      let fine := e.formed = true ∧ e.timely rate = true ∧ ¬far
      (e.formed = false → out = some .badCommand) ∧
      (e.formed = true → e.timely rate = false → out = some .badTime) ∧
      (e.formed = true → e.timely rate = true → far → out = some .outOfHorizon) ∧
      (∀ code, fine → e.placed list = some code → out = some code) ∧
      (fine → e.placed list = none → repeated → out = some .duplicateId) ∧
      (fine → e.placed list = none → ¬repeated → unordered → out = some .badOrder) ∧
      (fine → e.placed list = none → ¬repeated → ¬unordered → adds → 512 ≤ list.length → out = some .listFull) ∧
      (fine → e.placed list = none → ¬repeated → ¬unordered → adds → list.length < 512 → poolFull = true →
        out = some .poolFull) ∧
      (fine → e.placed list = none → ¬repeated → ¬unordered → (¬adds ∨ (list.length < 512 ∧ poolFull = false)) →
        out = none) ∧
      (∀ a r, e = .insertAfter (some a) r →
        e.placed list = if (findEvent a list).isSome then none else some .noAnchor) ∧
      (∀ r, e = .insertAfter none r → e.placed list = none) ∧ (∀ p, e = .setProfile p → e.placed list = none) ∧
      (∀ id, e.target = some id → findEvent id list = none → e.placed list = some .notFound) ∧
      (∀ id x, e.target = some id → findEvent id list = some x →
        let unsuited := (∃ p, e = .retimeStart id p) ∧ ∀ q, x.stated.start ≠ .fixed q
        (unsuited → e.placed list = some .badCommand) ∧ (¬unsuited → e.placed list = none))) ∧
    (∀ (rate : Rate) (list : List Rec), inOrder rate list = true ↔
      (list.filterMap fun x => x.stated.fixedAt).Pairwise fun p q => Pos.before rate q p = false)) ∧
  (∀ (s : State) (c : Chan) (e : EditOp),
      (∀ p, e = .setProfile p → ((s.applyEdit c e).chan c).profile = p.store ∧ (s.applyEdit c e).log = s.log ∧
        ∀ k : ProbeId, (s.applyEdit c e).probe k =
          if (s.probe k).chan = some c ∧ p.store.mask ≠ (s.chan c).profile.mask then
            { s.probe k with reference := none, gridCount := 0, darkRun := 0, flatRun := 0, freezeRun := 0 }
          else s.probe k) ∧
      ((∀ p, e ≠ .setProfile p) → (s.applyEdit c e).probes = s.probes) ∧
      ((∀ p, e ≠ .setProfile p) → ∃ t : State, s.applyEdit c e = t.walk c ∧
        t.chan c = { s.chan c with
          list := e.onList s.rate (s.free.headD 0) (s.chan c).list
          anchor := (s.chan c).anchor.bind fun a =>
            if (findEvent a.event (e.onList s.rate (s.free.headD 0) (s.chan c).list)).isSome then some a else none } ∧
        (∀ d, d ≠ c → t.chan d = s.chan d) ∧ t.slots = s.slots ∧ t.log = s.log ∧ t.views = s.views ∧
        (∀ a r, e = .insertAfter a r → t.free = s.free.drop 1) ∧
        (∀ id x, e = .delete id → findEvent id (s.chan c).list = some x → t.free = s.free ++ [x.idx]) ∧
        ((∀ a r, e ≠ .insertAfter a r) → (∀ id, e ≠ .delete id) → t.free = s.free))) ∧
  (∀ p : RawProfile, let x := p.store
      let sent := fun i => p.levels.getD i 0
      let kept := fun lo hi n m : Nat => (n < lo → m = lo) ∧ (hi < n → m = hi) ∧ (lo ≤ n → n ≤ hi → m = n)
      x.name = p.name.take 12 ∧ kept 1 16 p.slate x.slate ∧ (∀ l, x.leader = some l ↔ p.leader = l.val + 1) ∧
      (∀ a, a ∈ x.preference ↔ 1 ≤ a ∧ a ≤ 16 ∧ a ∈ p.preference) ∧
      x.preference.Pairwise (fun a b => p.preference.idxOf a < p.preference.idxOf b) ∧
      kept 0 255 (sent 0) x.dl ∧ kept 1 250 (sent 1) x.nd ∧ kept 0 63 (sent 2) x.fl ∧ kept 0 3 (sent 3) x.fp ∧
      kept 1 250 (sent 4) x.nf ∧ kept 1 63 (sent 5) x.cl ∧ kept 1 144 (sent 6) x.cs ∧ kept 1 64 (sent 7) x.k ∧
      kept 1 250 (sent 8) x.nz ∧ x.mask = BitVec.ofNat 144 p.mask)

/-! ### Images -/

/-- The image request's own commands (R53). IMAGEREQ_OFFER_RETRY queues the IMAGEREQ to the target in class 1 when it
has a free entry, behind what the order of R183 puts before it: a held BEACON, the pending VERDICTs, and the IMAGEREQs
of lower channels. IMAGEREQ_ECHO takes it off its queue, adds the target to the stations asked and starts the timer at
0, whether a segment of the target has come first or not; one to a station no longer the target only leaves its queue,
the model's choice (log 32). IMAGE_TARGET_TIMEOUT goes on to the next candidate 100 frames after the echo, and
IMAGE_ROUND_RESTART begins a new round after 250 frames of WAITING. Sooner, or without a request, they do nothing. The
choice of a target (R52, R53): the first candidate not yet asked becomes the target with the timer at 0; with none left
the request waits. The candidates are, first, under MAIN all relays with their link UP in rising address order, under
SITE the holder unless it is this station, and then all other peers whose last BEACON shows the channel CURRENT, this
station left out, in rising address order. Where a command finds the state, and the review after it, are the model's
order (log 1). -/
def Obligations.ImageRequestsTryTheirTargets : Prop :=
  (∀ (c : Chan) (s : State),
      (s.time.frameOpen = true → let t := s.atStep
        let u := t.beforeAsk c
        (u = forChans (fun d u => if d < c then u.putAsk d else u)
          (forProbes (fun p u => u.putVerdict p) (if t.active && t.line.beaconHeld then t.offerBeacon else t))) ∧
        (∀ q d, (u.chan c).request = some q → q.stage = .asking → q.ask = .unqueued → q.target = some d →
          (u.hasRoom .one = true → exec (.imagereqOfferRetry c) s =
            .next ((u.enqueue (.imagereq c d)).modRequest c fun q => { q with ask := .queued }).review) ∧
          (u.hasRoom .one = false → exec (.imagereqOfferRetry c) s = .next u.review)) ∧
        ((∀ q, (u.chan c).request = some q → q.stage ≠ .asking ∨ q.ask ≠ .unqueued ∨ q.target = none) →
          exec (.imagereqOfferRetry c) s = .next u.review) ∧ (u.chan c).request = (t.chan c).request ∧
        (∀ q, (t.chan c).request = some q → q.stage = .asking → q.ask = .echoed → 100 ≤ q.timer →
          exec (.imageTargetTimeout c) s = .next (t.chooseTarget c).review) ∧
        ((∀ q, (t.chan c).request = some q → q.stage ≠ .asking ∨ q.ask ≠ .echoed ∨ q.timer < 100) →
          exec (.imageTargetTimeout c) s = .next t.review) ∧
        (∀ q, (t.chan c).request = some q → q.stage = .waiting → 250 ≤ q.timer →
          exec (.imageRoundRestart c) s = .next (t.newRound c).review) ∧
        ((∀ q, (t.chan c).request = some q → q.stage ≠ .waiting ∨ q.timer < 250) →
          exec (.imageRoundRestart c) s = .next t.review)) ∧
      (∀ d, let t := s.found
        t.sendingHead (fun m => decide (m.kind = .imagereq)) = some (.imagereq c d) →
        exec .imagereqEcho s = .next (t.leaveHead.modRequest c fun q =>
          if q.target = some d then
            { q with asked := if d ∈ q.asked then q.asked else q.asked ++ [d], timer := 0, ask := .echoed }
          else q).review)) ∧
  (∀ (c : Chan) (s : State) (q : ImageRequest), (s.chan c).request = some q →
      ((∀ a ∈ s.candidates c, a ∈ q.asked) →
        s.chooseTarget c =
          s.modRequest c fun q => { q with target := none, timer := 0, stage := .waiting, ask := .unqueued }) ∧
      (∀ as a bs, s.candidates c = as ++ a :: bs → (∀ x ∈ as, x ∈ q.asked) → a ∉ q.asked →
        ∃ q', ((s.chooseTarget c).chan c).request = some q' ∧ q'.target = some a ∧ q'.timer = 0 ∧ q'.stage = .asking ∧
          q'.asked = q.asked) ∧
      (∃ first rest, s.candidates c = first ++ rest ∧ first.Pairwise (· < ·) ∧ rest.Pairwise (· < ·) ∧
        ((s.chan c).authority = .main → ∀ a, a ∈ first ↔ 17 ≤ a ∧ a ≤ 20 ∧ (s.peer a).link = .up) ∧
        ((s.chan c).authority = .site → ∀ a, a ∈ first ↔ (s.view c).holder = some a ∧ a ≠ s.me) ∧
        (∀ a, a ∈ rest ↔ 1 ≤ a ∧ a ≤ 16 ∧ a ≠ s.me ∧ (s.peer a).current.getLsbD c.val = true ∧ a ∉ first)))

/-- IMAGE_SEGMENT_RECEIVED (R53, R54): a segment not from the present target, of a channel not watched, or failing R54
is passed over; a count of 0 from the target moves the request on, and leaves a load, the model's reading (log 18); a
CURRENT replica takes none; a first segment opens a load, LOADING with an empty shadow of its image id, epoch, base and
count, and is stored; each accepted one restarts the request's timer, its stage LOADING. Into an open load of its image
id go only segments of its count whose index is new, whatever their epoch and base, the model's choice (log 41); another
image id restarts the load. The storing (R55): the records are taken off the segment one by one, each with a record from
the head of the free list, until one cannot be read or fails steps 1 and 2 of R43, repeats an id of the shadow, or would
be the 513th, which fails it DIVERGED, or the pool is empty, which fails it POOL FULL; an unreadable profile of segment
0 fails it DIVERGED. They go between the records of the lower and the higher segments. A failed load leaves the replica
STALE with its cause, its records freed and the list as it was, and the request goes to the next candidate or waits, for
an image refused when whole the model's reading (log 20). The whole load (R56) is installed when its records stand in
the order of step 6 and its epoch and base still pass R54, and else fails DIVERGED; until then it waits. The install:
the channel is CURRENT at the image's epoch and base with no cause, no withheld flag, no request and no shadow; its list
is the shadow's records in order, those before a standing anchor's perhaps trimmed to four; the old list's are freed in
order; and the profile is the image's if it brought one, which with another mask clears the probes mapped to the channel
(R98). The channel's parked edits of another epoch or below the base are then freed, and the rest drained (R41). Where a
command finds the state, and the review after it, are the model's order (log 1). -/
def Obligations.SegmentsBuildTheInstalledImage : Prop :=
  (∀ (rx : Reception) (s : State) (src dst : Addr) (c : Chan) (g : Segment),
      let t := s.found.hear src
      s.found.receive rx = .deliver src dst (.image (chanNo c) g.epoch g.imageId g.base g.index g.count g.records g.body) →
      let ours := (t.chan c).watched = true ∧ (t.chan c).request.bind ImageRequest.target = some src
      let passes := g.index < g.count ∧
        ((t.chan c).epoch < g.epoch ∨ (g.epoch = (t.chan c).epoch ∧ (t.chan c).nextSeq ≤ g.base))
      (¬ours → exec (.imageSegmentReceived rx) s = .next t.review) ∧
      (ours → g.count = 0 → exec (.imageSegmentReceived rx) s = .next (t.chooseTarget c).review) ∧
      (ours → g.count ≠ 0 → ¬passes → exec (.imageSegmentReceived rx) s = .next t.review) ∧
      (ours → passes → (t.chan c).replica = .current → exec (.imageSegmentReceived rx) s = .next t.review) ∧
      (ours → passes → ((t.chan c).replica = .empty ∨ (t.chan c).replica = .stale) → (t.chan c).shadow = none →
        exec (.imageSegmentReceived rx) s = .next
          ((((t.openShadow c g ((t.chan c).replica, (t.chan c).cause)).segmentAccepted c).storeSegment c g)).review) ∧
      (∀ sh, ours → passes → (t.chan c).replica = .loading → (t.chan c).shadow = some sh →
        (sh.imageId ≠ g.imageId → exec (.imageSegmentReceived rx) s = .next
          ((((t.freeShadow c).openShadow c g sh.prior).segmentAccepted c).storeSegment c g).review) ∧
        (sh.imageId = g.imageId → sh.count = g.count → (∀ x ∈ sh.segments, x.1 ≠ g.index) →
          exec (.imageSegmentReceived rx) s = .next ((t.segmentAccepted c).storeSegment c g).review) ∧
        (sh.imageId = g.imageId → (sh.count ≠ g.count ∨ ∃ x ∈ sh.segments, x.1 = g.index) →
          exec (.imageSegmentReceived rx) s = .next t.review))) ∧
  (∀ (c : Chan) (s : State) (g : Segment) (prior : ReplicaState × Option StaleCause),
      let opened : Shadow := ⟨g.imageId, g.epoch, g.base, g.count, [], none, prior, 0⟩
      (s.openShadow c g prior = s.modChan c fun ch =>
        { ch with replica := .loading, cause := none, shadow := some opened }) ∧
      (s.segmentAccepted c).chan c = { s.chan c with
        request := (s.chan c).request.map fun q => { q with timer := 0, stage := .loading }
        shadow := (s.chan c).shadow.map fun sh => { sh with age := 0 } } ∧
      (∀ d, d ≠ c → (s.segmentAccepted c).chan d = s.chan d)) ∧
  (∀ (c : Chan) (s : State) (sh : Shadow), (∀ e ∈ State.shadowRecs sh, e.derived = Derived.fresh) →
      ∃ t : State, s.install c sh = t.drain c ∧ ((∀ e ∈ s.repl.parked, e.chan ≠ c) → s.install c sh = t) ∧
      t.repl.parked = s.repl.parked.filter (fun e =>
        !(decide (e.chan = c) && (decide (e.epoch ≠ sh.epoch) || decide (e.seq < sh.base)))) ∧
      (t.chan c).replica = .current ∧ (t.chan c).cause = none ∧ (t.chan c).epoch = sh.epoch ∧
      (t.chan c).nextSeq = sh.base ∧ (t.chan c).withheld = false ∧ (t.chan c).request = none ∧
      (t.chan c).shadow = none ∧ (t.chan c).profile = sh.profile.getD (s.chan c).profile ∧
      (sh.profile = none → t.probes = s.probes) ∧
      (∀ p, sh.profile = some p → ∀ k : ProbeId, t.probe k =
        if (s.probe k).chan = some c ∧ p.mask ≠ (s.chan c).profile.mask then
          { s.probe k with reference := none, gridCount := 0, darkRun := 0, flatRun := 0, freezeRun := 0 }
        else s.probe k) ∧
      (∃ more, t.free = s.free ++ (s.chan c).list.map Rec.idx ++ more) ∧
      let key := fun x : Rec => (x.idx, x.stated)
      let got := (t.chan c).list.map key
      ((∀ a, (s.chan c).anchor = some a → findEvent a.event (State.shadowRecs sh) = none) →
        got = (State.shadowRecs sh).map key) ∧
      (∀ a before e after, (s.chan c).anchor = some a → splitAt a.event (State.shadowRecs sh) = some (before, e, after) →
        ∃ kept, got = kept ++ (e :: after).map key ∧ kept.Sublist (before.map key) ∧ min 4 before.length ≤ kept.length)) ∧
  (∀ (c : Chan) (s : State) (g : Segment) (sh : Shadow), (s.chan c).shadow = some sh →
      let held := (State.shadowRecs sh).map fun e => e.stated.id
      let stored := fun (p : Option Profile) (bs : List Byte) => let x := storeRecs s.rate g.records bs s.free held
        let t : State := ({ s with free := x.2.1 } : State).modChan c fun ch =>
          { ch with shadow := some { sh with segments := insertSegment g.index x.1 sh.segments, profile := p } }
        (x.2.2 = .whole → s.storeSegment c g = t.completeLoad c) ∧
        (∀ cause, x.2.2 = .failed cause → s.storeSegment c g = t.abandonFor c cause)
      (g.index ≠ 0 → stored sh.profile g.body) ∧
      (∀ raw bs, g.index = 0 → readProfile g.body = some (raw, bs) → stored (some raw.store) bs) ∧
      (g.index = 0 → readProfile g.body = none → s.storeSegment c g = s.abandonFor c .diverged) ∧
      (sh.segments.length < sh.count → s.completeLoad c = s) ∧
      (sh.count ≤ sh.segments.length →
        let sound := inOrder s.rate (State.shadowRecs sh) = true ∧
          ((s.chan c).epoch < sh.epoch ∨ (sh.epoch = (s.chan c).epoch ∧ (s.chan c).nextSeq ≤ sh.base))
        (sound → s.completeLoad c = s.install c sh) ∧ (¬sound → s.completeLoad c = s.abandonFor c .diverged)) ∧
      (∀ cause, (s.chan c).replica = .loading → let u := s.abandonFor c cause
        (u.chan c).replica = .stale ∧ (u.chan c).cause = some cause ∧ (u.chan c).shadow = none ∧
        (u.chan c).list = (s.chan c).list ∧ u.free = s.free ++ (State.shadowRecs sh).map Rec.idx ∧
        ((s.chan c).request = none → (u.chan c).request = none) ∧
        ∀ q, (s.chan c).request = some q →
          ((∀ a ∈ s.candidates c, a ∈ q.asked) → (u.chan c).request =
            some { q with target := none, timer := 0, stage := .waiting, ask := .unqueued }) ∧
          ∀ as a bs, s.candidates c = as ++ a :: bs → (∀ x ∈ as, x ∈ q.asked) → a ∉ q.asked →
            ∃ q', (u.chan c).request = some q' ∧ q'.target = some a ∧ q'.timer = 0 ∧ q'.stage = .asking ∧
              q'.asked = q.asked) ∧
      (∀ i rs as bs, sh.segments = as ++ bs → (∀ x ∈ as, x.1 < i) → (∀ x ∈ bs, i < x.1) →
        insertSegment i rs sh.segments = as ++ (i, rs) :: bs)) ∧
  (∀ (rate : Rate) (n : Nat) (bs : List Byte) (free held : List Nat),
      (∀ e ∈ (storeRecs rate n bs free held).1, e.derived = Derived.fresh) ∧
      (storeRecs rate 0 bs free held = ([], free, .whole)) ∧
      (readRecord bs = none → storeRecs rate (n + 1) bs free held = ([], free, .failed .diverged)) ∧
      (∀ raw rest, readRecord bs = some (raw, rest) →
        (∀ code, raw.judge rate = .error code → storeRecs rate (n + 1) bs free held = ([], free, .failed .diverged)) ∧
        (∀ st, raw.judge rate = .ok st →
          (st.id ∈ held ∨ 512 ≤ held.length → storeRecs rate (n + 1) bs free held = ([], free, .failed .diverged)) ∧
          (st.id ∉ held → held.length < 512 →
            (free = [] → storeRecs rate (n + 1) bs free held = ([], [], .failed .poolFull)) ∧
            (∀ i more, free = i :: more → let x := storeRecs rate n rest more (st.id :: held)
              storeRecs rate (n + 1) bs free held = (⟨i, st, Derived.fresh⟩ :: x.1, x.2.1, x.2.2))))))

/-- IMAGEREQ_RECEIVED (R58): one to destination 0 is not for this station. Directed to it: for no channel, one not
watched or not CURRENT it is answered with a count of 0; a second request of the same station for the same channel is
ignored; else it joins the image service queue while that holds fewer than 4, and is answered with a count of 0 when it
is full. IMAGE_SEGMENT_QUEUED and IMAGE_ECHO (R58, R59). With class 2 full, or nothing to serve, nothing is queued. An
answer of count 0 that waits goes first. With the head request's channel CURRENT, an image not started takes the next
image id, the channel's epoch and next expected sequence and its segment count, and the next segment is queued to the
requester, until the last is queued, after which the request waits; with the channel no longer CURRENT the request is
dropped: it leaves the queue, its segments not begun are taken back, and a count of 0 answers it, at once with room in
class 2 and none waiting, and else behind those that wait; one all queued, or of another channel, stays. The echo of an
image's last segment ends its request; any other segment's, or a count-0 answer's, only takes it off the queue. What
restarts an image not all queued takes its segments not begun back and serves it afresh, the new id taken at the
server's next turn, which is the model's choice (log 42); an epoch that does not change restarts none. An image's
segments (R59, R188): together they carry the profile and then every record of the list in order, their record counts
add up to the list's length, and each fits in 222 bytes as the profile and each record do. The fields of a count-0
answer that no rule fills are free values (log 9). The answer to a number of no channel (log 32), the passing over of
destination 0, the dropping of the head request as its channel leaves CURRENT, and waiting answers going first (log 20)
are the model's reading. Where a command finds the state, and the review after it, are the model's order (log 1). -/
def Obligations.ImagesAreServedWhole : Prop :=
  (∀ (rx : Reception) (s : State) (src dst : Addr) (byte : Byte), let t := s.found.hear src
      s.found.receive rx = .deliver src dst (.imagereq byte) →
      (dst = 0 → exec (.imagereqReceived rx) s = .next t.review) ∧
      (dst ≠ 0 → chanOf byte.toNat = none → exec (.imagereqReceived rx) s = .next (t.answerNone src byte).review) ∧
      (∀ c, dst ≠ 0 → chanOf byte.toNat = some c →
        (((t.chan c).watched = false ∨ (t.chan c).replica ≠ .current) →
          exec (.imagereqReceived rx) s = .next (t.answerNone src byte).review) ∧
        ((t.chan c).watched = true → (t.chan c).replica = .current →
          ((src, c) ∈ t.repl.service → exec (.imagereqReceived rx) s = .next t.review) ∧
          ((src, c) ∉ t.repl.service → t.repl.service.length < 4 → exec (.imagereqReceived rx) s =
            .next ({ t with repl := { t.repl with service := t.repl.service ++ [(src, c)] } } : State).review) ∧
          ((src, c) ∉ t.repl.service → 4 ≤ t.repl.service.length →
            exec (.imagereqReceived rx) s = .next (t.answerNone src byte).review)))) ∧
  (∀ (s : State), let t := s.found
      (t.hasRoom .two = false → exec .imageSegmentQueued s = .next t.review) ∧
      (t.repl.zeroAnswers = [] → t.repl.service = [] → exec .imageSegmentQueued s = .next t.review) ∧
      (∀ dst b rest, t.hasRoom .two = true → t.repl.zeroAnswers = (dst, b) :: rest → exec .imageSegmentQueued s =
        .next ({ t.enqueue (.imageNone dst b t.freeCount) with
          freeCount := t.freeCount + 1, repl := { t.repl with zeroAnswers := rest } } : State).review) ∧
      (∀ dst c rest, t.hasRoom .two = true → t.repl.zeroAnswers = [] → t.repl.service = (dst, c) :: rest →
        (t.chan c).replica ≠ .current → exec .imageSegmentQueued s = .next (t.dropService c).review) ∧
      (∀ dst c rest, t.hasRoom .two = true → t.repl.zeroAnswers = [] → t.repl.service = (dst, c) :: rest →
        (t.chan c).replica = .current →
        (∀ sv, t.repl.serving = some sv → sv.count ≤ sv.next → exec .imageSegmentQueued s = .next t.review) ∧
        (∀ sv n body, t.repl.serving = some sv → sv.next < sv.count →
          ((t.chan c).segments t.rate)[sv.next]? = some (n, body) →
          exec .imageSegmentQueued s = .next ((({ t with repl := { t.repl with
              serving := some { sv with next := sv.next + 1 } } } : State).enqueue
            (.image dst c sv.epoch sv.imageId sv.base sv.next sv.count n body))).review) ∧
        (∀ n body more, t.repl.serving = none → (t.chan c).segments t.rate = (n, body) :: more →
          let id := if 4294967295 ≤ t.repl.imageId then 1 else t.repl.imageId + 1
          let sv : Serving := ⟨id, (t.chan c).epoch, (t.chan c).nextSeq, more.length + 1, 1⟩
          exec .imageSegmentQueued s = .next ((({ t with repl := { t.repl with imageId := id, serving := some sv } } : State).enqueue
            (.image dst c sv.epoch id sv.base 0 sv.count n body))).review)) ∧
      (∀ dst c epoch id base index count n body,
        t.sendingHead (fun m => decide (m.kind = .image)) = some (.image dst c epoch id base index count n body) →
        (∀ sv, t.repl.serving = some sv → id = sv.imageId → index + 1 = count → sv.next = sv.count →
          exec .imageEcho s = .next ({ t.leaveHead with repl := { t.repl with
            service := t.repl.service.drop 1, serving := none } } : State).review) ∧
        ((∀ sv, t.repl.serving = some sv → id ≠ sv.imageId ∨ index + 1 ≠ count ∨ sv.next ≠ sv.count) →
          exec .imageEcho s = .next t.leaveHead.review)) ∧
      (∀ dst b k, t.sendingHead (fun m => decide (m.kind = .image)) = some (.imageNone dst b k) →
        exec .imageEcho s = .next t.leaveHead.review)) ∧
  (∀ (s : State) (c : Chan),
      (∀ sv dst rest, s.repl.serving = some sv → s.repl.service = (dst, c) :: rest → sv.next < sv.count →
        s.imageTouched c = { s with
          repl := { s.repl with serving := none }
          line := { s.line with q2 := s.line.q2.filter fun e => e.begun || !State.isImage dst sv.imageId e.msg } }) ∧
      ((∀ sv dst rest, s.repl.serving = some sv → s.repl.service = (dst, c) :: rest → sv.count ≤ sv.next) →
        s.imageTouched c = s) ∧
      s.epochTouched c (s.chan c).epoch = s ∧
      (∀ e, e ≠ (s.chan c).epoch → s.epochTouched c e = s.imageTouched c) ∧
      (s.repl.service = [] → s.dropService c = s) ∧
      (∀ dst d rest, s.repl.service = (dst, d) :: rest →
        (d ≠ c → s.dropService c = s) ∧
        (∀ sv, s.repl.serving = some sv → sv.count ≤ sv.next → s.dropService c = s) ∧
        (d = c → (∀ sv, s.repl.serving = some sv → sv.next < sv.count) →
          let left := match s.repl.serving with
            | some sv => s.line.q2.filter fun e => e.begun || !State.isImage dst sv.imageId e.msg
            | none => s.line.q2
          s.dropService c = ({ s with
            repl := { s.repl with serving := none, service := rest }
            line := { s.line with q2 := left } } : State).answerNone dst (BitVec.ofNat 8 (chanNo c)))) ∧
      (∀ (dst : Addr) (byte : Byte),
        (s.repl.zeroAnswers = [] → s.hasRoom .two = true → s.answerNone dst byte =
          { s.enqueue (.imageNone dst byte s.freeCount) with freeCount := s.freeCount + 1 }) ∧
        ((s.repl.zeroAnswers ≠ [] ∨ s.hasRoom .two = false) → s.answerNone dst byte =
          { s with repl := { s.repl with zeroAnswers := s.repl.zeroAnswers ++ [(dst, byte)] } }))) ∧
  (∀ (rate : Rate) (ch : ChannelRec), ch.profile.bytes.length ≤ 222 →
      (∀ e ∈ ch.list, (e.stated.bytes rate).length ≤ 222) →
      ((ch.segments rate).flatMap Prod.snd = ch.profile.bytes ++ ch.list.flatMap fun e => e.stated.bytes rate) ∧
      (((ch.segments rate).map Prod.fst).sum = ch.list.length) ∧ (∀ x ∈ ch.segments rate, x.2.length ≤ 222) ∧
      ch.segments rate ≠ [])

/-! ### Watching the main site -/

/-- AIRBEAT_RECEIVED (R60, R65, R66, R67): the entries are taken in their order. The form asks for a channel of 1 to 32,
a main state the table names, a prepared flag of 0 or 1 and a report frame within the day; a prepared position outside
the day is left out, and every other field is taken as carried. An entry that fails its form, of a channel not watched,
or more than Tb frames old while the time is SET, changes nothing. An accepted one returns the beat timer to 0, clears
BEAT LOST, replaces the last entry unless its report is earlier, and MAIN FAULT follows the last entry. Then, under MAIN
and ON AIR (R60): one of a higher epoch than the channel's makes a CURRENT or STALE replica STALE with cause EPOCH; one
at the channel's epoch that is older than a BEAT anchor does nothing, and another writes the anchor when it names an
event of the list, and else makes a CURRENT replica STALE with cause MISMATCH. Any other entry does no more. An anchor
written replaces the one that stood, and the walk follows (R33); on a past event it clears the past flag of that event
and of all after it (R23). One removed is followed by the walk too (R34). Where a command finds the state, and the
review after it, are the model's order (log 1). -/
def Obligations.BeatsAreRecordedAndAnchored : Prop :=
  (∀ (rx : Reception) (s : State) (src dst : Addr) (entries : List RawBeat),
    s.found.receive rx = .deliver src dst (.airbeat entries) →
    exec (.airbeatReceived rx) s = .next (entries.foldl State.beatArrives (s.found.hear src)).review) ∧
  (∀ (s : State) (raw : RawBeat), raw.entry s.rate = none → s.beatArrives raw = s) ∧
  (∀ (r : Rate) (raw : RawBeat),
    (raw.entry r = none ↔ raw.chan = 0 ∨ 32 < raw.chan ∨ raw.main = 0 ∨ 3 < raw.main ∨ 1 < raw.present ∨
      r.fpd ≤ raw.report.frame) ∧
    ∀ c b, raw.entry r = some (c, b) → raw.chan = chanNo c ∧
      raw.main = (match b.main with | .onAir => 1 | .standby => 2 | .fault => 3) ∧ b.epoch = raw.epoch ∧
      b.event = raw.event ∧ b.offset = raw.offset ∧ b.report = raw.report ∧
      b.prepared = if raw.present = 1 ∧ raw.preparedPos.frame < r.fpd then some (raw.preparedEvent, raw.preparedPos)
        else none) ∧
  (∀ (s : State) (raw : RawBeat) (c : Chan) (b : BeatEntry), raw.entry s.rate = some (c, b) →
    ((s.chan c).watched = false → s.beatArrives raw = s) ∧
    (s.time.timeState = .set → (s.cfg.tb : Int) < Pos.diff s.rate b.report s.now → s.beatArrives raw = s) ∧
    ((s.chan c).watched = true → (s.time.timeState = .set → Pos.diff s.rate b.report s.now ≤ s.cfg.tb) →
      (∀ w, s.watchRec c = some w → 0 < s.cfg.tb → ∃ w', (s.beatArrives raw).watchRec c = some w' ∧
        w'.beatTimer = 0 ∧ w'.beatLost.value = false ∧ w'.sources = w.sources ∧ w'.health = w.health ∧
        (w.lastBeat = none → w'.lastBeat = some b) ∧
        (∀ old, w.lastBeat = some old →
          w'.lastBeat = some (if Pos.atOrPast s.rate b.report old.report then b else old)) ∧
        (w'.mainFault.value = true ↔ ∃ x, w'.lastBeat = some x ∧ x.main = .fault)) ∧
      ((s.chan c).authority = .main → b.main = .onAir → b.epoch = (s.chan c).epoch →
        (∀ a, (s.chan c).anchor = some a → a.source = .beat → Pos.before s.rate b.report a.report = false) →
        (findEvent b.event (s.chan c).list).isSome = true →
        s.beatArrives raw = (s.recordBeat c b).writeAnchor c ⟨b.event, b.report.sub s.rate b.offset, .beat, b.report⟩) ∧
      (((s.chan c).authority ≠ .main ∨ b.main ≠ .onAir ∨ b.epoch < (s.chan c).epoch) →
        s.beatArrives raw = s.recordBeat c b) ∧
      ((s.chan c).authority = .main → b.main = .onAir → (s.chan c).epoch < b.epoch →
        ((s.chan c).replica = .current → s.beatArrives raw = (s.recordBeat c b).makeStale c .epoch) ∧
        ((s.chan c).replica = .stale → s.beatArrives raw = (s.recordBeat c b).setStale c .epoch) ∧
        ((s.chan c).replica = .empty ∨ (s.chan c).replica = .loading → s.beatArrives raw = s.recordBeat c b)) ∧
      (∀ a, (s.chan c).authority = .main → b.main = .onAir → b.epoch = (s.chan c).epoch → (s.chan c).anchor = some a →
        a.source = .beat → Pos.before s.rate b.report a.report = true → s.beatArrives raw = s.recordBeat c b) ∧
      ((s.chan c).authority = .main → b.main = .onAir → b.epoch = (s.chan c).epoch →
        (∀ a, (s.chan c).anchor = some a → a.source = .beat → Pos.before s.rate b.report a.report = false) →
        findEvent b.event (s.chan c).list = none →
        ((s.chan c).replica = .current → s.beatArrives raw = (s.recordBeat c b).makeStale c .mismatch) ∧
        ((s.chan c).replica ≠ .current → s.beatArrives raw = s.recordBeat c b)))) ∧
  (∀ (s : State) (c : Chan) (cause : StaleCause), (s.chan c).replica ≠ .empty →
    ((s.makeStale c cause).chan c).replica = .stale ∧ ((s.makeStale c cause).chan c).cause = some cause ∧
    ((s.makeStale c cause).chan c).list = (s.chan c).list ∧
    (s.setStale c cause).chan c = { s.chan c with replica := .stale, cause := some cause, shadow := none }) ∧
  (∀ (s : State) (c : Chan) (a : Anchor),
    s.writeAnchor c a = (s.modChan c fun ch =>
      { ch with anchor := some a, list := clearPastFrom a.event ch.list }).walk c ∧
    s.removeAnchor c = (s.modChan c fun ch => { ch with anchor := none }).walk c) ∧
  (∀ (list : List Rec) (id : Nat), (splitAt id list = none → clearPastFrom id list = list) ∧
    ∀ before e after, splitAt id list = some (before, e, after) →
      (e.derived.past = false → clearPastFrom id list = list) ∧
      (e.derived.past = true → clearPastFrom id list = before ++ (e :: after).map fun x =>
        { x with derived := { x.derived with past := false } }))

/-- RELAYSTATE_RECEIVED and RELAY_SILENT (R68). A RELAYSTATE of a legal link state sets that relay's link state; any
other is discarded, its source heard all the same. A relay whose silence count stands at 75 at the open frame event has
its link DOWN. After either, LINK DOWN in every watch record is whether no relay's link is UP. Where a command finds the
state, and the review after it, are the model's order (log 1). -/
def Obligations.RelayLinksDecideLinkDown : Prop :=
  (∀ (rx : Reception) (s : State) (src dst : Addr) (link : Nat), let t := s.found.hear src
    s.found.receive rx = .deliver src dst (.relaystate link) →
    (∀ l, LinkState.ofCode link = some l → exec (.relaystateReceived rx) s =
      .next ((t.modPeer src fun p => { p with link := l }).updateLink).review) ∧
    (LinkState.ofCode link = none → exec (.relaystateReceived rx) s = .next t.review)) ∧
  (∀ (a : Addr) (s : State), s.time.frameOpen = true → let t := s.atStep
    (17 ≤ a → a ≤ 20 → 75 ≤ (t.peer a).count → exec (.relaySilent a) s =
      .next ((t.modPeer a fun p => { p with link := .down }).updateLink).review) ∧
    ((a < 17 ∨ 20 < a ∨ (t.peer a).count < 75) → exec (.relaySilent a) s = .next t.review)) ∧
  (∀ (s : State) (c : Chan) (w : WatchRec), s.watchRec c = some w → ∃ w', s.updateLink.watchRec c = some w' ∧
    (w'.linkDown.value = true ↔ ∀ a, 17 ≤ a → a ≤ 20 → (s.peer a).link = .down) ∧
    (w'.linkDown.value = w.linkDown.value → w' = w) ∧
    (w'.linkDown.value ≠ w.linkDown.value → w'.linkDown.since = s.now ∧ w'.linkDown.duration = 0) ∧
    w' = { w with linkDown := w'.linkDown })

/-- BEAT_LOST, VERDICT_RECEIVED and VERDICT_SOURCE_STALE (R66, R69, R70, R71). At the open frame event BEAT LOST becomes
whether the timer is Tb or more; a new value starts its since position and duration. A peer's legal verdict of a watched
channel enters its sources at the tail under the sender's address, once, the others in their order before it, their head
gone when four of them stand; and the picture flags are then, as at VERDICT_SOURCE_STALE, whether a source no older than
125 frames speaks against the picture, and whether none that old says anything but UNKNOWN. Where a command finds the
state, and the review after it, are the model's order (log 1). -/
def Obligations.EvidenceFollowsBeatsAndVerdicts : Prop :=
  (∀ (c : Chan) (s : State), s.time.frameOpen = true → let t := s.atStep
    exec (.beatLost c) s = .next (t.modWatch c fun w =>
      { w with beatLost := if w.beatLost.value = decide (t.cfg.tb ≤ w.beatTimer) then w.beatLost
                           else ⟨decide (t.cfg.tb ≤ w.beatTimer), t.now, 0⟩ }).review ∧
    exec (.verdictSourceStale c) s = .next (t.modWatch c (WatchRec.setPicture t.rate t.now)).review) ∧
  (∀ (rx : Reception) (s : State) (src dst : Addr) (chan verdict : Nat), let t := s.found.hear src
    s.found.receive rx = .deliver src dst (.verdict chan verdict) →
    (∀ c v, chanOf chan = some c → Verdict.ofCode verdict = some v → (t.chan c).watched = true →
      exec (.verdictReceived rx) s = .next ((t.modWatch c fun w =>
        { w with sources := enterVerdict w.sources src v t.now }).modWatch c (WatchRec.setPicture t.rate t.now)).review) ∧
    ((chanOf chan = none ∨ Verdict.ofCode verdict = none ∨ ∃ c, chanOf chan = some c ∧ (t.chan c).watched = false) →
      exec (.verdictReceived rx) s = .next t.review)) ∧
  (∀ (xs : List VerdictSource) (a : Addr) (v : Verdict) (now : Pos),
    let others := xs.filter fun x => decide (x.addr ≠ a)
    (others.length < 4 → enterVerdict xs a v now = others ++ [⟨a, v, now⟩]) ∧
    (4 ≤ others.length → enterVerdict xs a v now = others.drop 1 ++ [⟨a, v, now⟩])) ∧
  (∀ (xs : List VerdictSource) (a : Addr) (v : Verdict) (now : Pos), xs.length ≤ 4 → (xs.map VerdictSource.addr).Nodup →
    let ys := enterVerdict xs a v now
    ys.length ≤ 4 ∧ (ys.map VerdictSource.addr).Nodup ∧ ys.getLast? = some ⟨a, v, now⟩ ∧
    ∀ y ∈ ys, y.addr ≠ a → y ∈ xs) ∧
  (∀ (r : Rate) (now : Pos) (w : WatchRec), let w' := w.setPicture r now
    let fresh := fun x : VerdictSource => Pos.diff r x.heardAt now ≤ 125 ∧ x.verdict ≠ .unknown
    (w'.pictureBad.value = true ↔ ∃ x ∈ w.sources, fresh x ∧ x.verdict ≠ .nominal) ∧
    (w'.pictureUnknown.value = true ↔ ∀ x ∈ w.sources, ¬fresh x) ∧
    (w'.pictureBad.value = w.pictureBad.value → w'.pictureBad = w.pictureBad) ∧
    (w'.pictureBad.value ≠ w.pictureBad.value → w'.pictureBad.since = now ∧ w'.pictureBad.duration = 0))

/-- The health state machine (R74 to R78), the evidence being what R72 reads: each state moves as the first line of its
table that holds gives, the failure condition is the disjunction (a) to (d), and the chain of one evaluation started in
any state ends in a state whose rule moves nothing (R73). -/
def Obligations.HealthFollowsItsTables : Prop :=
  ∀ (cfg : Settings) (e : Evidence),
    let bl := e.beatLost.value = true
    let mf := e.mainFault.value = true
    let pb := e.pictureBad.value = true
    let any := bl ∨ mf ∨ pb
    let failure := (bl ∧ pb) ∨ (mf ∧ e.nominal = false) ∨ (pb ∧ cfg.tp ≤ e.pictureBad.duration) ∨
      (bl ∧ cfg.tu ≤ e.beatLost.duration ∧ e.pictureUnknown = true ∧ e.linkDown = false)
    let loss := bl ∧ e.linkDown = true ∧ ¬pb
    let calm := fun f : EvFlag => f.value = false ∧ cfg.tr ≤ f.duration
    (any → healthRule cfg e .nominal = .suspect) ∧ (¬any → healthRule cfg e .nominal = .nominal) ∧
    (failure → healthRule cfg e .suspect = .failed) ∧
    (¬failure → loss → healthRule cfg e .suspect = .linkLost) ∧
    (¬failure → ¬loss → ¬any → healthRule cfg e .suspect = .nominal) ∧
    (¬failure → ¬loss → any → healthRule cfg e .suspect = .suspect) ∧
    (failure → healthRule cfg e .linkLost = .failed) ∧
    (¬failure → ¬bl → ¬any → healthRule cfg e .linkLost = .nominal) ∧
    (¬failure → ¬bl → (mf ∨ pb) → healthRule cfg e .linkLost = .suspect) ∧
    (¬failure → bl → e.linkDown = false → healthRule cfg e .linkLost = .suspect) ∧
    (¬failure → bl → e.linkDown = true → healthRule cfg e .linkLost = .linkLost) ∧
    (e.siteHeld = false → calm e.beatLost ∧ calm e.mainFault ∧ calm e.pictureBad →
      healthRule cfg e .failed = .nominal) ∧
    (e.siteHeld = false → ¬(calm e.beatLost ∧ calm e.mainFault ∧ calm e.pictureBad) →
      healthRule cfg e .failed = .failed) ∧
    (e.siteHeld = true → e.beating = true ∧ calm e.beatLost ∧ calm e.mainFault → healthRule cfg e .failed = .recovered) ∧
    (e.siteHeld = true → ¬(e.beating = true ∧ calm e.beatLost ∧ calm e.mainFault) →
      healthRule cfg e .failed = .failed) ∧
    (bl ∨ mf → healthRule cfg e .recovered = .failed) ∧ (¬(bl ∨ mf) → healthRule cfg e .recovered = .recovered) ∧
    ∀ h, healthRule cfg e (healthChain cfg e 6 h) = healthChain cfg e 6 h

/-! ### The probe analyser -/

/-- GRID_DELIVERY (R86, R88, R89, R95, R96). A delivery in another station state, for a probe that is not one of the
four or not mapped, or without exactly 144 cells, is discarded. An accepted one returns the silence count to 0. With the
lock flag off it only raises the lock-loss run, and from the third on NO SIGNAL is formed. With it on a run of 3 or more
starts the context afresh, a shorter one returns to 0, and with fewer than 16 active cells UNKNOWN is formed and the
rest left; with 16 or more the arithmetic follows and forms its verdict. A verdict equal to the one before changes
nothing more; another becomes the probe's, enters the channel's sources under this station's address at now with the
picture flags following, starts the repeat timer again, sets send pending, and is offered as a VERDICT. The arithmetic
of one grid of 16 or more active cells (R90 to R95). The mean is the sum over the count rounded down, and lies between
any bounds of the active values; a grid is flat when the cells within FL of the mean are at least 80, 90, 95 or 99 per
cent, by FP; dark and flat grids raise their runs by one, saturating at 255, and others return them to 0; a first grid
becomes the reference with its freeze run 0; a later one is compared by the count of cells that differ by more than CL,
and replaces the reference at the K-th comparison; the verdict is the first of DARK, FLAT, FROZEN and NOMINAL whose run
has reached its length; and flat and changed counts never exceed the active count. Where a command finds the state, and
the review after it, are the model's order (log 1). -/
def Obligations.GridsAreJudgedByTheRules : Prop :=
  (∀ (n : Nat) (lock : Bool) (cells : List Byte) (s : State), let t := s.found
      ((t.active = false ∨ 4 ≤ n ∨ cells.length ≠ 144 ∨ ∃ p : ProbeId, p.val = n ∧ (t.probe p).chan = none) →
        exec (.gridDelivery n lock cells) s = .next t.review) ∧
      ∀ (p : ProbeId) (c : Chan), p.val = n → t.active = true → cells.length = 144 → (t.probe p).chan = some c →
        let x := t.probe p
        let pr := (t.chan c).profile
        let run := min 255 (x.lockLoss + 1)
        let dropped := { x with silence := 0, lockLoss := run }
        let cleared := if 3 ≤ x.lockLoss then
            { x with silence := 0, reference := none, gridCount := 0, lockLoss := 0, darkRun := 0, flatRun := 0,
                     freezeRun := 0, mean := none, active := none }
          else { x with silence := 0, lockLoss := 0 }
        (lock = false → run < 3 →
          exec (.gridDelivery n lock cells) s = .next (t.modProbe p fun _ => dropped).review) ∧
        (lock = false → 3 ≤ run → exec (.gridDelivery n lock cells) s =
          .next ((t.modProbe p fun _ => dropped).formVerdict p .noSignal).review) ∧
        (lock = true → (activeCells pr cells).length < 16 → exec (.gridDelivery n lock cells) s =
          .next ((t.modProbe p fun _ => cleared).formVerdict p .unknown).review) ∧
        (lock = true → 16 ≤ (activeCells pr cells).length → exec (.gridDelivery n lock cells) s =
          .next ((t.modProbe p fun _ => cleared.arithmetic pr cells).formVerdict p
            ((cleared.arithmetic pr cells).picture pr)).review)) ∧
  (∀ (pr : Profile) (cells : List Byte) (x : Probe),
      let vs := activeCells pr cells
      let y := x.arithmetic pr cells
      let raised := fun (b : Prop) (n m : Nat) => (b → m = min 255 (n + 1)) ∧ (¬b → m = 0)
      let mean := vs.sum / vs.length
      let near := (vs.filter fun v => decide (max v mean - min v mean ≤ pr.fl)).length
      let flat := flatShare pr.fp * vs.length ≤ near * 100
      near ≤ vs.length ∧ flatShare 0 = 80 ∧ flatShare 1 = 90 ∧ flatShare 2 = 95 ∧ flatShare 3 = 99 ∧
      y.mean = some (vs.sum / vs.length) ∧ y.active = some vs.length ∧
      (∀ lo hi, vs ≠ [] → (∀ v ∈ vs, lo ≤ v ∧ v ≤ hi) → lo ≤ vs.sum / vs.length ∧ vs.sum / vs.length ≤ hi) ∧
      (x.reference = none → y.reference = some cells ∧ y.gridCount = 0 ∧ y.freezeRun = 0 ∧
        raised (vs.sum / vs.length < pr.dl) 0 y.darkRun ∧ raised flat 0 y.flatRun) ∧
      (∀ ref, x.reference = some ref →
        let changed := ((vs.zip (activeCells pr ref)).filter fun z => decide (pr.cl < max z.1 z.2 - min z.1 z.2)).length
        changed ≤ vs.length ∧
        raised (vs.sum / vs.length < pr.dl) x.darkRun y.darkRun ∧ raised flat x.flatRun y.flatRun ∧
        raised (changed < pr.cs) x.freezeRun y.freezeRun ∧
        (pr.k ≤ x.gridCount + 1 → y.reference = some cells ∧ y.gridCount = 0) ∧
        (x.gridCount + 1 < pr.k → y.reference = some ref ∧ y.gridCount = x.gridCount + 1)) ∧
      (y.picture pr = if pr.nd ≤ y.darkRun then .dark else if pr.nf ≤ y.flatRun then .flat
        else if pr.nz ≤ y.freezeRun then .frozen else .nominal) ∧
      y.verdict = x.verdict ∧ y.lockLoss = x.lockLoss ∧ y.silence = x.silence) ∧
  (∀ (s : State) (p : ProbeId) (c : Chan) (v : Verdict), (s.probe p).chan = some c →
      ((s.probe p).verdict = v → s.formVerdict p v = s) ∧
      ((s.probe p).verdict ≠ v → s.formVerdict p v = ((((s.modProbe p fun x => { x with verdict := v }).modWatch c fun w =>
          { w with sources := enterVerdict w.sources s.me v s.now }).modWatch c (WatchRec.setPicture s.rate s.now)).modProbe p
            fun x => { x with repeatTimer := 0, sendPending := true }).offerVerdict p))

/-- PROBE_SILENT, VERDICT_REPEAT and VERDICT_OFFER_RETRY at the open frame event (R87, R96, R99, R183). A mapped probe
whose silence count stands at 12 starts afresh and UNKNOWN is formed. A mapped probe whose repeat timer stands at 50
gives its verdict again: it enters the own source, the timer returns to 0 and send pending is set, and a VERDICT is
offered. While send pending is set, the offer replaces a waiting VERDICT of the channel, or takes a free class 1 entry,
and only then send pending clears; with neither, it waits. At a frame event a held BEACON and the pending VERDICTs of
the lower probes are offered before it. Where a command finds the state, and the review after it, are the model's order
(log 1). -/
def Obligations.ProbesRepeatAndFallSilent : Prop :=
  ∀ (p : ProbeId) (s : State), s.time.frameOpen = true → let t := s.atStep
    let x := t.probe p
    let u := forProbes (fun q u => if q < p then u.putVerdict q else u)
      (if t.active && t.line.beaconHeld then t.offerBeacon else t)
    let sent := fun u : State => u.modProbe p fun x => { x with sendPending := false }
    (x.chan.isSome = true → 12 ≤ x.silence → exec (.probeSilent p) s = .next ((t.modProbe p fun x =>
      { x with reference := none, gridCount := 0, lockLoss := 0, darkRun := 0, flatRun := 0, freezeRun := 0, mean := none,
               active := none }).formVerdict p .unknown).review) ∧
    ((x.chan = none ∨ x.silence < 12) → exec (.probeSilent p) s = .next t.review) ∧
    (∀ c, x.chan = some c → 50 ≤ x.repeatTimer → exec (.verdictRepeat p) s =
      .next (((t.verdictEnters c t.me x.verdict).modProbe p fun x =>
        { x with repeatTimer := 0, sendPending := true }).offerVerdict p).review) ∧
    ((x.chan = none ∨ x.repeatTimer < 50) → exec (.verdictRepeat p) s = .next t.review) ∧
    (∀ c, x.chan = some c → x.sendPending = true →
      (u.waiting (State.isVerdictOf c) = true → exec (.verdictOfferRetry p) s =
        .next (sent (u.replaceWaiting (State.isVerdictOf c) (.verdict c x.verdict))).review) ∧
      (u.waiting (State.isVerdictOf c) = false → u.hasRoom .one = true →
        exec (.verdictOfferRetry p) s = .next (sent (u.enqueue (.verdict c x.verdict))).review) ∧
      (u.waiting (State.isVerdictOf c) = false → u.hasRoom .one = false → exec (.verdictOfferRetry p) s = .next u.review)) ∧
    ((x.chan = none ∨ x.sendPending = false) → exec (.verdictOfferRetry p) s = .next u.review) ∧
    ((t.line.beaconHeld = false ∧ ∀ q, q < p → (t.probe q).sendPending = false) → u = t)

/-! ### Peers -/

/-- BEACON_OFFERED, BEACON_OFFER_RETRY and BEACON_RECEIVED (R103, R104, R183). At the open frame event an active station
whose beacon timer stands at 12 starts it again and offers a BEACON, and one held for want of room is offered again: it
replaces a waiting BEACON, takes a free class 1 entry, or is held. A BEACON heard with a legal state, time and reference
fills its sender's record, its free slot count and contest channel as carried, which is the model's reading (log 14);
then each of its entries in turn moves the view as the table gives; then each channel that named the sender and is not
listed is cleared, its health begun afresh. The table: with no holder named and an epoch at or above the channel's, or
another peer named under a lower holder epoch, the sender becomes the holder under that epoch with its claim unknown,
the orphan flag and source cleared, which is the model's choice (log 43), and a CURRENT replica the main site has edited
under that epoch is STALE with cause EPOCH; the contest then moves as by a TAKE accepted (R117), a watched channel's
IDLE, CLAIMING or DEFERRED one to DEFERRED with no rival, a CLAIMING one's claim and window gone, and a TAKING or TAKEN
one unmoved; this station named, a duplicate is recorded when the entry's epoch is higher, or equal with the better
claim, or the lower address where a claim is unknown; the sender named, or a higher standing, changes nothing. One of an
illegal state only counts as hearing its sender. Where a command finds the state, and the review after it, are the
model's order (log 1). -/
def Obligations.BeaconsAreOfferedAndJudged : Prop :=
  (∀ s : State, s.time.frameOpen = true → let t := s.atStep
    let due : State := { t with line := { t.line with beaconTimer := 0 } }
    (t.active = true → 12 ≤ t.line.beaconTimer → exec .beaconOffered s = .next due.offerBeacon.review) ∧
    ((t.active = false ∨ t.line.beaconTimer < 12) → exec .beaconOffered s = .next t.review) ∧
    (t.active = true → t.line.beaconHeld = true → exec .beaconOfferRetry s = .next t.offerBeacon.review) ∧
    ((t.active = false ∨ t.line.beaconHeld = false) → exec .beaconOfferRetry s = .next t.review)) ∧
  (∀ s : State,
    (s.offerBeacon.line.beaconHeld = true ↔ s.waiting State.isBeacon = false ∧ s.hasRoom .one = false) ∧
    (s.offerBeacon.line.beaconHeld = false → ∃ e ∈ s.offerBeacon.line.q1, e.msg = .beacon) ∧
    s.offerBeacon.line.q0 = s.line.q0 ∧ s.offerBeacon.line.q2 = s.line.q2) ∧
  (∀ (rx : Reception) (s : State) (src dst : Addr) (b : RawBeacon), let t := s.found.hear src
    s.found.receive rx = .deliver src dst (.beacon b) →
    exec (.beaconReceived rx) s = .next (t.beaconArrives src b).review ∧
    ((b.station ≠ 2 ∧ b.station ≠ 3 ∧ b.station ≠ 4) → t.beaconArrives src b = t) ∧
    (TimeState.ofCode b.time = none → t.beaconArrives src b = t) ∧
    (RefState.ofCode b.ref = none → t.beaconArrives src b = t)) ∧
  (∀ (s : State) (a : Addr) (b : RawBeacon) (st : StationState) (tm : TimeState) (rf : RefState),
    StationState.ofCode b.station = some st → st = .listening ∨ st = .ready ∨ st = .degraded →
    TimeState.ofCode b.time = some tm → RefState.ofCode b.ref = some rf →
    let listed := b.onAir.filterMap fun x => (chanOf x.1).map fun c => (c, x.2)
    let filled := s.modPeer a fun p => { p with station := some st, time := some tm, freeSlots := b.freeSlots,
                                                onAir := listed, current := b.current, contest := b.contest }
    let judged := listed.foldl (fun u x => u.beaconEntry a x.1 x.2) filled
    let u := s.beaconArrives a b
    u = forChans (fun c u => if (u.view c).holder = some a ∧ ∀ x ∈ listed, x.1 ≠ c then u.clearHolder c else u) judged ∧
    u.peers = filled.peers ∧
    (∀ c, (∀ x ∈ listed, x.1 ≠ c) → (u.view c).holder ≠ some a ∧
      ((s.view c).holder = some a → (u.view c).holder = none ∧ (u.view c).holderClaim = none ∧
        (u.view c).holderEpoch = (s.view c).holderEpoch ∧ (u.view c).orphanSource = none))) ∧
  (∀ (s : State) (a : Addr) (c : Chan) (e : Nat),
    ((s.view c).holder = some a → s.beaconEntry a c e = s) ∧
    ((s.view c).holder = none → e < (s.chan c).epoch → s.beaconEntry a c e = s) ∧
    (∀ q, (s.view c).holder = some q → q ≠ a → q ≠ s.me → e ≤ (s.view c).holderEpoch → s.beaconEntry a c e = s) ∧
    (((s.view c).holder = none ∧ (s.chan c).epoch ≤ e ∨
        ∃ q, (s.view c).holder = some q ∧ q ≠ a ∧ q ≠ s.me ∧ (s.view c).holderEpoch < e) →
      let t := s.beaconEntry a c e
      (t.view c).holder = some a ∧ (t.view c).holderEpoch = e ∧ (t.view c).holderClaim = none ∧
      (t.view c).orphanSource = none ∧ (∀ w, t.watchRec c = some w → w.orphan = false) ∧
      (t.chan c).authority = .site ∧ (t.chan c).epoch = e ∧ (t.chan c).nextSeq = 0 ∧
      (e = (s.chan c).epoch → (s.chan c).authority = .main → (s.chan c).replica = .current → (s.chan c).shadow = none →
        (t.chan c).replica = .stale ∧ (t.chan c).cause = some .epoch) ∧
      (∃ (u : State) (rv : Rival), t = u.contestOnTake c true rv ∧ (u.chan c).watched = (s.chan c).watched ∧
        (u.view c).contest = (s.view c).contest ∧ (u.view c).own = (s.view c).own ∧
        (u.view c).serial = (s.view c).serial ∧ (u.view c).rival = (s.view c).rival ∧ u.slots = s.slots) ∧
      ((s.chan c).watched = true →
        ((s.view c).contest = .idle ∨ (s.view c).contest = .claiming ∨ (s.view c).contest = .deferred →
          (t.view c).contest = .deferred ∧ (t.view c).rival = none) ∧
        ((s.view c).contest = .claiming → (t.view c).own = none ∧ (t.view c).window = none) ∧
        ((s.view c).contest = .taking ∨ (s.view c).contest = .taken → (t.view c).contest = (s.view c).contest)) ∧
      ((s.chan c).watched = false → (t.view c).contest = (s.view c).contest)) ∧
    ((s.view c).holder = some s.me → a ≠ s.me →
      let known := (s.view c).rival.bind fun rv => if rv.addr = a then some rv.claim else none
      let better := (∃ x own, known = some x ∧ (s.view c).holderClaim = some own ∧
          WholeClaim.better ⟨a, x⟩ ⟨s.me, own⟩ = true) ∨
        ((known = none ∨ (s.view c).holderClaim = none) ∧ a < s.me)
      let wins := (s.view c).holderEpoch < e ∨ (e = (s.view c).holderEpoch ∧ better)
      (wins → s.beaconEntry a c e = s.recordDuplicate c ⟨a, e, known⟩) ∧ (¬wins → s.beaconEntry a c e = s)))

/-! ### Claims -/

/-- PEER_SILENT (R105): at the open frame event a present standby station whose silence count stands at 36 is absent
from then on, with its on-air list, CURRENT set and contest emptied, and the view of no channel names it; every channel
that it was named for is an orphan with it as the source, its claim unknown and its holder epoch kept. Any other address
changes nothing. DEAD_WINNER_EXCLUSION, EXCLUSION_EXPIRY and INELIGIBLE_EXPIRY at the open frame event (R121, R125). A
DEFERRED contest with no holder named, whose best rival was heard Tw + 12 frames ago or more, is IDLE with no rival, the
rival excluded until 250 frames from now, and the engine looks at once; else it waits. An exclusion replaces one of the
same rival, and with four of others held the first goes; the list stands in the order of the until positions, so that
the first is the earliest. Exclusions whose until position now has reached are removed, and an ineligibility that now
has reached is cleared; others stand. A station heard (R102, R105) has its count at 0 and is present; one that was
absent has every orphan flag it is the source of cleared, each with the test of R81, in channel order, the model's order
(log 1), and nothing else changes. Where a command finds the state, and the review after it, are the model's order (log
1). -/
def Obligations.SilentPeersAndExclusionsRunOut : Prop :=
  (∀ (a : Addr) (s : State), s.time.frameOpen = true → let t := s.atStep
      ((a < 1 ∨ 16 < a ∨ (t.peer a).present = false ∨ (t.peer a).count < 36) →
        exec (.peerSilent a) s = .next t.review) ∧
      (1 ≤ a → a ≤ 16 → (t.peer a).present = true → 36 ≤ (t.peer a).count →
        exec (.peerSilent a) s = .next (t.peerGone a).review ∧
        let u := t.peerGone a
        (u.peer a).present = false ∧ (u.peer a).onAir = [] ∧ (u.peer a).current = 0 ∧ (u.peer a).contest = 0 ∧
        ∀ c, ((t.view c).holder = some a → (u.view c).holder = none ∧ (u.view c).orphanSource = some a ∧
            (u.view c).holderEpoch = (t.view c).holderEpoch ∧ (u.view c).holderClaim = none ∧
            ∀ w, u.watchRec c = some w → w.orphan = true) ∧
          ((t.view c).holder ≠ some a → u.view c = t.view c))) ∧
  (∀ (c : Chan) (s : State), s.time.frameOpen = true → let t := s.atStep
      let v := t.view c
      (∀ rv, v.contest = .deferred → v.holder = none → v.rival = some rv →
        (((t.cfg.tw + 12 : Nat) : Int) ≤ Pos.diff t.rate rv.heardAt t.now →
          exec (.deadWinnerExclusion c) s = .next (t.modView c fun v => { v with
            exclusions := addExclusion t.rate v.exclusions (rv.addr, t.now.add t.rate 250), rival := none,
            contest := .idle }).look.review) ∧
        (Pos.diff t.rate rv.heardAt t.now < ((t.cfg.tw + 12 : Nat) : Int) →
          exec (.deadWinnerExclusion c) s = .next t.review)) ∧
      ((v.contest ≠ .deferred ∨ v.holder ≠ none ∨ v.rival = none) → exec (.deadWinnerExclusion c) s = .next t.review) ∧
      exec (.exclusionExpiry c) s = .next (t.modView c fun v => { v with
        exclusions := v.exclusions.filter fun x => decide (Pos.diff t.rate x.2 t.now < 0) }).review ∧
      (∀ p, v.ineligible = some p → 0 ≤ Pos.diff t.rate p t.now →
        exec (.ineligibleExpiry c) s = .next (t.modView c fun v => { v with ineligible := none }).review) ∧
      ((∀ p, v.ineligible = some p → Pos.diff t.rate p t.now < 0) →
        exec (.ineligibleExpiry c) s = .next t.review)) ∧
  (∀ (r : Rate) (xs : List (Addr × Pos)) (x : Addr × Pos),
      let others := xs.filter fun y => decide (y.1 ≠ x.1)
      ∃ as bs, as ++ bs = (if others.length < 4 then others else others.drop 1) ∧
        addExclusion r xs x = as ++ x :: bs ∧ (∀ y ∈ as, Pos.before r x.2 y.2 = false) ∧
        ∀ y, bs.head? = some y → Pos.before r x.2 y.2 = true) ∧
  (∀ (s : State) (a : Addr), 1 ≤ a → a ≤ 30 → let u := s.hear a
      let t := s.modPeer a fun p => { p with heard := true, count := 0, present := true }
      u.peer a = { s.peer a with heard := true, count := 0, present := true } ∧ (∀ b, b ≠ a → u.peer b = s.peer b) ∧
      ((s.peer a).present = true → u = t) ∧
      ((s.peer a).present = false → u = (List.finRange 32).foldl
        (fun t c => if (t.view c).orphanSource = some a then (t.clearOrphan c).authorityTest c else t) t) ∧
      (∀ c, (s.peer a).present = false → (s.view c).orphanSource = some a →
        u.view c = { s.view c with orphanSource := none } ∧ ∀ w, u.watchRec c = some w → w.orphan = false) ∧
      (∀ c, ((s.peer a).present = true ∨ (s.view c).orphanSource ≠ some a) →
        u.view c = s.view c ∧ u.watchRec c = s.watchRec c))

/-- Claims are compared as whole claims (R107): x is better exactly when it is forced and y is not, when both are forced
and its address is lower, or when both are unforced and its weight is lower. No two claims are each better than the
other. Where each weight ends in its station's address, two unforced claims from different stations never have equal
weights, and of two claims from different stations one is better. -/
def Obligations.ClaimsAreComparedWhole : Prop :=
  ∀ x y : WholeClaim,
    (x.better y = true ↔
      (x.claim.forced = true ∧ y.claim.forced = false) ∨
      (x.claim.forced = true ∧ y.claim.forced = true ∧ x.addr < y.addr) ∨
      (x.claim.forced = false ∧ y.claim.forced = false ∧ x.claim.weight < y.claim.weight)) ∧
    ¬(x.better y = true ∧ y.better x = true) ∧
    (x.addr ≠ y.addr → x.claim.weight % 100 = x.addr → y.claim.weight % 100 = y.addr →
      (x.claim.forced = false → y.claim.forced = false → x.claim.weight ≠ y.claim.weight) ∧
      (x.better y = true ∨ y.better x = true))

/-- FORCE_TAKE (R122, R194), outside a release phase and directed to the station: refused in the order NOT WATCHED, ON
AIR ELSEWHERE, NOT CURRENT, TIME UNSET, NOT READY, NO SLOT. With no contest current and room in class 0 a forced claim
is started; with no room, or another channel's contest current, the channel is latched, or BUSY when the latch is taken;
a CLAIMING contest of the channel takes back its unsent CLAIM and sends a forced one, its window to start afresh, or is
BUSY with no room; a TAKING one is BUSY. A claim started so reserves the lowest FREE slot for the channel, makes its
contest CLAIMING and current with no window and no rival, and puts its CLAIM at the tail of class 0 (R114). That the
room for a forced CLAIM is looked for after the unsent one is taken back is the model's reading (log 23). The weight of
a claim started now (R111): 1,000 for each slot that is not FREE, 100 for each place down the channel's preference list,
4 when the station is not in its first four, and the address. With an address of a standby station and a FREE slot it
lies from 1 to 7,416, and its last two digits are the address. The serial in a CLAIM is the model's own (log 5). Where a
command finds the state, and the review after it, are the model's order (log 1). -/
def Obligations.ForceTakeStartsAForcedClaim : Prop :=
  ((∀ (rx : Reception) (s : State) (src dst : Addr) (tag : Nat) (c : Chan) (bs : List Byte), let t := s.found.hear src
      s.found.receive rx = .deliver src dst (.command tag 5 bs) → readCommand 5 bs = some (.forceTake c) → dst ≠ 0 →
      t.loader.releasePhase = none →
      let refused := fun code => exec (.forceTake rx) s = .next (t.answer src tag code []).review
      let watched := (t.chan c).watched = true
      let clear := (t.view c).holder = none
      let current := (t.chan c).replica = .current
      let set := t.time.timeState = .set
      let ready := t.loader.station = .ready
      let passes := watched ∧ clear ∧ current ∧ set ∧ ready
      let latched : State := { t with claims := { t.claims with latch := some c } }
      (¬watched → refused .notWatched) ∧ (watched → ¬clear → refused .onAirElsewhere) ∧
      (watched → clear → ¬current → refused .notCurrent) ∧ (watched → clear → current → ¬set → refused .timeUnset) ∧
      (watched → clear → current → set → ¬ready → refused .notReady) ∧
      (passes → t.firstFree = none → t.claims.current ≠ some c → refused .noSlot) ∧
      (passes → t.firstFree ≠ none → t.claims.current = none → t.hasRoom .zero = true →
        exec (.forceTake rx) s = .next ((t.startClaim c true).answer src tag .done []).review) ∧
      (passes → t.firstFree ≠ none → (t.claims.current = none ∧ t.hasRoom .zero = false ∨
          ∃ d, t.claims.current = some d ∧ d ≠ c) →
        (t.claims.latch = none → exec (.forceTake rx) s = .next (latched.answer src tag .done []).review) ∧
        (t.claims.latch ≠ none → refused .busy)) ∧
      (passes → t.claims.current = some c → (t.view c).contest ≠ .claiming → refused .busy) ∧
      (∀ own, passes → t.claims.current = some c → (t.view c).contest = .claiming → (t.view c).own = some own →
        let u := t.takeBack .zero (State.isClaim (t.view c).serial)
        let k := t.claims.serial + 1
        (u.hasRoom .zero = false → refused .busy) ∧
        (u.hasRoom .zero = true → exec (.forceTake rx) s = .next
          (((({ u with claims := { u.claims with serial := k } } : State).modView c fun v =>
            { v with own := some { own with forced := true }, serial := k, window := none }).enqueue
              (.claim c { own with forced := true } k)).answer src tag .done []).review))) ∧
    (∀ (s : State) (c : Chan) (forced : Bool) (n : SlotId), s.firstFree = some n →
      let u := s.startClaim c forced
      u.slot n = { s.slot n with state := .reserved, chan := some c } ∧ (∀ m, m ≠ n → u.slot m = s.slot m) ∧
      (∀ m, m < n → (s.slot m).state ≠ .free) ∧ (s.slot n).state = .free ∧
      (u.view c).contest = .claiming ∧ (u.view c).own = some ⟨forced, s.weight c⟩ ∧ (u.view c).window = none ∧
      (u.view c).rival = none ∧ (∀ d, d ≠ c → u.view d = s.view d) ∧ u.claims.current = some c ∧
      u.claims.latch = s.claims.latch ∧
      (∃ k, u.line.q0 = s.line.q0 ++ [⟨.claim c ⟨forced, s.weight c⟩ k, false⟩]) ∧ u.chans = s.chans ∧ u.watch = s.watch)) ∧
  (∀ (s : State) (c : Chan),
      (∃ b r, s.weight c = 1000 * b + 100 * r + s.me ∧ r ≤ 4 ∧
        b = ((List.finRange 8).filter fun n => decide ((s.slot n).state ≠ .free)).length ∧
        (∀ i, i < 4 → (s.chan c).profile.preference[i]? = some s.me →
          (∀ j, j < i → (s.chan c).profile.preference[j]? ≠ some s.me) → r = i) ∧
        (s.me ∉ (s.chan c).profile.preference → r = 4)) ∧
      (1 ≤ s.me → s.me ≤ 16 → (∃ n, (s.slot n).state = .free) →
        1 ≤ s.weight c ∧ s.weight c ≤ 7416 ∧ s.weight c % 100 = s.me))

/-- TAKE_HEARD (R108, R117, R124). A TAKE of an illegal channel or flag only counts as hearing its sender. The judgement
is the table's: with no holder named, accepted at an epoch at or above the channel's; its sender named, not; another
peer named, accepted under a higher epoch than the holder's, or an equal one with the better claim or the holder's
unknown; this station named, a duplicate on those terms. An accepted one makes its sender holder under its epoch and
claim, the channel site-held at that epoch and sequence 0, and a CURRENT replica with edits applied under that same
epoch STALE with cause DIVERGED. How a TAKE heard moves the contest of a watched channel (R117): an accepted one makes
an IDLE contest DEFERRED and a DEFERRED one wait with no best rival; either way a CLAIMING one is given up for DEFERRED,
its unsent CLAIM taken back and its reserved slot FREE, with the sender as best rival when the TAKE was not accepted,
and the engine looks at once; a TAKING or TAKEN one is unmoved. A duplicate is recorded where none is, and in place of
one of a lower epoch, or of the same epoch and a worse claim, or a higher address where a claim is unknown (R124). Where
a command finds the state, and the review after it, are the model's order (log 1). -/
def Obligations.TakesAreJudgedAgainstTheView : Prop :=
  (∀ (rx : Reception) (s : State) (src dst : Addr) (chan weight forced epoch : Nat), let t := s.found.hear src
    s.found.receive rx = .deliver src dst (.take chan weight forced epoch) →
    ((chanOf chan = none ∨ flagOf forced = none) → exec (.takeHeard rx) s = .next t.review) ∧
    (∀ c f, chanOf chan = some c → flagOf forced = some f →
      let k : Claim := ⟨f, weight⟩
      let verdict := judgeTake t.me (t.view c) (t.chan c).epoch src epoch k
      (verdict = .accepted → exec (.takeHeard rx) s =
        .next ((t.acceptTake c src epoch (some k)).contestOnTake c true ⟨src, k, t.now⟩).review) ∧
      (verdict = .notAccepted → exec (.takeHeard rx) s = .next (t.contestOnTake c false ⟨src, k, t.now⟩).review) ∧
      (verdict = .duplicate → exec (.takeHeard rx) s = .next (t.recordDuplicate c ⟨src, epoch, some k⟩).review))) ∧
  (∀ (me : Addr) (v : View) (e : Nat) (p : Addr) (t : Nat) (k : Claim),
    (v.holder = none → judgeTake me v e p t k = if e ≤ t then .accepted else .notAccepted) ∧
    (v.holder = some p → judgeTake me v e p t k = .notAccepted) ∧
    (∀ q, v.holder = some q → q ≠ p →
      let wins := v.holderEpoch < t ∨ (t = v.holderEpoch ∧
        ∀ hc, v.holderClaim = some hc → WholeClaim.better ⟨p, k⟩ ⟨q, hc⟩ = true)
      (wins → judgeTake me v e p t k = if q = me then .duplicate else .accepted) ∧
      (¬wins → judgeTake me v e p t k = .notAccepted))) ∧
  (∀ (s : State) (c : Chan) (a : Addr) (epoch : Nat) (k : Option Claim), let u := s.acceptTake c a epoch k
    (u.view c).holder = some a ∧ (u.view c).holderEpoch = epoch ∧ (u.view c).holderClaim = k ∧
    (u.view c).orphanSource = none ∧ (u.chan c).authority = .site ∧ (u.chan c).epoch = epoch ∧ (u.chan c).nextSeq = 0 ∧
    ((s.chan c).replica = .current → (s.chan c).shadow = none →
      (epoch = (s.chan c).epoch → (s.chan c).nextSeq ≠ 0 →
        (u.chan c).replica = .stale ∧ (u.chan c).cause = some .diverged) ∧
      ((epoch ≠ (s.chan c).epoch ∨ (s.chan c).nextSeq = 0) → (u.chan c).replica = .current))) ∧
  (∀ (s : State) (c : Chan) (rv : Rival),
    let set := fun (k : Contest) => s.modView c fun v => { v with contest := k, rival := none }
    ((s.chan c).watched = false → ∀ b, s.contestOnTake c b rv = s) ∧
    ((s.chan c).watched = true →
      ((s.view c).contest = .idle ∨ (s.view c).contest = .deferred →
        s.contestOnTake c true rv = set .deferred ∧ s.contestOnTake c false rv = s) ∧
      ((s.view c).contest = .claiming → s.contestOnTake c true rv = (s.endClaim c .deferred none).look ∧
        s.contestOnTake c false rv = (s.endClaim c .deferred (some rv)).look) ∧
      ((s.view c).contest = .taking ∨ (s.view c).contest = .taken → ∀ b, s.contestOnTake c b rv = s)) ∧
    (∀ k r, let u := s.endClaim c k r
      u.view c = { s.view c with contest := k, own := none, window := none, rival := r } ∧
      (∀ d, d ≠ c → u.view d = s.view d) ∧ u.claims.current = none ∧
      u.line.q0 = s.line.q0.filter (fun e => e.begun || !State.isClaim (s.view c).serial e.msg) ∧
      (∀ n, (s.slot n).state = .reserved → (s.slot n).chan = some c →
        (∀ m, m < n → ¬((s.slot m).state = .reserved ∧ (s.slot m).chan = some c)) →
        u.slot n = { s.slot n with state := .free, chan := none }))) ∧
  (∀ (s : State) (c : Chan) (d : Duplicate), let u := s.recordDuplicate c d
    ((s.view c).duplicate = none → (u.view c).duplicate = some d) ∧
    (∀ old, (s.view c).duplicate = some old →
      let better := old.epoch < d.epoch ∨ (d.epoch = old.epoch ∧
        ((∃ x y, d.claim = some x ∧ old.claim = some y ∧ WholeClaim.better ⟨d.addr, x⟩ ⟨old.addr, y⟩ = true) ∨
         ((d.claim = none ∨ old.claim = none) ∧ d.addr < old.addr)))
      (better → (u.view c).duplicate = some d) ∧ (¬better → (u.view c).duplicate = some old)) ∧
    u = s.modView c fun v => { v with duplicate := (u.view c).duplicate })

/-- CLAIM_HEARD and CLAIM_ECHO (R115, R116). A CLAIM of an illegal channel or flag, of a channel not watched, or of an
excluded station, only counts as hearing its sender. An IDLE contest with no holder named defers to it; a CLAIMING one
defers to a better claim, giving up its own; a DEFERRED one takes it as best rival when it has none or a worse one; all
else is unmoved. The echo of the latest CLAIM of a CLAIMING contest starts its window at 0, and that of any other only
leaves the queue. Which CLAIM is the latest is told by the model's own serial (log 5). Where a command finds the state,
and the review after it, are the model's order (log 1). -/
def Obligations.ClaimsHeardAndEchoedMoveTheContest : Prop :=
  (∀ (rx : Reception) (s : State) (src dst : Addr) (chan weight forced : Nat), let t := s.found.hear src
    s.found.receive rx = .deliver src dst (.claim chan weight forced) →
    ((chanOf chan = none ∨ flagOf forced = none) → exec (.claimHeard rx) s = .next t.review) ∧
    (∀ c f, chanOf chan = some c → flagOf forced = some f →
      let v := t.view c
      let k : WholeClaim := ⟨src, ⟨f, weight⟩⟩
      let rival : Rival := ⟨src, ⟨f, weight⟩, t.now⟩
      let free := (t.chan c).watched = true ∧ ∀ x ∈ v.exclusions, x.1 ≠ src
      let deferred := fun u : State => u.modView c fun v => { v with contest := .deferred, rival := some rival }
      (¬free → exec (.claimHeard rx) s = .next t.review) ∧
      (free → v.contest = .idle → v.holder = none → exec (.claimHeard rx) s = .next (deferred t).review) ∧
      (free → v.contest = .idle → v.holder ≠ none → exec (.claimHeard rx) s = .next t.review) ∧
      (∀ own, free → v.contest = .claiming → v.own = some own → k.better ⟨t.me, own⟩ = true →
        exec (.claimHeard rx) s = .next (t.endClaim c .deferred (some rival)).look.review) ∧
      (∀ own, free → v.contest = .claiming → v.own = some own → k.better ⟨t.me, own⟩ = false →
        exec (.claimHeard rx) s = .next t.review) ∧
      (free → v.contest = .deferred → (∀ old, v.rival = some old → k.better ⟨old.addr, old.claim⟩ = true) →
        exec (.claimHeard rx) s = .next (deferred t).review) ∧
      (∀ old, free → v.contest = .deferred → v.rival = some old → k.better ⟨old.addr, old.claim⟩ = false →
        exec (.claimHeard rx) s = .next t.review) ∧
      (v.contest = .taking ∨ v.contest = .taken → exec (.claimHeard rx) s = .next t.review))) ∧
  (∀ (s : State) (c : Chan) (k : Claim) (serial : Nat), let t := s.found
    t.sendingHead (fun m => decide (m.kind = .claim)) = some (.claim c k serial) →
    let u := t.leaveHead
    (((u.view c).contest = .claiming ∧ (u.view c).serial = serial) →
      exec .claimEcho s = .next (u.modView c fun v => { v with window := some 0 }).review) ∧
    (¬((u.view c).contest = .claiming ∧ (u.view c).serial = serial) → exec .claimEcho s = .next u.review))

/-- CLAIM_WINDOW_EXPIRY, TAKE_OFFER_RETRY and PENDING_FORCE_LATCH_RUN at the open frame event (R118, R122, R123). The
TAKE of a CLAIMING contest whose window has reached Tw is queued with its own claim and the channel's epoch plus one,
the contest then TAKING, when class 0 has room behind what already waits for it; with none only those offers are made,
and with a younger window nothing. The latch runs when no contest is current and no release phase runs: a channel that
may be claimed starts a forced claim when class 0 has room behind the outbox and the cancels, which go first (R183), and
else stays latched, and one that may not leaves the latch empty. A channel may be claimed in a READY station with its
time SET, the channel CURRENT, a slot FREE, no holder named and no contest current (R112), and with no release phase
running (R203). That a latch that finds class 0 full stays is the model's reading (log 23). Where a command finds the
state, and the review after it, are the model's order (log 1). -/
def Obligations.WindowsAndLatchRunOut : Prop :=
  (∀ s : State, s.time.frameOpen = true → let t := s.atStep
    (∀ c w own, t.claims.current = some c → (t.view c).contest = .claiming → (t.view c).window = some w →
      (t.view c).own = some own →
      let u := t.offerCancels
      (t.cfg.tw ≤ w → u.hasRoom .zero = true →
        let taken := (u.modView c fun v => { v with contest := .taking }).enqueue
          (.take c own (min 4294967295 ((t.chan c).epoch + 1)))
        exec .claimWindowExpiry s = .next taken.review ∧ exec .takeOfferRetry s = .next taken.review) ∧
      (t.cfg.tw ≤ w → u.hasRoom .zero = false →
        exec .claimWindowExpiry s = .next u.review ∧ exec .takeOfferRetry s = .next u.review) ∧
      (w < t.cfg.tw → exec .claimWindowExpiry s = .next t.review ∧ exec .takeOfferRetry s = .next t.review)) ∧
    ((∀ c, t.claims.current = some c → (t.view c).contest ≠ .claiming ∨ (t.view c).window = none ∨ (t.view c).own = none) →
      exec .claimWindowExpiry s = .next t.review ∧ exec .takeOfferRetry s = .next t.review) ∧
    (∀ c, t.claims.current = none → t.loader.releasePhase = none → t.claims.latch = some c →
      let u := t.offerCancels
      (t.mayClaim c = true → u.hasRoom .zero = true → exec .pendingForceLatchRun s =
        .next ((({ u with claims := { u.claims with latch := none } } : State).startClaim c true).review)) ∧
      (t.mayClaim c = true → u.hasRoom .zero = false → exec .pendingForceLatchRun s = .next u.review) ∧
      (t.mayClaim c = false → exec .pendingForceLatchRun s =
        .next ({ t with claims := { t.claims with latch := none } } : State).review)) ∧
    ((t.claims.current ≠ none ∨ t.loader.releasePhase ≠ none ∨ t.claims.latch = none) →
      exec .pendingForceLatchRun s = .next t.review)) ∧
  (∀ (s : State) (c : Chan), s.mayClaim c = true ↔
    s.loader.station = .ready ∧ s.time.timeState = .set ∧ (s.chan c).replica = .current ∧
    (∃ n, (s.slot n).state = .free) ∧ (s.view c).holder = none ∧ s.claims.current = none ∧
    s.loader.releasePhase = none)

/-- TAKE_ECHO (R119, R127, R137). The echo of the TAKE of a TAKING contest whose judgement accepts it makes this station
the holder with the TAKE's epoch and claim, the contest TAKEN, and the reserved slot JOINING with the planner's plan at
now plus the takeover lead under that epoch, and logs a TAKE entry that names its event; else the contest is DEFERRED
and the reserved slot FREE. Either way no contest is current as the next look begins. In another contest state the echo
only leaves the queue. The plan is made when a BEAT anchor grown too old has gone (R127, R128), from the list at the
walk's starting point on: the anchor event, or with no anchor the first event that is not past; its basis says which.
Where a command finds the state, and the review after it, are the model's order (log 1). -/
def Obligations.TakeEchoMakesTheHolder : Prop :=
  (∀ (s : State) (c : Chan) (k : Claim) (epoch : Nat),
    s.found.sendingHead (fun m => decide (m.kind = .take)) = some (.take c k epoch) →
    let t := s.found.leaveHead
    let verdict := judgeTake t.me (t.view c) (t.chan c).epoch t.me epoch k
    ((t.view c).contest ≠ .taking → exec .takeEcho s = .next t.review) ∧
    ((t.view c).contest = .taking → verdict ≠ .accepted →
      let u := ((t.freeReserved c).modView c fun v =>
        { v with contest := .deferred, own := none, window := none, rival := none })
      exec .takeEcho s = .next ({ u with claims := { u.claims with current := none } } : State).look.review) ∧
    ((t.view c).contest = .taking → verdict = .accepted →
      let h := (t.acceptTake c t.me epoch (some k)).modView c fun v => { v with contest := .taken, window := none }
      let u := h.joinSchedule c epoch
      exec .takeEcho s = .next ({ u with claims := { u.claims with current := none } } : State).look.review ∧
      (u.view c).holder = some t.me ∧ (u.view c).contest = .taken ∧ (u.view c).holderEpoch = epoch ∧
      (u.view c).holderClaim = some k ∧
      let p := (h.expireAnchor c).planFor c
      p.join = t.now.add t.rate t.cfg.lead ∧
      ∀ n, (t.slot n).state = .reserved → (t.slot n).chan = some c →
        (∀ m, m < n → ¬((t.slot m).state = .reserved ∧ (t.slot m).chan = some c)) →
        (u.slot n).state = .joining ∧ (u.slot n).chan = some c ∧ (u.slot n).epoch = some epoch ∧
        (u.slot n).joinOwed = true ∧
        (u.slot n).join = some p ∧
        ∃ e, u.log.getLast? = some e ∧ e.kind = .take ∧ e.slot = some n ∧ e.chan = some c ∧ e.pos = t.now ∧
          e.event = p.event ∧ e.lateness = none)) ∧
  ∀ (s : State) (c : Chan),
    (∃ basis, s.planFor c = makePlan s.rate s.cfg basis (s.chan c).profile.slate (s.now.add s.rate s.cfg.lead)
        (s.chan c).fromStart ∧ (basis = .anchored ↔ (s.chan c).anchor ≠ none)) ∧
    (∀ a before e after, (s.chan c).anchor = some a → splitAt a.event (s.chan c).list = some (before, e, after) →
      (s.chan c).fromStart = e :: after) ∧
    ((∀ a, (s.chan c).anchor = some a → splitAt a.event (s.chan c).list = none) →
      ∃ kept, (s.chan c).list = kept ++ (s.chan c).fromStart ∧ (∀ z ∈ kept, z.derived.past = true) ∧
        ∀ z, (s.chan c).fromStart.head? = some z → z.derived.past = false)

/-! ### Air slots -/

/-- The plan for a channel taken at join point J (R129 to R136). An event that is neither eclipsed nor past covers J
when it starts at or before J and ends after J or, OPEN, has no resolved end, and it is the next when it starts after J;
of each the first counts. With a covering event at offset o: WHOLE START at 0, GRACE within the grace, each from the
in-point with J as the start to record; past it SKIP for a WHOLE event or one whose end comes within the tail margin, a
fill until the event's end, and else MID at in-point + o, each with the derived start to record. With none: GAP SLATE
until the next event's start, or END OF SCHEDULE with no end. A material position above the field's top is a free value
(log 15). -/
def Obligations.JoinPlansFollowTheTable : Prop :=
  ∀ (r : Rate) (cfg : Settings) (basis : Basis) (slate : Nat) (j : Pos) (events : List Rec),
    let p := makePlan r cfg basis slate j events
    p.join = j ∧ p.basis = basis ∧
    (∀ e : Rec, let open_ := e.derived.eclipsed = false ∧ e.derived.past = false
      (e.covers r j = true ↔ open_ ∧ ∃ q, e.derived.start = some q ∧ 0 ≤ Pos.diff r q j ∧
        ((∃ z, e.derived.stop = some z ∧ 0 < Pos.diff r j z) ∨
          (e.derived.stop = none ∧ ∃ d, e.stated.stop = .openEnd d))) ∧
      (e.startsAfter r j = true ↔ open_ ∧ ∃ q, e.derived.start = some q ∧ 0 < Pos.diff r j q)) ∧
    (∀ e q, events.find? (Rec.covers r j) = some e → e.derived.start = some q →
      let o := (Pos.diff r q j).toNat
      let tail := ∃ z, e.derived.stop = some z ∧ Pos.diff r j z < cfg.tailMargin
      let played := p.event = some e.stated.id ∧ p.offset = o ∧ p.source = e.stated.source ∧ p.fillEnd = none
      let filled := p.source = .slate slate ∧ p.material = none
      (0 ≤ Pos.diff r q j) ∧
      (o = 0 → p.kind = .wholeStart ∧ played ∧ p.actual = some j ∧ p.material = e.stated.source.cuedAt 0) ∧
      (0 < o → o ≤ cfg.grace → p.kind = .grace ∧ played ∧ p.actual = some j ∧ p.material = e.stated.source.cuedAt 0) ∧
      (0 < o → cfg.grace < o → e.stated.join = .whole ∨ tail → p.kind = .skip ∧ filled ∧
        p.event = some e.stated.id ∧ p.offset = o ∧ p.actual = some q ∧ p.fillEnd = e.derived.stop) ∧
      (0 < o → cfg.grace < o → e.stated.join = .joinable → ¬tail → p.kind = .mid ∧ played ∧ p.actual = some q ∧
        p.material = e.stated.source.cuedAt o)) ∧
    (events.find? (Rec.covers r j) = none →
      (∀ e, events.find? (Rec.startsAfter r j) = some e → p.kind = .gapSlate ∧ p.event = some e.stated.id ∧
        p.source = .slate slate ∧ p.actual = none ∧ p.fillEnd = e.derived.start) ∧
      (events.find? (Rec.startsAfter r j) = none → p.kind = .endOfSchedule ∧ p.event = none ∧
        p.source = .slate slate ∧ p.actual = none ∧ p.fillEnd = none))

/-- JOIN_CUE_ISSUE and JOIN_CUE_FIRE (R137, R140), the slot's steps 1 and 2 taken first where they are still to do:
before the join point the CUE owed for a CLIP is issued once, at step 3 by the model's choice (log 44), and nothing for
another source; at or past it the join cue fires, and where a one-frame step has skipped it, an armed cue due at the
frame event's own position fires as well (R13); one due at or before the join point waits, which is the model's choice
(log 27). The fire of a plan with a start to record, whose event the list holds with no lock key, puts the event's
source to air, or the default slate for a SKIP; the event is the current cue with that word the last one issued, the
slot is ON AIR or HOLDING with no join cue, the AIR anchor records the plan's start, and the log's last entry is FIRED,
or SLATE FILL for a SKIP. The tally watch begins there: a CLIP's window is open to now plus W, its count at 0 (log 28),
with its PLAY position now; a LIVE or SLATE opens none; no restart, fault or confirmation is left (log 22). A plan
without one, or whose event is gone, shows the default slate and logs SLATE FILL. Then, as after a SKIP, no window is
open, and the cue end, a position or not, gives ON AIR or HOLDING. The fire of an event with a lock key is the same fire
with the hand-off to the followers after it (R156), but for a SKIP, which does not play its event (R134) and logs a
SKIPPED entry for it before the SLATE FILL, with the offset as its lateness. The default slate is the profile's at the
fire, the model's choice (log 27). Where a command finds the state, and the review after it, are the model's order (log
1). -/
def Obligations.JoinCuesAreIssuedAndFired : Prop :=
  (∀ (n : SlotId) (s : State) (c : Chan) (p : Plan), s.time.frameOpen = true → let t := s.atStep.slotThrough n 2
    let done := fun u : State => u.modSlot n fun x => { x with stepsDone := 3 }
    (t.slot n).stepsDone = 2 → (t.slot n).state = .joining → (t.slot n).chan = some c → (t.slot n).join = some p →
    (t.reached p.join = false → (t.slot n).joinOwed = false →
      exec (.joinCueIssue n) s = .next (done t).review ∧ exec (.joinCueFire n) s = .next (done t).review) ∧
    (∀ m i q, t.reached p.join = false → (t.slot n).joinOwed = true → p.source = .clip m i → p.material = some q →
      exec (.joinCueIssue n) s =
        .next (done ((t.emit n (.cue m q)).modSlot n fun x => { x with joinOwed := false })).review) ∧
    (t.reached p.join = false → (t.slot n).joinOwed = true → p.material = none →
      exec (.joinCueIssue n) s = .next (done (t.modSlot n fun x => { x with joinOwed := false })).review) ∧
    (t.reached p.join = true → let u := (t.issueJoinCue n).fireJoin n c p
      ((∀ a, (u.slot n).armed = some a → Pos.after u.rate a.firePos p.join = false ∨ u.reached a.firePos = false) →
        exec (.joinCueFire n) s = .next (done u).review) ∧
      (∀ a, (u.slot n).armed = some a → Pos.after u.rate a.firePos p.join = true → u.reached a.firePos = true →
        exec (.joinCueFire n) s =
          .next (done ((u.fireArmed n c a a.lateBy).handOff u n c (u.keyOf c a.event))).review))) ∧
  (∀ (n : SlotId) (s : State),
    s.slotThrough n 2 = (s.takeStep n 1 fun t => t.step1 n).takeStep n 2 (fun t => t.step2 n) ∧
    (2 ≤ (s.slot n).stepsDone → s.slotThrough n 2 = s) ∧
    ((s.slot n).stepsDone ≤ 2 → ((s.slotThrough n 2).slot n).stepsDone = 2 ∧
      ((s.slotThrough n 2).slot n).state = (s.slot n).state ∧ ((s.slotThrough n 2).slot n).chan = (s.slot n).chan ∧
      ((s.slotThrough n 2).slot n).join = (s.slot n).join)) ∧
  (∀ (n : SlotId) (s : State) (c : Chan) (p : Plan) (e : Rec) (start : Pos), (s.slot n).chan = some c →
    p.event = some e.stated.id → p.kind ≠ .skip →
    findEvent e.stated.id (s.chan c).list = some e → p.actual = some start →
    ∃ u : State, s.fireJoin n c p = u.handOff s n c e.stated.lockKey ∧ u.out = s.out ++ [.word n p.source.fireWord] ∧
      (u.chan c).anchor = some ⟨e.stated.id, start, .air, s.now⟩ ∧ (u.slot n).cur.bind Cue.event = some e.stated.id ∧
      let y := u.slot n
      y.cur.map (fun q => (q.source, q.firePos, q.actual, q.material)) = some (p.source, p.join, s.now, p.material) ∧
      y.restarts = 0 ∧ y.restartPlay = none ∧ y.faultPending = false ∧ y.faultDue = false ∧ y.confirmed = false ∧
      y.firedSeq = u.log.getLast?.map AsRun.seq ∧
      ((∃ m i, p.source = .clip m i) → y.expectedBy = some (s.now.add s.rate s.cfg.confirm) ∧ y.sincePlay = 0 ∧
        y.highSincePlay = (s.slot n).tally ∧ y.playPos = some s.now) ∧
      ((∀ m i, p.source ≠ .clip m i) → y.expectedBy = none) ∧
      (s.holdingSlot c = some n → (s.chan c).watched = true →
        y.state = if (y.cur.bind Cue.cueEnd).isSome = true then .onAir else .holding)) ∧
  (∀ (n : SlotId) (s : State) (c : Chan) (p : Plan), (s.slot n).chan = some c →
    let u := s.fireJoin n c p
    let slate := (s.chan c).profile.slate
    (∀ e start, p.event = some e.stated.id → findEvent e.stated.id (s.chan c).list = some e → p.actual = some start →
      (p.kind = .skip ∨ e.stated.lockKey = none) →
      (u.slot n).cur.bind Cue.event = some e.stated.id ∧ (u.slot n).join = none ∧ (u.slot n).chan = some c ∧
      ((u.slot n).state = .onAir ∨ (u.slot n).state = .holding) ∧
      (u.chan c).anchor = some ⟨e.stated.id, start, .air, s.now⟩ ∧
      u.out = s.out ++ [.word n (if p.kind = .skip then .slate slate else p.source.fireWord)] ∧
      ∃ y, u.log.getLast? = some y ∧ y.pos = s.now ∧ y.slot = some n ∧ y.chan = some c ∧
        y.kind = (if p.kind = .skip then .slateFill else .fired) ∧
        (p.kind ≠ .skip → y.event = some e.stated.id ∧
          y.lateness = if p.kind = .wholeStart then none else some (p.offset : Int)) ∧
        (p.kind = .skip → y.event = none ∧ y.lateness = none ∧ ∃ ys z, u.log = ys ++ [z, y] ∧ z.kind = .skipped ∧
          z.pos = s.now ∧ z.slot = some n ∧ z.chan = some c ∧ z.event = some e.stated.id ∧
          z.lateness = some (p.offset : Int)) ∧
        (p.kind = .skip → (u.slot n).expectedBy = none ∧ (u.slot n).restarts = 0 ∧ (u.slot n).restartPlay = none ∧
          (u.slot n).faultPending = false ∧ (s.holdingSlot c = some n → (s.chan c).watched = true →
            (u.slot n).state = if ((u.slot n).cur.bind Cue.cueEnd).isSome = true then .onAir else .holding))) ∧
    ((p.actual = none ∨ p.event.bind (fun id => findEvent id (s.chan c).list) = none) →
      (u.slot n).cur.bind Cue.event = none ∧ (u.slot n).join = none ∧
      ((u.slot n).state = if ((u.slot n).cur.bind Cue.cueEnd).isSome = true then .onAir else .holding) ∧
      (u.slot n).expectedBy = none ∧ (u.slot n).restarts = 0 ∧ (u.slot n).restartPlay = none ∧
      (u.slot n).faultPending = false ∧ u.chans = s.chans ∧ u.out = s.out ++ [.word n (.slate slate)] ∧
      ∃ y, u.log.getLast? = some y ∧ y.kind = .slateFill ∧ y.event = none ∧ y.slot = some n))

/-- CUE_FIRE (R151, R152), the slot's steps before step 3 done, with no join cue or handback plan: before the armed
cue's fire position nothing fires. At or past it, an event of the list goes to air by its source's word alone and
becomes the current cue, started now as the AIR anchor records; the log's last entry names it, FIRED, or LATE by its
frames; and its fire is handed to the followers. Before it stand a SKIPPED for each event passed over, in order, and a
CUT when the outgoing event's natural end is unresolved, with no lateness, or later than now, with the frames cut, a
follower's too by choice (log 45). Steps 8 and 9: the restarts, faults and confirmation go; a CLIP's window opens to now
plus W, its count at 0 (log 28), and FALLBACK stays; a LIVE or SLATE opens none and leaves FALLBACK, fallback-since
none; the cue end gives ON AIR or HOLDING. With its event gone the default slate goes to air, no anchor is written, the
last entry is SLATE FILL, and the slot is HOLDING with nothing pending and no window, or stays in FALLBACK, a reading
(log 22). The hand-off (R156): each other slot past its join that holds a follower seeks the first LOCKED event of the
key after its current one that is not past; with none, or the key's event current, it does nothing, the search under a
fill and a second such event passed over being choices (log 38), nor at a committed plan's boundary, nor for a plan's
event. That event, if armed before the leader's fire, fires at once, late by nothing, with the lock lead passed since
its arming, and else waits; armed or not, another event's cue is dropped, a CUE goes before a CLIP's PLAY, and every
event passed over is written SKIPPED, the fire position now by choice (log 45). It is the follower's step 3, 1 and 2
taken first. Judging the armed cue so, passing over JOINING followers, and no such fire of a plan's event or at its
boundary are readings (log 19). Where a command finds the state, and the review after it, are the model's order (log 1).
-/
def Obligations.ArmedCuesFire : Prop :=
  (∀ (n : SlotId) (s : State) (c : Chan) (a : Armed), s.time.frameOpen = true → let t := s.atStep
    let done := fun u : State => u.modSlot n fun x => { x with stepsDone := 3 }
    (t.slot n).stepsDone = 2 → (t.slot n).state = .onAir ∨ (t.slot n).state = .holding ∨ (t.slot n).state = .fallback →
    (t.slot n).chan = some c → (t.slot n).handback = none →
    ((t.slot n).armed = none → exec (.cueFire n) s = .next (done t).review) ∧
    ((t.slot n).armed = some a → t.reached a.firePos = false → exec (.cueFire n) s = .next (done t).review) ∧
    (∀ e, (t.slot n).armed = some a → t.reached a.firePos = true → findEvent a.event (t.chan c).list = some e →
      exec (.cueFire n) s = .next (done (((t.emit n e.stated.source.fireWord).fireFrom n c e a.firePos a.lateBy
        a.skipped).handOff t n c e.stated.lockKey)).review) ∧
    ((t.slot n).armed = some a → t.reached a.firePos = true → findEvent a.event (t.chan c).list = none →
      exec (.cueFire n) s = .next (done (t.fireArmed n c a a.lateBy)).review)) ∧
  (∀ (n : SlotId) (s : State) (c : Chan) (a : Armed), (s.slot n).chan = some c →
    let u := s.fireArmed n c a a.lateBy
    (∀ e, findEvent a.event (s.chan c).list = some e →
      u.out = s.out ++ [.word n e.stated.source.fireWord] ∧
      (u.slot n).cur.bind Cue.event = some e.stated.id ∧ (u.slot n).cur.map Cue.actual = some s.now ∧
      (u.chan c).anchor = some ⟨e.stated.id, s.now, .air, s.now⟩ ∧
      ∃ y, u.log.getLast? = some y ∧ y.pos = s.now ∧ y.slot = some n ∧ y.event = some e.stated.id ∧
        y.kind = (if a.lateBy = 0 then .fired else .late) ∧
        y.lateness = (if a.lateBy = 0 then none else some (a.lateBy : Int)) ∧
        u.log = (((s.skipEntries n a.skipped).cutOutgoing n c).slotEntry n y.kind y.event y.lateness).log) ∧
    (findEvent a.event (s.chan c).list = none →
      u.out = s.out ++ [.word n (.slate (s.chan c).profile.slate)] ∧ (u.slot n).cur.bind Cue.event = none ∧
      u.chans = s.chans ∧ (u.slot n).pending = [] ∧ (u.slot n).armed = none ∧
      ((s.slot n).state = .onAir ∨ (s.slot n).state = .holding → (u.slot n).state = .holding) ∧
      ((s.slot n).state = .fallback → (u.slot n).state = .fallback) ∧
      u.log = ((s.cutOutgoing n c).slotEntry n .slateFill none none).log ∧
      (u.slot n).expectedBy = none ∧ (u.slot n).restarts = 0 ∧ (u.slot n).restartPlay = none ∧
      (u.slot n).faultPending = false ∧
      ∃ y, u.log.getLast? = some y ∧ y.pos = s.now ∧ y.slot = some n ∧ y.event = none ∧ y.kind = .slateFill)) ∧
  (∀ (n : SlotId) (s : State) (c : Chan) (e : Rec) (p : Pos) (late : Nat) (skipped : List Nat),
    (s.slot n).chan = some c → findEvent e.stated.id (s.chan c).list = some e →
    let x := s.slot n
    let u := s.fireFrom n c e p late skipped
    let y := u.slot n
    let clip := ∃ m i, e.stated.source = .clip m i
    y.cur.map (fun q => (q.event, q.source, q.firePos, q.actual)) = some (some e.stated.id, e.stated.source, p, s.now) ∧
    y.restarts = 0 ∧ y.restartPlay = none ∧ y.faultPending = false ∧ y.faultDue = false ∧ y.confirmed = false ∧
    y.owedFill = none ∧ y.firedSeq = u.log.getLast?.map AsRun.seq ∧
    (clip → y.expectedBy = some (s.now.add s.rate s.cfg.confirm) ∧ y.sincePlay = 0 ∧ y.highSincePlay = x.tally ∧
      y.playPos = some s.now ∧ y.fallbackSince = x.fallbackSince ∧ (x.state = .fallback → y.state = .fallback)) ∧
    (¬clip → y.expectedBy = none ∧
      (x.state = .fallback → y.fallbackSince = none ∧ (y.state = .onAir ∨ y.state = .holding))) ∧
    (s.holdingSlot c = some n → (s.chan c).watched = true →
      x.state = .onAir ∨ x.state = .holding ∨ (x.state = .fallback ∧ ¬clip) →
      y.state = if (y.cur.bind Cue.cueEnd).isSome = true then .onAir else .holding)) ∧
  (∀ (s : State) (n : SlotId) (c : Chan),
    (∀ kind ev late, s.slotEntry n kind ev late = { s with
      log := (if s.log.length < 512 then s.log else s.log.drop 1) ++
        [⟨s.logNext, s.now, kind, some n, (s.slot n).chan, ev, late, none, none⟩]
      logNext := (s.logNext + 1) % 4294967296 }) ∧
    s.skipEntries n [] = s ∧
    (∀ id ids, s.skipEntries n (id :: ids) = (s.slotEntry n .skipped (some id) none).skipEntries n ids) ∧
    ((s.slot n).cur.bind Cue.event = none → s.cutOutgoing n c = s) ∧
    (∀ id, (s.slot n).cur.bind Cue.event = some id → findEvent id (s.chan c).list = none → s.cutOutgoing n c = s) ∧
    (∀ id e, (s.slot n).cur.bind Cue.event = some id → findEvent id (s.chan c).list = some e →
      let start := match (s.chan c).anchor with
        | some a => if a.event = id then some a.actual else e.derived.start
        | none => e.derived.start
      let natural := match e.stated.stop with
        | .timed d => start.map fun p => p.add s.rate d
        | .openEnd (some d) => start.map fun p => p.add s.rate d
        | .openEnd none => none
      (natural = none → s.cutOutgoing n c = s.slotEntry n .cut (some id) none) ∧
      (∀ p, natural = some p → s.cutOutgoing n c =
        if Pos.after s.rate p s.now = true then s.slotEntry n .cut (some id) (some (Pos.diff s.rate s.now p)) else s))) ∧
  ((∀ (s before : State) (n : SlotId) (c : Chan), s.handOff before n c none = s ∧ ∀ key,
      s.handOff before n c (some key) =
        forSlots (fun m t => if m = n then t else t.lockstep m c key (before.slot m).armed) s) ∧
    (∀ (s : State) (m : SlotId) (c f : Chan) (key : Nat) (was : Option Armed), (s.slot m).chan = some f →
      let x := s.slot m
      let follows := (x.state = .onAir ∨ x.state = .holding ∨ x.state = .fallback) ∧ x.cur ≠ none ∧
        s.leaderOf f = some c ∧ s.lockedNow m f key = false ∧ s.atBoundary m = false
      let sought := fun e : Rec => e.stated.start = .locked ∧ e.stated.lockKey = some key ∧ e.derived.past = false
      (¬follows → s.lockstep m c key was = s) ∧
      ((∀ e ∈ s.afterCurrent m f, ¬sought e) → s.lockstep m c key was = s) ∧
      (∀ as e bs, s.afterCurrent m f = as ++ e :: bs → sought e → (∀ z ∈ as, ¬sought z) →
        (∀ h, x.handback = some h → h.event = e.stated.id → s.lockstep m c key was = s) ∧
        (follows → (∀ h, x.handback = some h → h.event ≠ e.stated.id) →
          (∀ a, was = some a → a.event = e.stated.id →
            (s.reached (a.armedAt.add s.rate s.cfg.lockLead) = true →
              s.lockstep m c key was = (s.firstSteps m).fireArmed m f a 0) ∧
            (s.reached (a.armedAt.add s.rate s.cfg.lockLead) = false → s.lockstep m c key was = s)) ∧
          ((∀ a, was = some a → a.event ≠ e.stated.id) →
            let t := s.firstSteps m
            let w := match e.stated.source with
              | .clip mat i => (t.emit m (.cue mat (materialAt i))).emit m .play
              | src => t.emit m src.fireWord
            s.lockstep m c key was = (w.modSlot m fun x => { x with armed := none }).fireFrom m f e s.now 0
              (as.map fun z => z.stated.id))))) ∧
    (∀ (s : State) (m : SlotId), (s.slot m).state.holds = true → (s.slot m).stepsDone = 0 →
      s.firstSteps m = (((s.step1 m).modSlot m fun x => { x with stepsDone := 1 }).step2 m).modSlot m fun x =>
        { x with stepsDone := 2 }))

/-- LOCK_POINT, ARM_NEXT_CUE and SCHEDULE_RUN_OUT, the slot's earlier steps done (R148, R150, R153). At step 2 the armed
cue is locked from its fire position less the lock lead. At step 6, with nothing fired or armed and no fill owed, a cue
end reached fills with the default slate and logs SLATE FILL, the cue a fill from now and the slot HOLDING, or still
FALLBACK; else nothing happens; one owed for a lost event shows the slate, with CUT and SLATE FILL entries. At step 9,
with none armed, a candidate within the arm lead is armed, one sooner than now plus the lock lead moved to it, late by
the move, and locked, and a CLIP's CUE issued; one armed before has an owed CUE issued. The candidate (R148): the first
event after the current one neither eclipsed nor past, if its start is resolved, with the eclipsed ones before it; under
a fill the first that also starts after now, behind the AIR anchor's event or, with none, from the first not past, the
eclipsed recorded too, a reading (log 22); the join cue is current while JOINING, where another event over by J is
passed, a reading (log 27); a plan's event fires at its boundary. The cue end (R147): of the anchor's event its end
before the floor of P + 1, of another its derived end, of one gone none, of a fill the armed fire position, else the
candidate's; ON AIR stands with one, HOLDING without, other states unmoved (R144). After a walk (R149): a locked cue
stands; another is armed afresh from a candidate within the arm lead, a CUE owed for another CLIP, judged by id, or else
dropped; with none armed such a one is armed. A walk that drops the current event makes the cue a fill from now, nothing
pending; an armed cue stays (R153). A fill's end from a cue armed at step 9 is a reading (log 22); judging so and a lost
event's fill from now (log 35), a run-out's (log 46), and no CUE for a CLIP armed and dropped before step 9 (log 39) are
choices; where a command finds the state, and the review after it, are the model's order (log 1). -/
def Obligations.CuesAreArmedLockedAndFilled : Prop :=
  (∀ (n : SlotId) (s : State), s.time.frameOpen = true →
    let done := fun (k : Nat) (u : State) => u.modSlot n fun x => { x with stepsDone := k }
    (let t := s.atStep
      let x := t.slot n
      x.state.holds = true → x.stepsDone = 1 →
      (x.armed = none → exec (.lockPoint n) s = .next (done 2 t).review) ∧
      (∀ a, x.armed = some a → t.reached (a.firePos.sub t.rate t.cfg.lockLead) = false →
        exec (.lockPoint n) s = .next (done 2 t).review) ∧
      (∀ a, x.armed = some a → t.reached (a.firePos.sub t.rate t.cfg.lockLead) = true →
        exec (.lockPoint n) s =
          .next (done 2 (t.modSlot n fun x => { x with armed := some { a with locked := true } })).review)) ∧
    (let t := s.atLater n
      let x := t.slot n
      x.state.holds = true →
      (∀ c cue, x.stepsDone = 5 → x.chan = some c → x.cur = some cue →
        (∀ e, x.owedFill = none → x.fired = false → x.armed = none → cue.cueEnd = some e → t.reached e = true →
          ∃ u, exec (.scheduleRunOut n) s = .next (done 6 u).review ∧
            u.out = t.out ++ [.word n (.slate (t.chan c).profile.slate)] ∧ u.chans = t.chans ∧
            (u.slot n).cur.bind Cue.event = none ∧ (u.slot n).cur.map Cue.actual = some t.now ∧ (u.slot n).pending = [] ∧
            (x.state = .onAir ∨ x.state = .holding → (u.slot n).state = .holding) ∧
            (x.state = .fallback → (u.slot n).state = .fallback) ∧
            ∃ y, u.log.getLast? = some y ∧ y.kind = .slateFill ∧ y.pos = t.now ∧ y.slot = some n ∧ y.event = none) ∧
        (x.owedFill = none → (x.fired = true ∨ x.armed ≠ none ∨ ∀ e, cue.cueEnd = some e → t.reached e = false) →
          exec (.scheduleRunOut n) s = .next (done 6 t).review) ∧
        (∀ id, x.owedFill = some id → ∃ u, exec (.scheduleRunOut n) s = .next (done 6 u).review ∧
          u.out = t.out ++ [.word n (.slate (t.chan c).profile.slate)] ∧ u.chans = t.chans ∧
          (u.slot n).owedFill = none ∧ u.logNext = (t.logNext + 2) % 4294967296 ∧
          ∃ y z ys, u.log = ys ++ [y, z] ∧ y.kind = .cut ∧ y.event = some id ∧ y.lateness = none ∧
            z.kind = .slateFill ∧ z.event = none)) ∧
      (x.stepsDone = 8 → x.armed = none →
        (∀ e p skipped, t.candidate n = some (e, p, skipped) → t.withinArmLead p = false) →
        exec (.armNextCue n) s = .next (done 9 t).review) ∧
      (∀ c e p skipped, x.stepsDone = 8 → x.chan = some c → x.armed = none → t.candidate n = some (e, p, skipped) →
        findEvent e.stated.id (t.chan c).list = some e → t.withinArmLead p = true →
        let floor := t.now.add t.rate t.cfg.lockLead
        let a : Armed := armedFrom t.rate t.now t.cfg.lockLead e p skipped false
        ∃ u, exec (.armNextCue n) s = .next (done 9 u).review ∧ (u.slot n).armed = some a ∧ a.event = e.stated.id ∧
          a.armedAt = t.now ∧
          (Pos.before t.rate p floor = true → a.firePos = floor ∧ a.locked = true ∧
            a.lateBy = (Pos.diff t.rate p floor).toNat) ∧
          (Pos.before t.rate p floor = false → a.firePos = p ∧ a.locked = false ∧ a.lateBy = 0) ∧
          u.log = t.log ∧ u.chans = t.chans ∧
          u.out = t.out ++ (match e.stated.source with
            | .clip m i => [.word n (.cue m (materialAt i))]
            | _ => [])) ∧
      (∀ c a, x.stepsDone = 8 → x.chan = some c → x.armed = some a →
        ∃ u, exec (.armNextCue n) s = .next (done 9 u).review ∧ (u.slot n).armed = some { a with cueOwed := false } ∧
          u.log = t.log ∧ u.chans = t.chans ∧
          u.out = t.out ++ (match a.cueOwed, (findEvent a.event (t.chan c).list).map (fun e => e.stated.source) with
            | true, some (.clip m i) => [.word n (.cue m (materialAt i))]
            | _, _ => [])))) ∧
  (∀ (n : SlotId) (s : State),
    let set := fun a : Option Armed => s.modSlot n fun x => { x with armed := a }
    let x := s.slot n
    let found := fun e p skipped => s.candidate n = some (e, p, skipped) ∧ s.withinArmLead p = true
    let fresh := fun (e : Rec) p skipped owed => some (armedFrom s.rate s.now s.cfg.lockLead e p skipped owed)
    (∀ a, x.armed = some a → a.locked = true → s.rearm n = s) ∧
    (∀ a, x.armed = some a → a.locked = false →
      ((∀ e p skipped, ¬found e p skipped) → s.rearm n = set none) ∧
      (∀ e p skipped, found e p skipped → s.rearm n =
        set (fresh e p skipped (if e.stated.id = a.event then a.cueOwed else e.stated.source.isClip)))) ∧
    (x.armed = none → x.state.holds = true →
      ((∀ e p skipped, ¬found e p skipped) → s.rearm n = s) ∧
      (∀ e p skipped, found e p skipped → s.rearm n = set (fresh e p skipped e.stated.source.isClip))) ∧
    (∀ c, s.holdingSlot c = some n →
      (s.lostEvent n c = none → s.afterWalk c = ((s.rearm n).refreshEnd n).refill n) ∧
      (∀ id, s.lostEvent n c = some id → x.cur.bind Cue.event = some id ∧ findEvent id (s.chan c).list = none ∧
        let u := s.afterWalk c
        (u.slot n).cur.bind Cue.event = none ∧ (u.slot n).cur.map Cue.actual = some s.now ∧ (u.slot n).pending = [] ∧
        (u.slot n).owedFill = some id ∧ (u.slot n).faultPending = false ∧ (u.slot n).expectedBy = none ∧
        (x.armed ≠ none → (u.slot n).armed = x.armed)))) ∧
  (∀ (n : SlotId) (s : State), ((s.slot n).chan = none ∨ (s.slot n).cur = none → s.refreshEnd n = s) ∧
    ∀ c cue, (s.slot n).chan = some c → (s.slot n).cur = some cue →
      let ends := s.cueEndOf n c cue
      s.refreshEnd n = s.modSlot n (fun x => { x with
        cur := some { cue with cueEnd := ends }
        state := match x.state with
          | .onAir => if ends.isSome then .onAir else .holding
          | .holding => if ends.isSome then .onAir else .holding
          | other => other }) ∧
      (∀ id, cue.event = some id → splitAt id (s.chan c).list = none → ends = none) ∧
      (∀ id before e after, cue.event = some id → splitAt id (s.chan c).list = some (before, e, after) →
        ((∀ a, (s.chan c).anchor = some a → a.event ≠ id) → ends = e.derived.stop) ∧
        (∀ a, (s.chan c).anchor = some a → a.event = id →
          let natural := match e.stated.stop with
            | .timed d => some (a.actual.add s.rate d)
            | .openEnd (some d) => some (a.actual.add s.rate d)
            | .openEnd none => none
          ends = match natural, firstHard ((hards s.rate (s.leaderStart c) none (e :: after)).drop 1) with
            | some p, some h => some (if Pos.before s.rate h p then h else p)
            | some p, none => some p
            | none, h => h)) ∧
      (cue.event = none → (∀ a, (s.slot n).armed = some a → ends = some a.firePos) ∧
        ((s.slot n).armed = none → ends = (s.candidate n).map fun x => x.2.1))) ∧
  (∀ (n : SlotId) (s : State) (c : Chan), (s.slot n).chan = some c →
    let x := s.slot n
    let open_ := fun z : Rec => z.derived.eclipsed = false ∧ z.derived.past = false
    let passed := fun zs : List Rec =>
      (zs.filter fun z => z.derived.eclipsed && !z.derived.past).map fun z => z.stated.id
    (x.state ≠ .joining → x.curEvent = x.cur.bind Cue.event) ∧
    (∀ p, x.state = .joining → x.join = some p →
      x.curEvent = if p.kind = .gapSlate ∨ p.kind = .endOfSchedule then none else p.event) ∧
    (∀ id before e after, x.curEvent = some id → splitAt id (s.chan c).list = some (before, e, after) →
      ((∀ z ∈ after, ¬open_ z) → s.nextEvent n = none) ∧
      (∀ as z bs, after = as ++ z :: bs → open_ z → (∀ y ∈ as, ¬open_ y) → s.nextEvent n = some (z, passed as))) ∧
    (x.curEvent = none →
      let run := (s.chan c).fillSearch
      let fits := fun z : Rec => open_ z ∧ (∃ q, z.derived.start = some q ∧ Pos.after s.rate q s.now = true) ∧
        ∀ p q, x.state = .joining → x.join = some p → p.event ≠ some z.stated.id → z.derived.stop = some q →
          Pos.atOrPast s.rate p.join q = false
      (∀ a before e after, (s.chan c).anchor = some a → a.source = .air →
        splitAt a.event (s.chan c).list = some (before, e, after) → run = after) ∧
      ((∀ a, (s.chan c).anchor = some a → a.source = .air → splitAt a.event (s.chan c).list = none) →
        ∃ kept, (s.chan c).list = kept ++ run ∧ (∀ z ∈ kept, z.derived.past = true) ∧
          ∀ z, run.head? = some z → z.derived.past = false) ∧
      ((∀ z ∈ run, ¬fits z) → s.nextEvent n = none) ∧
      (∀ as z bs, run = as ++ z :: bs → fits z → (∀ y ∈ as, ¬fits y) → s.nextEvent n = some (z, passed as))) ∧
    (s.nextEvent n = none → s.candidate n = none) ∧
    (∀ e skipped, s.nextEvent n = some (e, skipped) →
      (e.derived.start = none → s.candidate n = none) ∧
      (∀ p, e.derived.start = some p → (∀ h, x.handback = some h → h.event ≠ e.stated.id) →
        s.candidate n = some (e, p, skipped)) ∧
      (∀ p h, e.derived.start = some p → x.handback = some h → h.event = e.stated.id →
        s.candidate n = some (e, h.boundary, skipped))))

/-- LINE_PULSE_END and SECONDARY_OCCURRENCE, each with the slot's steps before its own done (R157, R158). At step 1
every line pulsed at the frame event before goes off with a LINE word, in line order, the model's choice (log 51), the
others keep their level, and no line is then pulsed. At step 8 the head of the pending list that is due is issued and
leaves the list, and the rest follow; with none due nothing is issued. An issue sets its line to the level its action
gives, with a LINE word only when the level changes, and a PULSE marks the line. The pending list (R157): an occurrence
k of a cue is due at the anchored start plus its offset plus k periods, for each k below its count; one due before the
actual start is passed over, and none is generated from the first that is due at or past the cue end on. The list is
brought to the first 16 of those not yet issued, by due position, then the cue's place, then k, where positions so near
are compared one way only; what is not yet issued begins at the least index pending, or at the next repeat index, which
is then one above the last that the list holds. That an occurrence due at a skipped join point is passed over is the
model's choice (log 27). Where a command finds the state, the slot of the channel's leader at the end of its own step 3
before a later step of this one, and the review after it, are the model's order (log 1). -/
def Obligations.LinesFollowTheirOccurrences : Prop :=
  (∀ (n : SlotId) (s : State), s.time.frameOpen = true →
    let done := fun (k : Nat) (u : State) => u.modSlot n fun x => { x with stepsDone := k }
    (let t := s.atStep
      let x := t.slot n
      x.state.holds = true → x.stepsDone = 0 → ∃ u, exec (.linePulseEnd n) s = .next (done 1 u).review ∧
        u.out = t.out ++ ((List.finRange 4).filter fun l => x.pulsed.get l).map (fun l => .word n (.line l false)) ∧
        (∀ l : Fin 4, (u.slot n).lines.get l = (x.lines.get l && !x.pulsed.get l)) ∧
        (∀ l : Fin 4, (u.slot n).pulsed.get l = false) ∧ u.log = t.log ∧ (u.slot n).cur = x.cur) ∧
    (let t := s.atLater n
      let x := t.slot n
      x.state.holds = true → x.stepsDone = 7 →
      (∀ o rest, x.pending = o :: rest → t.reached o.due = true →
        exec (.secondaryOccurrence n) s = .next (done 8 (State.issueDue n 63
          (((t.issueOcc n o).modSlot n fun x => { x with pending := rest }).refill n))).review) ∧
      ((∀ o rest, x.pending = o :: rest → t.reached o.due = false) →
        exec (.secondaryOccurrence n) s = .next (done 8 t).review))) ∧
  (∀ (n : SlotId) (o : Occ) (s : State), let u := s.issueOcc n o
    let old := (s.slot n).lines.get o.line
    let level := match o.action with
      | .pulse => true
      | .set => true
      | .clear => false
      | .toggle => !old
    u.out = s.out ++ (if level = old then [] else [.word n (.line o.line level)]) ∧
    (∀ l, (u.slot n).lines.get l = if l = o.line then level else (s.slot n).lines.get l) ∧
    (∀ l, (u.slot n).pulsed.get l = true ↔ (s.slot n).pulsed.get l = true ∨ (l = o.line ∧ o.action = .pulse)) ∧
    (∀ m, m ≠ n → u.slot m = s.slot m) ∧ u.log = s.log) ∧
  ((∀ (n : SlotId) (s : State), ((s.slot n).cur = none → s.refill n = s) ∧
      ∀ cue, (s.slot n).cur = some cue → let p := refillList s.rate cue (s.slot n).pending (s.slot n).nextRepeat
        s.refill n = s.modSlot n fun x =>
          { x with pending := p, nextRepeat := generated cue x.pending x.nextRepeat p }) ∧
    (∀ (r : Rate) (cue : Cue) (i k fuel : Nat) (sc : SecCue) (o : Occ),
      let due := fun j : Nat => cue.anchored.add r (sc.offset + j * sc.period)
      o ∈ occsFrom r cue i sc k fuel ↔ ∃ j, k ≤ j ∧ j < k + fuel ∧ j < sc.count ∧
        o = ⟨due j, sc.line, sc.action, i, j⟩ ∧ Pos.before r (due j) cue.actual = false ∧
        ∀ m e, k ≤ m → m ≤ j → cue.cueEnd = some e → Pos.atOrPast r (due m) e = false) ∧
    (∀ (r : Rate) (a b : Occ), occBefore r a b = true ↔ Pos.before r a.due b.due = true ∨
      (Pos.diff r a.due b.due = 0 ∧ (a.cue < b.cue ∨ (a.cue = b.cue ∧ a.rep < b.rep)))) ∧
    (∀ (r : Rate) (cue : Cue) (pending : List Occ) (gen : List Nat),
      let base := fun i : Nat => baseIndex pending i (gen.getD i 0)
      let all := cue.cues.zipIdx.flatMap fun x => occsFrom r cue x.2 x.1 (base x.2) 16
      let p := refillList r cue pending gen
      p.length = min 16 all.length ∧
      (∃ more, (p ++ more).Perm all ∧
        ((∀ a ∈ all, ∀ b ∈ all, occBefore r a b = true → occBefore r b a = false) →
          ∀ as a b bs, p ++ more = as ++ a :: b :: bs → occBefore r b a = false)) ∧
      (∀ i, base i ≤ gen.getD i 0 ∧ (∀ o ∈ pending, o.cue = i → base i ≤ o.rep) ∧
        (base i = gen.getD i 0 ∨ ∃ o ∈ pending, o.cue = i ∧ o.rep = base i)) ∧
      (∀ i g, (generated cue pending gen p)[i]? = some g → base i ≤ g ∧ (∀ o ∈ p, o.cue = i → o.rep < g) ∧
        (g = base i ∨ ∃ o ∈ p, o.cue = i ∧ g = o.rep + 1)) ∧
      (generated cue pending gen p).length = cue.cues.length))

/-- RESTART_PLAY, SERVER_FAULT_ACTION, CONFIRM_WINDOW_EXPIRY and FALLBACK_TIMEOUT, each with the slot's steps before its
own done (R159, R160, R161). A restart PLAY that is due is issued and watched for the confirm window; that it takes back
the confirmation is the model's reading (log 22). A fault found before this frame event restarts a CLIP once, when the
lock lead from now falls short of the cue end and of any armed cue: STOP, a CUE at the point the material would have
reached (past the top of its field by log 15), a RESTART entry; else the default slate goes up with a FALLBACK entry and
the slot is in FALLBACK, since now if it was not before. A fault of a slot already in FALLBACK is never restarted. A
confirm window that has run out confirms a tally high throughout, or finds a SERVER FAULT, from which on no expected-by
position stands, the model's choice (log 48); with none standing nothing happens. It runs out at the expected-by
position of R159 or, counted in frame events, by R13's last words; the two agree where no mark moves the position inside
it, and which of them holds where they differ is free (log 28). In FALLBACK the window is judged first, and a fallback
of Tp frames that stands after it releases the channel, at this step also with the reason of a pending release that
absorbs the AIR FAULT, the model's choice (log 49). Where a command finds the state, the slot of the channel's leader at
the end of its own step 3 first, and the review after it, are the model's order (log 1). -/
def Obligations.ServerFaultsRestartOrFallBack : Prop :=
  ∀ (n : SlotId) (s : State), s.time.frameOpen = true → let t := s.atLater n
    let x := t.slot n
    let done := fun (k : Nat) (u : State) => u.modSlot n fun x => { x with stepsDone := k }
    let lead := t.now.add t.rate t.cfg.lockLead
    let found := fun u : State => (u.slotEntry n .serverFault (x.cur.bind Cue.event) none).modSlot n fun x =>
      { x with faultPending := true, expectedBy := none }
    x.state.holds = true →
    (∀ p, x.stepsDone = 3 → x.restartPlay = some p →
      (t.reached p = true → exec (.restartPlay n) s = .next (done 4 ((t.emit n .play).modSlot n fun x =>
        { x with restartPlay := none, expectedBy := some (t.now.add t.rate t.cfg.confirm), sincePlay := 0,
                 highSincePlay := x.tally, confirmed := false, playPos := some t.now })).review) ∧
      (t.reached p = false → exec (.restartPlay n) s = .next (done 4 t).review)) ∧
    (x.stepsDone = 3 → x.restartPlay = none → exec (.restartPlay n) s = .next (done 4 t).review) ∧
    (x.stepsDone = 4 → (x.faultPending = false ∨ x.faultDue = false) →
      exec (.serverFaultAction n) s = .next (done 5 t).review) ∧
    (∀ c cue mat i m, x.stepsDone = 4 → x.faultPending = true → x.faultDue = true → x.chan = some c →
      x.cur = some cue → cue.source = .clip mat i → cue.material = some m →
      let may := x.restarts = 0 ∧ x.state ≠ .fallback ∧ (∀ e, cue.cueEnd = some e → Pos.before t.rate lead e = true) ∧
        (∀ a, x.armed = some a → Pos.atOrPast t.rate lead a.firePos = false)
      (may → exec (.serverFaultAction n) s = .next (done 5 (((((t.emit n .stop).emit n
          (.cue mat (materialAt (m + ((Pos.diff t.rate cue.actual t.now).toNat + t.cfg.lockLead)))))).slotEntry n .restart
            cue.event none).modSlot n fun x =>
        { x with restartPlay := some lead, restarts := 1, faultPending := false, faultDue := false })).review) ∧
      (¬may → exec (.serverFaultAction n) s = .next (done 5 (((t.emit n (.slate (t.chan c).profile.slate)).slotEntry n
          .fallback cue.event none).modSlot n fun x =>
        { x with state := .fallback, fallbackSince := if x.state = .fallback then x.fallbackSince else some t.now,
                 expectedBy := none, restartPlay := none, faultPending := false, faultDue := false })).review)) ∧
    (∀ p, (Config.confirmByCount = true → t.windowOver n p = decide (t.cfg.confirm ≤ x.sincePlay)) ∧
      (Config.confirmByCount = false → t.windowOver n p = t.reached p) ∧
      (t.reached p = decide (t.cfg.confirm ≤ x.sincePlay) → t.windowOver n p = t.reached p)) ∧
    (x.stepsDone = 6 → x.state ≠ .fallback →
      (x.expectedBy = none → exec (.confirmWindowExpiry n) s = .next (done 7 t).review) ∧
      (∀ p, x.expectedBy = some p →
        (t.windowOver n p = false → exec (.confirmWindowExpiry n) s = .next (done 7 t).review) ∧
        (t.windowOver n p = true → x.highSincePlay = true → x.tally = true →
          exec (.confirmWindowExpiry n) s = .next (done 7 (t.confirmCue n (x.playPos.getD t.now))).review) ∧
        (t.windowOver n p = true → (x.highSincePlay = false ∨ x.tally = false) →
          exec (.confirmWindowExpiry n) s = .next (done 7 (found t)).review))) ∧
    (∀ q, x.stepsDone = 6 → x.state = .fallback → x.fallbackSince = some q →
      let short := Pos.diff t.rate q t.now < t.cfg.tp
      let waits := ∀ p, x.expectedBy = some p → t.windowOver n p = false
      let releases := fun u : State => done 7 (u.releaseSlot n ((u.slot n).releasePending.getD .airFault))
      (waits → ¬short → exec (.fallbackTimeout n) s = .next (releases t).review) ∧
      (waits → short → exec (.fallbackTimeout n) s = .next (done 7 t).review) ∧
      (∀ p, x.expectedBy = some p → t.windowOver n p = true →
        (x.highSincePlay = true → x.tally = true →
          exec (.confirmWindowExpiry n) s = .next (done 7 (t.confirmCue n (x.playPos.getD t.now))).review) ∧
        ((x.highSincePlay = false ∨ x.tally = false) →
          (short → exec (.confirmWindowExpiry n) s = .next (done 7 (found t)).review) ∧
          (¬short → exec (.confirmWindowExpiry n) s = .next (releases (found t)).review))))

/-- HANDBACK_COMMIT_CHECK and HANDBACK_BOUNDARY, the slot's steps before step 3 done and no join cue (R172, R173). From
the lock lead before the boundary a plan not yet committed is committed when its notice is sent, the beats are fresh,
and the last entry says STANDBY with the handback event prepared at the boundary; else the plan is gone, a HANDOVER with
the cancel flag is offered and the log gains a HANDBACK ABORTED entry. A committed plan whose boundary is reached
releases the channel, at this step also with the reason of a pending release that absorbs the HANDBACK, the model's
choice (log 49), and the handback event does not fire, armed or not; so at the frame event that commits the plan late,
too. In every other case the slot then takes the rest of step 3: an armed cue that is due fires, handed to the
followers, and one that is not due stays (R151, R156). Where a command finds the state, and the review after it, are the
model's order (log 1). -/
def Obligations.HandbacksCommitOrAbort : Prop :=
  (∀ (n : SlotId) (s : State) (c : Chan) (h : HandbackPlan), s.time.frameOpen = true → let t := s.atStep
    let x := t.slot n
    let done := fun u : State => u.modSlot n fun x => { x with stepsDone := 3 }
    x.stepsDone = 2 → x.state = .onAir ∨ x.state = .holding ∨ x.state = .fallback → x.chan = some c →
    x.handback = some h →
    let ready := h.noticeSent = true ∧ t.beatsFresh c = true ∧
      ∃ w b, t.watchRec c = some w ∧ w.lastBeat = some b ∧ b.main = .standby ∧ b.prepared = some (h.event, h.boundary)
    let due := t.reached (h.boundary.sub t.rate t.cfg.lockLead) = true
    let committed := t.modSlot n fun x => { x with handback := some { h with committed := true } }
    let aborted := ((t.offerCancel (.handover c h.event h.boundary h.returnEpoch true)).slotEntry n .handbackAborted
      (some h.event) none).modSlot n fun x => { x with handback := none }
    (h.committed = false → ¬due → exec (.handbackCommitCheck n) s = .next (done (t.fireDue n c)).review) ∧
    (h.committed = false → due → ready → t.reached h.boundary = false →
      exec (.handbackCommitCheck n) s = .next (done (committed.fireDue n c)).review) ∧
    (h.committed = false → due → ready → t.reached h.boundary = true → exec (.handbackCommitCheck n) s =
      .next (done (committed.releaseSlot n (x.releasePending.getD .handback))).review) ∧
    (h.committed = false → due → ¬ready →
      exec (.handbackCommitCheck n) s = .next (done (aborted.fireDue n c)).review) ∧
    (h.committed = true → t.reached h.boundary = true → exec (.handbackBoundary n) s =
      .next (done (t.releaseSlot n (x.releasePending.getD .handback))).review) ∧
    (h.committed = true → t.reached h.boundary = false →
      exec (.handbackBoundary n) s = .next (done (t.fireDue n c)).review)) ∧
  (∀ (n : SlotId) (c : Chan) (s : State),
    ((∀ a, (s.slot n).armed = some a → s.reached a.firePos = false) → s.fireDue n c = s) ∧
    (∀ a, (s.slot n).armed = some a → s.reached a.firePos = true →
      (∀ e, findEvent a.event (s.chan c).list = some e →
        s.fireDue n c = ((s.emit n e.stated.source.fireWord).fireFrom n c e a.firePos a.lateBy a.skipped).handOff s n c
          e.stated.lockKey) ∧
      (findEvent a.event (s.chan c).list = none → s.fireDue n c = s.fireArmed n c a a.lateBy)))

/-- TALLY_RISE and TALLY_FALL (R159, R161). A rise takes the level; under a CLIP event whose confirm window is open, a
rise from low confirms it at now: the tally position enters its log entry, which of two positions an entry confirmed
twice holds being a free value (log 53), the window closes, and a FALLBACK slot is ON AIR or HOLDING by its cue end, its
fallback-since none, the model's choice (log 40). A fall takes the level, and a fall from high under a confirmed CLIP
with no restart PLAY set, before the cue end less one frame or with it unresolved, finds a server fault: a SERVER FAULT
entry, and a fault pending, with no expected-by position, the model's choice (log 48). Where a command finds the state,
and the review after it, are the model's order (log 1). -/
def Obligations.TallyEdgesConfirmOrFault : Prop :=
  ∀ (n : SlotId) (s : State), let t := s.found
    let x := t.slot n
    let up := t.modSlot n fun x => { x with tally := true }
    let down := t.modSlot n fun x => { x with tally := false, highSincePlay := false }
    (∀ cue, x.cur = some cue → x.tally = false → cue.source.isClip = true → cue.event.isSome = true →
      x.expectedBy.isSome = true → exec (.tallyRise n) s = .next (up.confirmCue n t.now).review) ∧
    ((∀ cue, x.cur = some cue → x.tally = true ∨ cue.source.isClip = false ∨ cue.event = none ∨ x.expectedBy = none) →
      exec (.tallyRise n) s = .next up.review) ∧
    (∀ cue, x.cur = some cue →
      let early := ∀ e, cue.cueEnd = some e → Pos.before t.rate t.now (e.sub t.rate 1) = true
      (x.tally = true → cue.source.isClip = true → x.confirmed = true → x.restartPlay = none → early →
        exec (.tallyFall n) s = .next ((down.slotEntry n .serverFault cue.event none).modSlot n fun x =>
          { x with faultPending := true, expectedBy := none }).review) ∧
      ((x.tally = false ∨ cue.source.isClip = false ∨ x.confirmed = false ∨ x.restartPlay ≠ none ∨ ¬early) →
        exec (.tallyFall n) s = .next down.review)) ∧
    (x.cur = none → exec (.tallyFall n) s = .next down.review) ∧
    (∀ p, let u := up.confirmCue n p
      (u.slot n).expectedBy = none ∧ (u.slot n).confirmed = true ∧
      (∀ q, x.firedSeq = some q → u.log = up.log.map fun e => if e.seq = q then
        { e with tally := if e.tally = none ∨ Config.secondTally = true then some p else e.tally } else e) ∧
      (x.state = .fallback → (u.slot n).fallbackSince = none ∧ (u.slot n).state =
        if (x.cur.bind Cue.cueEnd).isSome = true then .onAir else .holding) ∧
      (x.state ≠ .fallback → (u.slot n).state = x.state))

/-- SLOT_RELEASE (R164, R165): with none of the slot's work of the open frame event taken, the release due, if any, is
taken whole, and after some of it, when the rest is done. The one handed first stands before a pending duplicate, which
is the model's reading, and that before the release phase, which is its choice (log 24). A release leaves the slot FREE
with its tally pin's level and nothing else, its lines off with none pulsed, issues STOP and then LINE off for each line
that is on, in line order; logs a RELEASE entry with its reason at now last, for the handback event or the current one;
makes the RELEASE wait in class 0 or the outbox, with the return epoch for HANDBACK only; and clears the holder, but for
a DUPLICATE, whose winner is the holder then. A plan that the release ends, other than a HANDBACK, is cancelled by a
HANDOVER in class 0 or waiting for it, and logged HANDBACK ABORTED. An AIR anchor goes, and the channel is walked
unanchored. The orphan flag is clear and the health begins afresh (R79), and but for HANDBACK the test of R81 follows;
for a DUPLICATE the channel is under SITE and the winner's epoch at sequence 0, with the winner's claim, and the health
is evaluated from where it stands (R110). Other slots stay, but those of the channel and of its followers, which the
walk reaches; so do other views and watch records, and other channels but followers, whose requests alone an offered
IMAGEREQ may change (R183; log 1). AIR FAULT makes the channel ineligible for 1,500 frames. HANDBACK returns authority
under the plan's epoch at sequence 0, the replica STALE with cause HANDBACK and a new round of the image request begun
(R50); that an EMPTY replica stays EMPTY there is the model's reading (log 16). Where the release stands among the
slot's steps is the model's order (log 1). Where a command finds the state, and the review after it, are the model's
order (log 1). -/
def Obligations.ReleasesAreTakenWhole : Prop :=
  (∀ (n : SlotId) (s : State), s.time.frameOpen = true → let t := s.atStep
    (t.dueRelease n = none → exec (.slotRelease n) s = .next t.review) ∧
    (∀ r, t.dueRelease n = some r → (t.slot n).stepsDone = 0 →
      exec (.slotRelease n) s = .next (t.releaseSlot n r).review) ∧
    (∀ r, t.dueRelease n = some r → (t.slot n).stepsDone ≠ 0 →
      exec (.slotRelease n) s = .next ((t.slotRun n 9).takeRelease n).review)) ∧
  (∀ (n : SlotId) (s : State), let x := s.slot n
    (x.state.holds = false → s.dueRelease n = none) ∧
    (∀ r, x.state.holds = true → x.releasePending = some r → s.dueRelease n = some r) ∧
    (∀ c, x.state.holds = true → x.releasePending = none → x.chan = some c →
      s.dueRelease n = if (s.view c).duplicate.isSome then some .duplicate
        else if s.loader.releasePhase.isSome then some .restart else none)) ∧
  (∀ (n : SlotId) (s : State) (c : Chan) (r : ReleaseReason), (s.slot n).chan = some c →
    let x := s.slot n
    let u := s.releaseSlot n r
    (u.slot n).state = .free ∧ (u.slot n).chan = none ∧ (u.slot n).epoch = none ∧ (u.slot n).cur = none ∧
    (u.slot n).armed = none ∧ (u.slot n).handback = none ∧ (u.slot n).tally = x.tally ∧
    (∀ l, (u.slot n).lines.get l = false ∧ (u.slot n).pulsed.get l = false) ∧ (u.slot n).pending = [] ∧
    (u.slot n).nextRepeat = [] ∧ (u.slot n).join = none ∧ (u.slot n).joinOwed = false ∧
    (u.slot n).expectedBy = none ∧ (u.slot n).restarts = 0 ∧ (u.slot n).restartPlay = none ∧
    (u.slot n).faultPending = false ∧ (u.slot n).fallbackSince = none ∧ (u.slot n).releasePending = none ∧
    (u.slot n).owedFill = none ∧
    (∀ m, m ≠ n → (∀ d, (s.slot m).chan = some d → d ≠ c ∧ s.leaderOf d ≠ some c) → u.slot m = s.slot m) ∧
    (∀ d, d ≠ c → u.view d = s.view d ∧ u.watchRec d = s.watchRec d) ∧
    (∀ d, d ≠ c → s.leaderOf d ≠ some c → u.chan d = { s.chan d with request := (u.chan d).request }) ∧
    (r ≠ .duplicate → ∀ w, s.watchRec c = some w →
      let clear : WatchRec := { w with
        beatLost := ⟨w.beatLost.value, s.now, 0⟩, mainFault := ⟨w.mainFault.value, s.now, 0⟩,
        pictureBad := ⟨w.pictureBad.value, s.now, 0⟩, pictureUnknown := ⟨w.pictureUnknown.value, s.now, 0⟩,
        linkDown := ⟨w.linkDown.value, s.now, 0⟩, orphan := false };
      let h := healthChain s.cfg (clear.evidence s.rate s.now false) 6 .nominal
      u.watchRec c = some { clear with health := h } ∧
      (r ≠ .handback → let back := (s.loader.station = .ready ∨ s.loader.station = .degraded) ∧
          (s.chan c).authority = .site ∧ h = .nominal
        (u.chan c).epoch = (s.chan c).epoch ∧
        (back → (u.chan c).authority = .main ∧ (u.chan c).nextSeq = 0 ∧
          ((s.chan c).replica ≠ .empty → (u.chan c).replica = .stale ∧ (u.chan c).cause = some .handback)) ∧
        (¬back → (u.chan c).authority = (s.chan c).authority ∧ (u.chan c).nextSeq = (s.chan c).nextSeq ∧
          (u.chan c).replica = (s.chan c).replica ∧ (u.chan c).cause = (s.chan c).cause))) ∧
    (∀ d w, r = .duplicate → (s.view c).duplicate = some d → s.watchRec c = some w →
      (u.chan c).authority = .site ∧ (u.chan c).epoch = d.epoch ∧ (u.chan c).nextSeq = 0 ∧
      (u.view c).holderClaim = d.claim ∧ (u.view c).orphanSource = none ∧
      u.watchRec c = some { w with
        orphan := false, health := healthChain s.cfg (w.evidence s.rate s.now true) 6 w.health }) ∧
    u.out = s.out ++ .word n .stop ::
      ((List.finRange 4).filter fun l => x.lines.get l).map (fun l => .word n (.line l false)) ∧
    (∃ ys y, u.log = ys ++ [y] ∧ y.kind = .release ∧ y.pos = s.now ∧ y.slot = some n ∧ y.chan = some c ∧
      y.reason = some r ∧
      y.event = (if r = .handback then x.handback.map HandbackPlan.event else x.cur.bind Cue.event) ∧
      (x.handback = none ∨ r = .handback → u.logNext = (s.logNext + 1) % 4294967296) ∧
      (∀ h, x.handback = some h → r ≠ .handback → u.logNext = (s.logNext + 1 + 1) % 4294967296 ∧
        (∃ zs z, ys = zs ++ [z] ∧ z.kind = .handbackAborted ∧ z.event = some h.event ∧ z.pos = s.now ∧
          z.slot = some n ∧ z.chan = some c) ∧
        (let cancel := OutMsg.handover c h.event h.boundary h.returnEpoch true
        (∃ q ∈ u.line.q0, q.msg = cancel) ∨ cancel ∈ u.line.cancels))) ∧
    (let ret := if r = .handback then x.handback.map HandbackPlan.returnEpoch else none
      let sent := OutMsg.release c r s.now ret s.loader.releasePhase.isSome
      (∃ q ∈ u.line.q0, q.msg = sent) ∨ sent ∈ u.line.outbox) ∧
    (∀ a, (s.chan c).anchor = some a → a.source = .air → (u.chan c).anchor = none ∧
      (u.chan c).list = (((s.modChan c fun ch => { ch with anchor := none }).walk c).chan c).list) ∧
    ((∀ a, (s.chan c).anchor = some a → a.source ≠ .air) →
      (u.chan c).anchor = (s.chan c).anchor ∧ (u.chan c).list = (s.chan c).list) ∧
    (r ≠ .duplicate → (u.view c).holder = none ∧ (u.view c).contest = .idle ∧ (u.view c).orphanSource = none ∧
      (u.view c).duplicate = none) ∧
    (∀ d, r = .duplicate → (s.view c).duplicate = some d → (u.view c).holder = some d.addr ∧
      (u.view c).holderEpoch = d.epoch ∧ (u.view c).contest = .deferred ∧ (u.view c).duplicate = none) ∧
    (r = .airFault → (u.view c).ineligible = some (s.now.add s.rate 1500)) ∧
    (∀ h, r = .handback → x.handback = some h → (u.chan c).authority = .main ∧ (u.chan c).epoch = h.returnEpoch ∧
      (u.chan c).nextSeq = 0 ∧
      ((s.chan c).replica ≠ .empty → (u.chan c).replica = .stale ∧ (u.chan c).cause = some .handback) ∧
      ((s.chan c).replica = .empty → (u.chan c).replica = .empty) ∧
      (∀ q, (u.chan c).request = some q → q.asked = []) ∧
      (s.active = true → (s.chan c).watched = true → (u.chan c).request ≠ none)))

/-! ### Releases on the line -/

/-- RELEASE_OUTBOX_OFFER, HANDOVER_CANCEL_OFFER and RELEASE_ECHO (R166, R174, R182 to R184). At the open frame event the
outbox is offered to class 0 from its head, one RELEASE for each free entry, and for a cancel the outbox goes first:
those taken stand at the queue's tail in their order, and the rest waits in its order. The echo of a RELEASE takes it
off the queue. HANDOVER_ECHO and HANDOVER_HEARD (R170, R184, R185). The echo of a HANDOVER takes it off its queue; one
without the cancel flag that bears the event, boundary and return epoch of the plan of the slot holding its channel sets
the plan's notice sent. A HANDOVER heard only counts as hearing its sender. Where a command finds the state, and the
review after it, are the model's order (log 1). -/
def Obligations.ReleasesAndHandoversWaitForRoom : Prop :=
  ((∀ s : State, s.time.frameOpen = true →
      exec .releaseOutboxOffer s = .next s.atStep.offerOutbox.review ∧
      exec .handoverCancelOffer s = .next s.atStep.offerCancels.review) ∧
    (∀ s : State, (∀ m ∈ s.line.outbox, m.cls = .zero) →
      let k := min s.line.outbox.length (12 - s.line.q0.length)
      s.offerOutbox.line.outbox = s.line.outbox.drop k ∧
      s.offerOutbox.line.q0 = s.line.q0 ++ (s.line.outbox.take k).map (fun m => ⟨m, false⟩) ∧
      s.offerOutbox.line.cancels = s.line.cancels ∧ s.offerOutbox.line.q1 = s.line.q1 ∧ s.offerOutbox.line.q2 = s.line.q2) ∧
    (∀ s : State, (∀ m ∈ s.line.cancels, m.cls = .zero) → let u := s.offerOutbox
      let k := min u.line.cancels.length (12 - u.line.q0.length)
      s.offerCancels.line.cancels = u.line.cancels.drop k ∧
      s.offerCancels.line.q0 = u.line.q0 ++ (u.line.cancels.take k).map (fun m => ⟨m, false⟩) ∧
      s.offerCancels.line.outbox = u.line.outbox) ∧
    (∀ (s : State) (m : OutMsg), s.found.sendingHead (fun m => decide (m.kind = .release)) = some m →
      exec .releaseEcho s = .next s.found.leaveHead.review)) ∧
  ((∀ (s : State) (c : Chan) (event : Nat) (h : Pos) (ret : Nat) (cancel : Bool), let t := s.found
      t.sendingHead (fun m => decide (m.kind = .handover)) = some (.handover c event h ret cancel) →
      let u := t.leaveHead
      ((cancel = true ∨ u.holdingSlot c = none) → exec .handoverEcho s = .next u.review) ∧
      (∀ n, cancel = false → u.holdingSlot c = some n →
        (∀ p, (u.slot n).handback = some p → p.event = event → p.boundary = h → p.returnEpoch = ret →
          exec .handoverEcho s =
            .next (u.modSlot n fun x => { x with handback := some { p with noticeSent := true } }).review) ∧
        ((∀ p, (u.slot n).handback = some p → p.event ≠ event ∨ p.boundary ≠ h ∨ p.returnEpoch ≠ ret) →
          exec .handoverEcho s = .next u.review))) ∧
    (∀ (rx : Reception) (s : State) (src dst : Addr) (chan event : Nat) (h : Pos) (ret cancel : Nat),
      s.found.receive rx = .deliver src dst (.handover chan event h ret cancel) →
      exec (.handoverHeard rx) s = .next (s.found.hear src).review))

/-- RELEASE_HEARD (R109, R167), by its table. A RELEASE of an illegal channel, reason or flag, or a HANDBACK with no
return epoch, only counts as hearing its sender. One of the holder clears it, with the health begun afresh and the test
of R81; a HANDBACK whose return epoch lies above the channel's also returns authority, from the holder or where none is
named; all else changes nothing. Authority returned stands under the return epoch at sequence 0, the replica STALE with
cause HANDBACK with no load, and a new round of its image request begun, with nobody asked and the first candidate the
target (R50); a holder cleared leaves its epoch and no claim. The other channels stay as they were, but that at an open
frame event the IMAGEREQs of lower channels are offered first (R183; log 1). That an EMPTY replica stays EMPTY is the
model's reading (log 16), and so is that authority returns before the test of R81 (log 24). Where a command finds the
state, and the review after it, are the model's order (log 1). -/
def Obligations.ReleasesHeardAreJudged : Prop :=
  (∀ (rx : Reception) (s : State) (src dst : Addr) (chan reason : Nat) (pos : Pos) (present ret : Nat),
    let t := s.found.hear src
    s.found.receive rx = .deliver src dst (.release chan reason pos present ret) →
    ((chanOf chan = none ∨ ReleaseReason.ofCode reason = none ∨ flagOf present = none ∨
        (ReleaseReason.ofCode reason = some .handback ∧ flagOf present = some false)) →
      exec (.releaseHeard rx) s = .next t.review) ∧
    (∀ c r f, chanOf chan = some c → ReleaseReason.ofCode reason = some r → flagOf present = some f →
      (r = .handback → f = true) →
      let up := r = .handback ∧ (t.chan c).epoch < ret
      let cleared := (t.dropHolder c).clearOrphan c
      ((t.view c).holder = some src → ¬up →
        exec (.releaseHeard rx) s = .next ((cleared.restartHealth c).authorityTest c).review) ∧
      ((t.view c).holder = some src → up → exec (.releaseHeard rx) s =
        .next (((cleared.mainReturns c (some ret)).restartHealth c).authorityTest c).review) ∧
      ((t.view c).holder = none → up → exec (.releaseHeard rx) s = .next (t.mainReturns c (some ret)).review) ∧
      ((t.view c).holder ≠ some src → ((t.view c).holder ≠ none ∨ ¬up) →
        exec (.releaseHeard rx) s = .next t.review))) ∧
  (∀ (s : State) (c : Chan) (e : Nat), let u := s.mainReturns c (some e)
    (u.chan c).authority = .main ∧ (u.chan c).epoch = e ∧ (u.chan c).nextSeq = 0 ∧ (u.chan c).list = (s.chan c).list ∧
    ((s.chan c).replica ≠ .empty → (u.chan c).replica = .stale ∧ (u.chan c).cause = some .handback) ∧
    ((s.chan c).replica = .empty → (u.chan c).replica = .empty) ∧
    ((s.chan c).replica ≠ .empty → (u.chan c).shadow = none) ∧
    (s.active = true → (s.chan c).watched = true → (u.chan c).request ≠ none) ∧
    (∀ q, (u.chan c).request = some q → q.asked = [] ∧ q.timer = 0 ∧ q.target = (u.candidates c).head? ∧
      q.stage = if (u.candidates c).isEmpty then .waiting else .asking) ∧
    (∀ d, d ≠ c → u.chan d = { s.chan d with request := (u.chan d).request }) ∧
    (s.time.frameOpen = false → ∀ d, d ≠ c → u.chan d = s.chan d)) ∧
  (∀ (s : State) (c : Chan), let u := (s.dropHolder c).clearOrphan c
    (u.view c).holder = none ∧ (u.view c).holderClaim = none ∧ (u.view c).holderEpoch = (s.view c).holderEpoch ∧
    (u.view c).orphanSource = none ∧ (∀ w, u.watchRec c = some w → w.orphan = false) ∧
    (∀ d, d ≠ c → u.view d = s.view d ∧ u.watchRec d = s.watchRec d))

/-! ### The line -/

/-- LINE_IDLE, LADDER_WAIT_EXPIRY, LINE_GOES_BUSY, MESSAGE_ECHO, ECHO_FAILED and MESSAGE_DISCARDED (R181, R182, R184,
R185). At the idle an active station with a message queued, no wait running and nothing being sent starts a wait of 8 +
32 k + a units, k being the class of its most urgent queue, one more with that class's courtesy step set. A station that
queues a message on an idle line starts its wait by the same rule then. The wait that runs out with the line idle starts
the head of its class, which stays at the head as begun; the wait that a busy line ends is abandoned; either way the
courtesy step of its class is clear. An echo takes the head off its queue and sets its class's courtesy step; a failed
echo leaves it there to be sent again. A discarded message changes nothing. That a wait keeps the class it began with,
and that one whose class has emptied sends nothing and lets a wait for what is queued start, are the model's reading
(log 7). A message is being received from the line's going busy to its next idle; one that was under way at an entry
into START, or began in START or INERT, is discarded (R179), which the model marks (log 7). Where a command finds the
state, and the review after it, are the model's order (log 1). -/
def Obligations.TheLineIsGainedByWaits : Prop :=
  (∀ t : State,
    (t.offered = some .zero ↔ t.line.q0 ≠ []) ∧ (t.offered = some .one ↔ t.line.q0 = [] ∧ t.line.q1 ≠ []) ∧
    (t.offered = some .two ↔ t.line.q0 = [] ∧ t.line.q1 = [] ∧ t.line.q2 ≠ []) ∧
    (∀ k, t.active = true → t.line.idle = true → t.line.wait = none → t.line.sending = none → t.offered = some k →
      let rung := match k with
        | .zero => 0
        | .one => if t.line.courtesy1 then 2 else 1
        | .two => if t.line.courtesy2 then 3 else 2
      t.startWait = { t with line := { t.line with wait := some ⟨k, 8 + 32 * rung + t.me⟩ } }) ∧
    ((t.active = false ∨ t.line.idle = false ∨ t.line.wait ≠ none ∨ t.line.sending ≠ none ∨ t.offered = none) →
      t.startWait = t) ∧
    ∀ m, t.enqueue m = (t.setQueue m.cls (t.queue m.cls ++ [⟨m, false⟩])).startWait) ∧
  ∀ s : State, let t := s.found
    let cleared := fun (l : Line) (k : Cls) => ({ l with
      courtesy1 := if k = .one then false else l.courtesy1
      courtesy2 := if k = .two then false else l.courtesy2 } : Line)
    (∀ k, t.active = true → t.line.wait = none → t.line.sending = none → t.offered = some k →
      let rung := match k with
        | .zero => 0
        | .one => if t.line.courtesy1 then 2 else 1
        | .two => if t.line.courtesy2 then 3 else 2
      exec .lineIdle s = .next ({ t with line := { t.line with
        idle := true, receiving := false, spoilt := false, wait := some ⟨k, 8 + 32 * rung + t.me⟩ } } : State).review) ∧
    ((t.active = false ∨ t.line.wait ≠ none ∨ t.line.sending ≠ none ∨ t.offered = none) →
      exec .lineIdle s = .next ({ t with line := { t.line with
        idle := true, receiving := false, spoilt := false } } : State).review) ∧
    (∀ w e rest, t.active = true → t.line.idle = true → t.line.wait = some w → t.queue w.cls = e :: rest →
      exec .ladderWaitExpiry s = .next (({ t with
        line := { cleared t.line w.cls with wait := none, sending := some w.cls, idle := false }
        out := t.out ++ [.line (t.messageBytes e.msg)] } : State).setQueue w.cls (⟨e.msg, true⟩ :: rest)).review) ∧
    (∀ w, t.active = true → t.line.idle = true → t.line.wait = some w → t.queue w.cls = [] →
      exec .ladderWaitExpiry s =
        .next (({ t with line := { cleared t.line w.cls with wait := none } } : State).startWait).review) ∧
    ((t.active = false ∨ t.line.idle = false ∨ t.line.wait = none) →
      exec .ladderWaitExpiry s = .next t.review) ∧
    (∀ w, t.line.wait = some w → exec .lineGoesBusy s =
      .next ({ t with line := { cleared t.line w.cls with
        wait := none, idle := false, receiving := true, spoilt := t.line.spoilt || !t.active } } : State).review) ∧
    (t.line.wait = none → exec .lineGoesBusy s = .next ({ t with line := { t.line with
      idle := false, receiving := true, spoilt := t.line.spoilt || !t.active } } : State).review) ∧
    (∀ rx, t.line.spoilt = true → t.receive rx = .discard) ∧
    (∀ m, t.sendingHead (fun m => m.kind ∈ [.edit, .beacon, .verdict, .reply]) = some m →
      exec .messageEcho s = .next t.leaveHead.review) ∧
    (∀ k, t.line.sending = some k →
      (t.leaveHead.queue k = (t.queue k).drop 1) ∧ (∀ j, j ≠ k → t.leaveHead.queue j = t.queue j) ∧
      t.leaveHead.line.sending = none ∧
      t.leaveHead.line.courtesy1 = (if k = .one then true else t.line.courtesy1) ∧
      t.leaveHead.line.courtesy2 = (if k = .two then true else t.line.courtesy2)) ∧
    exec .echoFailed s = .next ({ t with line := { t.line with sending := none } } : State).review ∧
    ∀ rx, exec (.messageDiscarded rx) s = .next t.review

/-- Messages are framed as R180 gives: whatever the state, a message whose payload has at most 240 bytes, from a station
and to a destination of one byte each, passes the delimiter, length and check code tests of R185 at every receiver, and
is read as its destination, source, kind and payload. The payloads this station sends (R187): each kind whose fields lie
in their widths passes the length test and is read as those very fields, a channel, reason or verdict by its number; a
BEACON is read as the state stands, its CURRENT set holding just the watched channels that are CURRENT; an IMAGE of
count 0 gives the channel asked for, counts 0 and no body, and free values between (log 9); a RELEASE without a return
epoch carries 0 in its place, the model's choice (log 37). A REPLY lays out its tag, code, part and count before its
items (R189). The payloads it only hears are read by the same table: the bytes of AIRBEAT, TIMEMARK, RELAYSTATE and
COMMAND give back their fields. -/
def Obligations.MessagesSentAreReadBack : Prop :=
  (∀ (s : State) (m : OutMsg), (s.payload m).length ≤ 240 → s.me < 256 → m.dst < 256 →
    readFrame ⟨true, s.messageBytes m⟩ = some ⟨m.dst, s.me, m.kind.code, s.payload m⟩ ∧
    Kind.ofCode m.kind.code = some m.kind) ∧
  (∀ s : State,
    let wide := fun n : Nat => n < 4294967296
    let place := fun p : Pos => p.day < 65536 ∧ p.frame < 16777216
    let bit := fun b : Bool => if b then 1 else 0
    let reads := fun (m : OutMsg) (x : Msg) =>
      lengthFits m.kind (s.payload m) = true ∧ readMsg m.kind (s.payload m) = some x
    (∀ c, chanOf (chanNo c) = some c) ∧ (∀ b, flagOf (bit b) = some b) ∧
    (∀ r, ReleaseReason.ofCode (ReleaseReason.code r) = some r) ∧ (∀ v, Verdict.ofCode (Verdict.code v) = some v) ∧
    (∀ c k n, k.weight < 65536 → reads (.claim c k n) (.claim (chanNo c) k.weight (bit k.forced))) ∧
    (∀ c k e, k.weight < 65536 → wide e → reads (.take c k e) (.take (chanNo c) k.weight (bit k.forced) e)) ∧
    (∀ c r p e ph, place p → (∀ n, e = some n → wide n) →
      reads (.release c r p e ph) (.release (chanNo c) r.code p (bit e.isSome) (e.getD 0))) ∧
    (∀ c ev h e x, wide ev → place h → wide e → reads (.handover c ev h e x) (.handover (chanNo c) ev h e (bit x))) ∧
    (∀ c v, reads (.verdict c v) (.verdict (chanNo c) v.code)) ∧
    (∀ c e n op bs, wide e → wide n → reads (.edit c e n op bs) (.edit (chanNo c) e n op bs)) ∧
    (∀ c d, reads (.imagereq c d) (.imagereq (BitVec.ofNat 8 (chanNo c)))) ∧
    (∀ d c e id b i n r body, wide e → wide id → wide b → i < 65536 → n < 65536 → r < 256 →
      reads (.image d c e id b i n r body) (.image (chanNo c) e id b i n r body)) ∧
    (∀ d x k, ∃ e id b i, reads (.imageNone d x k) (.image x.toNat e id b i 0 0 [])) ∧
    ((∀ x ∈ s.onAirList, wide x.2) → ∃ b, reads .beacon (.beacon b) ∧ b.station = s.loader.station.code ∧
      b.time = s.time.timeState.code ∧ b.ref = s.time.refState.code ∧
      b.flags = (if s.loader.clamped then 1 else 0) + (if s.loader.defaulted then 2 else 0) ∧
      b.freeSlots = s.freeSlots ∧ b.contest = s.claims.current.elim 0 chanNo ∧
      (∀ c : Chan, b.current.getLsbD c.val = true ↔ (s.chan c).watched = true ∧ (s.chan c).replica = .current) ∧
      b.onAir = s.onAirList.map fun x => (chanNo x.1, x.2)) ∧
    (∀ d tag code part count items, s.payload (.reply d tag code part count items) =
      BitVec.ofNat 8 (tag / 256) :: BitVec.ofNat 8 tag :: BitVec.ofNat 8 code.code :: BitVec.ofNat 8 part ::
        BitVec.ofNat 8 count :: items)) ∧
  (let wide := fun n : Nat => n < 4294967296
    let place := fun p : Pos => p.day < 65536 ∧ p.frame < 16777216
    let reads := fun (k : Kind) (bs : List Byte) (x : Msg) => lengthFits k bs = true ∧ readMsg k bs = some x
    let beat := fun b : RawBeat => toBE 1 b.chan ++ toBE 4 b.epoch ++ toBE 1 b.main ++ toBE 4 b.event ++
      toBE 4 b.offset ++ toBE 2 b.report.day ++ toBE 3 b.report.frame ++ toBE 1 b.present ++ toBE 4 b.preparedEvent ++
      toBE 2 b.preparedPos.day ++ toBE 3 b.preparedPos.frame
    let fits := fun b : RawBeat => b.chan < 256 ∧ wide b.epoch ∧ b.main < 256 ∧ wide b.event ∧ wide b.offset ∧
      place b.report ∧ b.present < 256 ∧ wide b.preparedEvent ∧ place b.preparedPos
    (∀ bs : List RawBeat, 1 ≤ bs.length → bs.length ≤ 8 → (∀ b ∈ bs, fits b) →
      reads .airbeat (toBE 1 bs.length ++ bs.flatMap beat) (.airbeat bs)) ∧
    (∀ r p, r < 256 → place p → reads .timemark (toBE 1 r ++ toBE 2 p.day ++ toBE 3 p.frame) (.timemark r p)) ∧
    (∀ l, l < 256 → reads .relaystate (toBE 1 l) (.relaystate l)) ∧
    (∀ tag code bs, tag < 65536 → code < 256 →
      reads .command (toBE 2 tag ++ toBE 1 code ++ bs) (.command tag code bs)))

/-! ### Console commands -/

/-- QUERY_STATION, QUERY_CHANNEL, QUERY_LIST and QUERY_ASRUN (R177, R189, R192, R193), directed to the station outside a
release phase: each is answered with its code and items, and changes nothing but the class 1 queue. The reply goes out
in its parts, numbered from 0 with their count, each entering class 1, in place of the oldest waiting REPLY when that is
full, or dropped with none waiting (R183). A reply's items are cut into parts of whole items in order, none above 235
bytes where no item is. The items are laid out by the table of R189: a code, the length of the value, and the value's
fields at their widths, a position in 9 bytes with its label behind it, or 9 bytes of 255 where it is absent; what
stands in a field that is absent, and what a relay or console shows as its presence and link, is in part the model's
reading (log 13). A read of the as-run log (R177), for a log in its form (R176) and a start below 2^32. With d the next
sequence number less the start on the ring of 2^32: at 0 no entry is returned; from 1 to the number held, the entries
from that sequence on; above it the entries from the oldest on, with GAP. At most 8, and at most the count, are
returned. Where a command finds the state, and the review after it, are the model's order (log 1). -/
def Obligations.QueriesAnswerWithTheirItems : Prop :=
  ((∀ (rx : Reception) (s : State) (src dst : Addr) (tag code : Nat) (bs : List Byte), let t := s.found.hear src
      s.found.receive rx = .deliver src dst (.command tag code bs) → dst ≠ 0 → t.loader.releasePhase = none →
      (readCommand code bs = some .queryStation →
        exec (.queryStation rx) s = .next (t.answer src tag .done (t.stationItem ::
          ((List.finRange 8).map t.slotItem ++ (List.finRange 4).map t.probeItem ++
            (List.range 30).map fun i => t.peerItem (i + 1)))).review) ∧
      (∀ c, readCommand code bs = some (.queryChannel c) →
        let watch := match t.watchRec c with
          | some w => t.watchItem c w :: w.sources.map t.sourceItem
          | none => []
        let slot := match t.slotFor c with
          | some n =>
            t.slotItem n :: ((if (t.slot n).state = .joining then ((t.slot n).join.map t.planItem).toList else []) ++
              ((t.slot n).handback.map t.handbackItem).toList)
          | none => []
        let rest := t.viewItem c :: ((t.view c).exclusions.map (t.exclusionItem c) ++ slot)
        ((t.chan c).watched = true → exec (.queryChannel rx) s =
          .next (t.answer src tag .done (t.replicaItem c :: (watch ++ rest))).review) ∧
        ((t.chan c).watched = false → exec (.queryChannel rx) s =
          .next (t.answer src tag .notWatched (t.replicaItem c :: rest)).review)) ∧
      (∀ c start count, readCommand code bs = some (.queryList c start count) →
        let served := fun run : List Rec =>
          .next (t.answer src tag .done (t.replicaItem c :: (run.take (min 6 count)).map t.eventItem)).review
        ((t.chan c).watched = false → exec (.queryList rx) s = .next (t.answer src tag .notWatched []).review) ∧
        ((t.chan c).watched = true → start = 0 → exec (.queryList rx) s = served (t.chan c).list) ∧
        ((t.chan c).watched = true → start ≠ 0 → findEvent start (t.chan c).list = none →
          exec (.queryList rx) s = .next (t.answer src tag .notFound []).review) ∧
        ((t.chan c).watched = true → start ≠ 0 → (findEvent start (t.chan c).list).isSome = true →
          exec (.queryList rx) s = served (eventsAfter start (t.chan c).list))) ∧
      (∀ start count, readCommand code bs = some (.queryAsrun start count) →
        exec (.queryAsrun rx) s = .next (t.answer src tag .done
          ((t.readLog start count).1.map t.asrunItem ++ [t.asrunEnd (t.readLog start count).2])).review)) ∧
    (∀ (s : State) (dst : Addr) (tag : Nat) (code : ResultCode) (items : List (List Byte)),
      (∃ q w, s.answer dst tag code items = { s with line := { s.line with q1 := q, wait := w } }) ∧
      let parts := packItems [] items
      s.answer dst tag code items = (parts.zipIdx.foldl
        (fun t x => t.offerReply (.reply dst tag code x.2 parts.length x.1)) s)) ∧
    (∀ (s : State) (m : OutMsg), m.cls = .one →
      (s.hasRoom .one = true → s.offerReply m = s.enqueue m) ∧
      (s.hasRoom .one = false → s.waiting State.isReply = false → s.offerReply m = s) ∧
      (∀ as e bs, s.hasRoom .one = false → s.line.q1 = as ++ e :: bs → e.begun = false → State.isReply e.msg = true →
        (∀ y ∈ as, y.begun = true ∨ State.isReply y.msg = false) →
        (s.offerReply m).line.q1 = as ++ bs ++ [⟨m, false⟩])) ∧
    (∀ items : List (List Byte), ∃ groups : List (List (List Byte)), groups.flatten = items ∧
      packItems [] items = groups.map List.flatten ∧
      ((∀ x ∈ items, x.length ≤ 235) → ∀ p ∈ packItems [] items, p.length ≤ 235))) ∧
  (∀ s : State,
    let laid := fun (item : List Byte) (code length : Nat) (fields : List (List Byte)) =>
      item = toBE 1 code ++ toBE 1 length ++ fields.flatten ∧ fields.flatten.length = length
    let pos := fun p : Option Pos => p.elim (List.replicate 9 255#8) fun p =>
      let l := Label.ofFrame s.rate p.frame
      toBE 2 p.day ++ toBE 3 p.frame ++ toBE 1 l.hh ++ toBE 1 l.mm ++ toBE 1 l.ss ++ toBE 1 l.ff
    let bit := fun b : Bool => [if b then 1#8 else 0#8]
    let no := fun c : Option Chan => toBE 1 (c.elim 0 chanNo)
    let claim := fun k : Option Claim => bit (k.elim false Claim.forced) ++ toBE 2 (k.elim 0 Claim.weight)
    let flag := fun f : EvFlag => bit f.value ++ pos (some f.since) ++ toBE 2 f.duration
    let signed := fun n : Int => toBE 4 ((max (-2147483647) (min 2147483647 n)) % 4294967296).toNat
    laid s.stationItem 1 22 [toBE 1 s.loader.station.code, toBE 1 s.time.timeState.code, toBE 1 s.time.refState.code,
      toBE 1 s.configFlags, pos (some s.now), toBE 2 s.free.length, toBE 1 s.repl.parked.length, no s.claims.current,
      no s.claims.latch, toBE 4 s.logNext] ∧
    (∀ n, let x := s.slot n
      laid (s.slotItem n) 2 53 [toBE 1 n.val, toBE 1 x.state.code, no x.chan, toBE 4 (x.epoch.getD 0),
        toBE 4 ((x.cur.bind Cue.event).getD 0), pos (x.cur.map Cue.actual), pos (x.cur.bind Cue.cueEnd),
        toBE 4 (x.armed.elim 0 Armed.event), pos (x.armed.map Armed.firePos), bit (x.armed.elim false Armed.locked),
        toBE 1 ((if x.lines.get 0 then 1 else 0) + (if x.lines.get 1 then 2 else 0) + (if x.lines.get 2 then 4 else 0) +
          (if x.lines.get 3 then 8 else 0)), pos x.fallbackSince]) ∧
    (∀ p, let x := s.probe p
      laid (s.probeItem p) 3 11 [toBE 1 p.val, no x.chan, toBE 1 x.verdict.code, toBE 1 x.silence, toBE 1 x.lockLoss,
        toBE 1 x.darkRun, toBE 1 x.flatRun, toBE 1 x.freezeRun, toBE 1 x.gridCount, toBE 1 (x.mean.getD 255),
        toBE 1 (x.active.getD 255)]) ∧
    (∀ a, let p := s.peer a
      (a = s.me → laid (s.peerItem a) 4 9 [toBE 1 a, List.replicate 8 0#8]) ∧
      (a ≠ s.me → laid (s.peerItem a) 4 9 [toBE 1 a, bit p.present, toBE 2 p.count,
        toBE 1 (p.station.elim 0 StationState.code), toBE 1 (p.time.elim 0 TimeState.code), toBE 1 p.freeSlots,
        toBE 1 p.contest, toBE 1 (if 17 ≤ a ∧ a ≤ 20 then p.link.code else 0)])) ∧
    (∀ c, let ch := s.chan c
      laid (s.replicaItem c) 5 43 [toBE 1 (chanNo c), bit ch.watched, toBE 1 ch.replica.code,
        toBE 1 (ch.cause.elim 0 StaleCause.code), toBE 4 ch.epoch, toBE 4 ch.nextSeq, toBE 1 ch.authority.code,
        bit ch.withheld, toBE 2 ch.list.length, toBE 4 (ch.anchor.elim 0 Anchor.event),
        toBE 1 (ch.anchor.elim 0 fun a => a.source.code), pos (ch.anchor.map Anchor.actual),
        pos (ch.anchor.map Anchor.report), ch.anchor.elim (toBE 4 0) fun a => signed (Pos.diff s.rate a.report s.now)]) ∧
    (∀ c w, let b := w.lastBeat
      laid (s.watchItem c w) 6 103 [toBE 1 (chanNo c), toBE 1 w.health.code, toBE 2 w.beatTimer, bit w.inhibit,
        bit w.orphan, flag w.beatLost, flag w.mainFault, flag w.pictureBad, flag w.pictureUnknown, flag w.linkDown,
        bit b.isSome, toBE 4 (b.elim 0 BeatEntry.epoch), toBE 1 (b.elim 0 fun b => b.main.code),
        toBE 4 (b.elim 0 BeatEntry.event), toBE 4 (b.elim 0 BeatEntry.offset), pos (b.map BeatEntry.report),
        bit (b.bind BeatEntry.prepared).isSome, toBE 4 ((b.bind BeatEntry.prepared).elim 0 Prod.fst),
        pos ((b.bind BeatEntry.prepared).map Prod.snd)]) ∧
    (∀ x, laid (s.sourceItem x) 7 13 [toBE 1 x.addr, toBE 1 x.verdict.code, pos (some x.heardAt),
      toBE 2 (min 65535 (Pos.diff s.rate x.heardAt s.now).toNat)]) ∧
    (∀ c, let v := s.view c
      laid (s.viewItem c) 8 36 [toBE 1 (chanNo c), toBE 1 (v.holder.getD 0), toBE 4 v.holderEpoch, claim v.holderClaim,
        toBE 1 v.contest.code, claim v.own, toBE 1 (v.rival.elim 0 Rival.addr), claim (v.rival.map Rival.claim),
        pos (v.rival.map Rival.heardAt), pos v.ineligible, toBE 1 (v.orphanSource.getD 0)]) ∧
    (∀ c x, laid (s.exclusionItem c x) 9 11 [toBE 1 (chanNo c), toBE 1 x.1, pos (some x.2)]) ∧
    (∀ p, laid (s.planItem p) 10 19 [toBE 1 p.kind.code, toBE 1 p.basis.code, pos (some p.join), toBE 4 (p.event.getD 0),
      toBE 4 p.offset]) ∧
    (∀ h, laid (s.handbackItem h) 11 19 [toBE 4 h.event, pos (some h.boundary), toBE 4 h.returnEpoch, bit h.noticeSent,
      bit h.committed]) ∧
    (∀ e, let d := e.derived
      laid (s.eventItem e) 12 ((e.stated.bytes s.rate).length + 23) [e.stated.bytes s.rate, pos d.start, pos d.stop,
        toBE 1 ((if d.start.isSome && d.stop.isSome then 1 else 0) + (if d.eclipsed then 2 else 0) + (if d.truncated then 4 else 0) +
          (if d.lateStart then 8 else 0) + (if d.past then 16 else 0)), toBE 4 d.gap]) ∧
    (∀ e, laid (s.asrunItem e) 13 34 [toBE 4 e.seq, pos (some e.pos), toBE 1 (e.slot.elim 255 Fin.val), no e.chan,
      toBE 4 (e.event.getD 0), toBE 1 e.kind.code, e.lateness.elim (toBE 4 2147483648) signed, pos e.tally,
      toBE 1 (e.reason.elim 0 ReleaseReason.code)]) ∧
    (∀ gap, laid (s.asrunEnd gap) 14 5 [toBE 4 s.logNext, bit gap])) ∧
  (∀ (s : State) (start count : Nat), s.LogSound → start < 4294967296 →
      let d := (s.logNext + (4294967296 - start)) % 4294967296
      let k := min 8 count
      (d = 0 → s.readLog start count = ([], false)) ∧
      (1 ≤ d → d ≤ s.log.length → (s.readLog start count).2 = false ∧
        (s.readLog start count).1.length = min k d ∧
        ∀ j, j < min k d → ((s.readLog start count).1[j]?).map AsRun.seq = some ((start + j) % 4294967296)) ∧
      (s.log.length < d → s.readLog start count = (s.log.take k, true)))

/-- The form of a COMMAND (R189, R191): the code is one of the eleven, the operands have the length it gives, the
channel lies from 1 to 32, an INHIBIT's value is 0 or 1, a HANDBACK's mode is 1, or 2 with an event id other than 0.
BAD_COMMAND, and what comes before any command's own checks (R185 step 6, R191, R203). A directed COMMAND too short to
be read is answered BAD COMMAND, its source not heard. One of bad form is answered BAD COMMAND when directed to the
station or when its code is INHIBIT's, and else only counts as hearing its console. A well-formed one for destination 0,
INHIBIT aside, only counts as hearing its console. In the release phase every other command is answered NOT READY, with
no effect; that a broadcast INHIBIT is answered so too is the model's reading (log 17). Where a command finds the state,
and the review after it, are the model's order (log 1). -/
def Obligations.CommandsAreJudgedInOrder : Prop :=
  (∀ (code : Nat) (bs : List Byte),
      let channel := fun b : Byte => 1 ≤ b.toNat ∧ b.toNat ≤ 32
      (readCommand code bs).isSome = true ↔
        ((code = 1 ∨ code = 11) ∧ bs = []) ∨
        ((code = 2 ∨ code = 5 ∨ code = 6 ∨ code = 8) ∧ ∃ b, bs = [b] ∧ channel b) ∨
        (code = 3 ∧ bs.length = 6 ∧ ∃ b rest, bs = b :: rest ∧ channel b) ∨
        (code = 4 ∧ bs.length = 5) ∨
        (code = 7 ∧ ∃ b f : Byte, bs = [b, f] ∧ channel b ∧ f.toNat ≤ 1) ∨
        (code = 9 ∧ ∃ (b m : Byte) (id : List Byte), bs = b :: m :: id ∧ id.length = 4 ∧ channel b ∧
          (m.toNat = 1 ∨ (m.toNat = 2 ∧ beNat id ≠ 0))) ∨
        (code = 10 ∧ ∃ b op rest, bs = b :: op :: rest ∧ channel b)) ∧
  ((∀ (rx : Reception) (s : State) (src : Addr) (tag : Nat), s.found.receive rx = .badLength src tag →
      exec (.badCommand rx) s = .next (s.found.answer src tag .badCommand []).review) ∧
    (∀ (rx : Reception) (s : State) (src dst : Addr) (tag code : Nat) (bs : List Byte), let t := s.found.hear src
      s.found.receive rx = .deliver src dst (.command tag code bs) →
      (readCommand code bs = none →
        ((dst ≠ 0 ∨ code = 7) → exec (.badCommand rx) s = .next (t.answer src tag .badCommand []).review) ∧
        (dst = 0 → code ≠ 7 → exec (.badCommand rx) s = .next t.review)) ∧
      ((readCommand code bs).isSome = true →
        ∀ f, (code, f) ∈ [(1, Instr.queryStation), (2, .queryChannel), (3, .queryList), (4, .queryAsrun), (5, .forceTake),
            (6, .forceRelease), (7, .inhibit), (8, .nextCmd), (9, .handback), (10, .editRequest), (11, .restart)] →
        (dst = 0 → code ≠ 7 → exec (f rx) s = .next t.review) ∧
        ((dst ≠ 0 ∨ code = 7) → t.loader.releasePhase ≠ none →
          exec (f rx) s = .next (t.answer src tag .notReady []).review))))

/-- FORCE_RELEASE and INHIBIT outside a release phase (R82, R164, R194, R195). FORCE RELEASE is refused for a channel
not watched, or not held by a slot of this station with the view naming it holder; else it hands the slot a release with
reason OPERATOR, which one already handed absorbs. INHIBIT sets the flag of a watched channel to its value; of one not
watched it is refused when directed to the station, and passed over when broadcast. Where a command finds the state, and
the review after it, are the model's order (log 1). -/
def Obligations.OperatorsReleaseAndInhibit : Prop :=
  ∀ (rx : Reception) (s : State) (src dst : Addr) (tag code : Nat) (bs : List Byte) (c : Chan), let t := s.found.hear src
    s.found.receive rx = .deliver src dst (.command tag code bs) → t.loader.releasePhase = none →
    (readCommand code bs = some (.forceRelease c) → dst ≠ 0 →
      ((t.chan c).watched = false → exec (.forceRelease rx) s = .next (t.answer src tag .notWatched []).review) ∧
      ((t.chan c).watched = true → ((t.view c).holder ≠ some t.me ∨ t.holdingSlot c = none) →
        exec (.forceRelease rx) s = .next (t.answer src tag .notOnAirHere []).review) ∧
      (∀ n, (t.chan c).watched = true → (t.view c).holder = some t.me → t.holdingSlot c = some n →
        exec (.forceRelease rx) s = .next ((t.modSlot n fun x =>
          { x with releasePending := some (x.releasePending.getD .operator) }).answer src tag .done []).review)) ∧
    (∀ on, readCommand code bs = some (.inhibit c on) →
      ((t.chan c).watched = true → exec (.inhibit rx) s =
        .next ((t.modWatch c fun w => { w with inhibit := on }).answer src tag .done []).review) ∧
      ((t.chan c).watched = false → dst ≠ 0 →
        exec (.inhibit rx) s = .next (t.answer src tag .notWatched []).review) ∧
      ((t.chan c).watched = false → dst = 0 → exec (.inhibit rx) s = .next t.review))

/-- NEXT and HANDBACK outside a release phase (R155, R168, R170, R196). Each is refused in the order of its table, a
channel not watched first and one not held here second. NEXT arms the event found at now plus the lock lead, locked,
late by nothing, its CUE owed for a CLIP. HANDBACK records the plan of the event and boundary found, with the channel's
epoch plus one, notice sent and committed clear, and queues a HANDOVER of it in class 0. The handback boundary (R169).
NEXT BOUNDARY searches the events after the current one, under a fill those after the AIR anchor's event or, with none,
from the first that is not past: those eclipsed or past are passed over, an unresolved start ends the search, one whose
boundary position lies short of the handback lead is passed over, and the first other is the handback event; with none
there is no boundary. AT takes the event named, when it stands after the current one, is neither eclipsed nor past and
lies that far ahead, and else finds none. An event's boundary position is its armed fire position while it is armed,
else its derived start. Where a command finds the state, and the review after it, are the model's order (log 1). -/
def Obligations.NextAndHandbackAreJudgedInOrder : Prop :=
  (∀ (rx : Reception) (s : State) (src dst : Addr) (tag code : Nat) (bs : List Byte) (c : Chan), let t := s.found.hear src
      s.found.receive rx = .deliver src dst (.command tag code bs) → dst ≠ 0 → t.loader.releasePhase = none →
      let ahead := exec (.nextCmd rx) s
      let back := exec (.handback rx) s
      let refused := fun code : ResultCode =>
        (Host.Outcome.next (t.answer src tag code []).review : Host.Outcome State Fault Refusal)
      let away := (t.view c).holder ≠ some t.me ∨ t.holdingSlot c = none
      (readCommand code bs = some (.next c) →
        ((t.chan c).watched = false → ahead = refused .notWatched) ∧
        ((t.chan c).watched = true → away → ahead = refused .notOnAirHere) ∧
        ∀ n, (t.chan c).watched = true → (t.view c).holder = some t.me → t.holdingSlot c = some n →
          let x := t.slot n
          let locked := ∃ a, x.armed = some a ∧ a.locked = true
          (x.state = .joining → ahead = refused .busy) ∧
          (x.state ≠ .joining → x.handback ≠ none → ahead = refused .handbackPending) ∧
          (x.state ≠ .joining → x.handback = none → locked → ahead = refused .locked) ∧
          (x.state ≠ .joining → x.handback = none → ¬locked → t.nextEvent n = none → ahead = refused .notFound) ∧
          (∀ e skipped, x.state ≠ .joining → x.handback = none → ¬locked → t.nextEvent n = some (e, skipped) →
            let a : Armed := ⟨e.stated.id, t.now.add t.rate t.cfg.lockLead, t.now, 0, true, skipped, e.stated.source.isClip⟩
            ahead = .next ((t.modSlot n fun x => { x with armed := some a }).answer src tag .done []).review)) ∧
      (∀ at?, readCommand code bs = some (.handback c at?) →
        ((t.chan c).watched = false → back = refused .notWatched) ∧
        ((t.chan c).watched = true → away → back = refused .notOnAirHere) ∧
        ∀ n, (t.chan c).watched = true → (t.view c).holder = some t.me → t.holdingSlot c = some n →
          let x := t.slot n
          let fresh := t.beatsFresh c = true
          let unknown := ∃ id, at? = some id ∧ findEvent id (t.chan c).list = none
          (x.state = .joining → back = refused .busy) ∧
          (x.state ≠ .joining → ¬fresh → back = refused .mainSilent) ∧
          (x.state ≠ .joining → fresh → x.handback ≠ none → back = refused .handbackPending) ∧
          (x.state ≠ .joining → fresh → x.handback = none → unknown → back = refused .notFound) ∧
          (x.state ≠ .joining → fresh → x.handback = none → ¬unknown → t.findBoundary n c at? = none →
            back = refused .noBoundary) ∧
          (∀ e h, x.state ≠ .joining → fresh → x.handback = none → ¬unknown → t.findBoundary n c at? = some (e, h) →
            let ret := min 4294967295 ((t.chan c).epoch + 1)
            (t.hasRoom .zero = false → back = refused .busy) ∧
            (t.hasRoom .zero = true → back = .next (((t.modSlot n fun x =>
                { x with handback := some ⟨e.stated.id, h, ret, false, false⟩ }).enqueue
                  (.handover c e.stated.id h ret false)).answer src tag .done []).review)))) ∧
  (∀ (s : State) (n : SlotId) (c : Chan), let x := s.slot n
      let list := (s.chan c).list
      s.findBoundary n c none = s.nextBoundary n (s.afterCurrent n c) ∧ s.nextBoundary n [] = none ∧
      (∀ id, (∀ e ∈ s.afterCurrent n c, e.stated.id ≠ id) → s.findBoundary n c (some id) = none) ∧
      (∀ id, x.state ≠ .joining → x.cur.bind Cue.event = some id → s.afterCurrent n c = eventsAfter id list) ∧
      (x.state ≠ .joining → x.cur.bind Cue.event = none →
        (∀ a before e after, (s.chan c).anchor = some a → a.source = .air → splitAt a.event list = some (before, e, after) →
          s.afterCurrent n c = after) ∧
        ((∀ a, (s.chan c).anchor = some a → a.source = .air → splitAt a.event list = none) →
          ∃ kept, list = kept ++ s.afterCurrent n c ∧ ∀ z ∈ kept, z.derived.past = true))) ∧
  (∀ (s : State) (n : SlotId) (c : Chan) (e : Rec) (h : Pos),
      let far := Pos.atOrPast s.rate h (s.now.add s.rate s.cfg.handbackLead) = true
      let position := if (s.slot n).armed.map Armed.event = some e.stated.id then (s.slot n).armed.map Armed.firePos
        else e.derived.start
      (∀ at?, s.findBoundary n c at? = some (e, h) →
        e ∈ s.afterCurrent n c ∧ e.derived.eclipsed = false ∧ e.derived.past = false ∧ position = some h ∧ far) ∧
      (∀ id, s.findBoundary n c (some id) = some (e, h) → e.stated.id = id) ∧
      (∀ id, findEvent id (s.afterCurrent n c) = some e → e.derived.eclipsed = false → e.derived.past = false →
        position = some h → far → s.findBoundary n c (some id) = some (e, h)) ∧
      (∀ es, e.derived.eclipsed = true ∨ e.derived.past = true → s.nextBoundary n (e :: es) = s.nextBoundary n es) ∧
      (∀ es, e.derived.eclipsed = false → e.derived.past = false →
        (e.derived.start = none → s.nextBoundary n (e :: es) = none) ∧
        (e.derived.start ≠ none → position = some h → far → s.nextBoundary n (e :: es) = some (e, h)) ∧
        (e.derived.start ≠ none → position = some h → ¬far → s.nextBoundary n (e :: es) = s.nextBoundary n es)))

/-- EDIT_REQUEST outside a release phase (R61, R62, R196): refused for a channel not watched, not held here, or not
CURRENT; for operands that cannot be read; with the code of the first content check that fails; LOCKED by the lock
checks; BUSY with class 1 full. A request that passes is applied, its EDIT queued in class 1 with the channel's epoch
and the sequence as it stood, the sequence moves on, and it is answered DONE. The broadcast carries the operand bytes
the operation reads (log 10), a payload above 240 bytes among them (log 33). The lock checks: a profile is never
refused; an edit of the event of a handback plan, or of a locked next cue, is. The current event is the join event while
JOINING, else the current cue's, else, under a fill, the AIR anchor's (R150), where the list holds it; that it is the
place an INSERT AFTER is judged by as well is the model's reading (log 21). An edit on an event before it, an INSERT
AFTER such an event, and an edit on the current event itself are refused, but for a new duration of the current cue's
event, not JOINING, whose end, counted from the start its occurrences are reckoned from (the model's reading, log 22),
lies at or past now plus the lock lead; an INSERT AFTER the current event is refused while JOINING or with the next cue
locked; and what lies behind it is allowed but for those rows. That a first place is refused exactly while an event is
current or the next is locked, and that an event between the current and the armed next one is free, are the model's
readings (log 21). Where a command finds the state, and the review after it, are the model's order (log 1). -/
def Obligations.EditRequestsAreJudgedInOrder : Prop :=
  (∀ (rx : Reception) (s : State) (src dst : Addr) (tag code : Nat) (bs : List Byte) (c : Chan) (op : Byte)
    (operands : List Byte), let t := s.found.hear src
    s.found.receive rx = .deliver src dst (.command tag code bs) → dst ≠ 0 → t.loader.releasePhase = none →
    readCommand code bs = some (.editRequest c op operands) →
    let out := exec (.editRequest rx) s
    let refused := fun code : ResultCode =>
      (Host.Outcome.next (t.answer src tag code []).review : Host.Outcome State Fault Refusal)
    let open_ := (t.chan c).watched = true ∧ (t.view c).holder = some t.me ∧ (t.chan c).replica = .current
    ((t.chan c).watched = false → out = refused .notWatched) ∧
    ((t.chan c).watched = true → (t.view c).holder ≠ some t.me → out = refused .notOnAirHere) ∧
    ((t.chan c).watched = true → (t.view c).holder = some t.me → (t.chan c).replica ≠ .current →
      out = refused .notCurrent) ∧
    (open_ → readEdit op operands = none → out = refused .badCommand) ∧
    ∀ e rest, open_ → readEdit op operands = some (e, rest) →
      let locks := ∃ n, t.holdingSlot c = some n ∧ t.lockRefuses n c e = true
      (∀ k, t.contentCheck c e = some k → out = refused k) ∧
      (t.contentCheck c e = none → locks → out = refused .locked) ∧
      (t.contentCheck c e = none → ¬locks → t.hasRoom .one = false → out = refused .busy) ∧
      (t.contentCheck c e = none → ¬locks → t.hasRoom .one = true → out =
        .next ((((t.applyEdit c e).enqueue (.edit c (t.chan c).epoch (t.chan c).nextSeq op
          (operands.take (operands.length - rest.length)))).advanceSeq c).answer src tag .done []).review)) ∧
  (∀ (s : State) (n : SlotId) (c : Chan), let x := s.slot n
    (∀ p, s.lockRefuses n c (.setProfile p) = false) ∧
    (∀ r, s.lockRefuses n c (.insertAfter none r) = true ↔
      (s.lockPlace n c ≠ none ∨ ∃ a, x.armed = some a ∧ a.locked = true)) ∧
    (∀ (e : EditOp) id, e.target = some id →
      ((∃ h, x.handback = some h ∧ h.event = id) ∨ (∃ a, x.armed = some a ∧ a.locked = true ∧ a.event = id)) →
      s.lockRefuses n c e = true)) ∧
  (∀ (s : State) (n : SlotId) (c : Chan), let x := s.slot n
    let list := (s.chan c).list
    let held := fun id : Option Nat => id.bind fun id => if (findEvent id list).isSome then some id else none
    (x.state = .joining → s.lockPlace n c = held (x.join.bind Plan.event)) ∧
    (∀ cue id, x.state ≠ .joining → x.cur = some cue → cue.event = some id → s.lockPlace n c = held (some id)) ∧
    (x.state ≠ .joining → x.cur.bind Cue.event = none →
      (∀ a, (s.chan c).anchor = some a → a.source = .air → s.lockPlace n c = held (some a.event)) ∧
      ((∀ a, (s.chan c).anchor = some a → a.source ≠ .air) → s.lockPlace n c = none)) ∧
    ∀ place before cur after, s.lockPlace n c = some place → splitAt place list = some (before, cur, after) →
      let locked := ∃ a, x.armed = some a ∧ a.locked = true
      let barred := fun id : Nat =>
        (∃ h, x.handback = some h ∧ h.event = id) ∨ (∃ a, x.armed = some a ∧ a.locked = true ∧ a.event = id)
      (∀ (e : EditOp) z, e.target = some z.stated.id → z ∈ before → z.stated.id ≠ place →
        (x.state = .joining ∨ x.cur.bind Cue.event ≠ some z.stated.id) → s.lockRefuses n c e = true) ∧
      (∀ z r, z ∈ before → z.stated.id ≠ place → s.lockRefuses n c (.insertAfter (some z.stated.id) r) = true) ∧
      (∀ r, s.lockRefuses n c (.insertAfter (some place) r) = true ↔ (x.state = .joining ∨ locked)) ∧
      (∀ e : EditOp, e.target = some place → (e.duration = none ∨ x.state = .joining ∨ x.cur.bind Cue.event ≠ some place) →
        s.lockRefuses n c e = true) ∧
      (∀ (e : EditOp) d cue, e.target = some place → e.duration = some d → x.state ≠ .joining → x.cur = some cue →
        cue.event = some place → ¬barred place → (s.lockRefuses n c e = false ↔
          Pos.atOrPast s.rate (cue.anchored.add s.rate d) (s.now.add s.rate s.cfg.lockLead) = true)) ∧
      (∀ id, id ≠ place → (∀ z ∈ before, z.stated.id ≠ id) →
        (∀ r, s.lockRefuses n c (.insertAfter (some id) r) = false) ∧
        (∀ e : EditOp, e.target = some id → ¬barred id → s.lockRefuses n c e = false)))

/-! ### Encodings and invariants -/

/-- Event records are read as they are written (R9, R15, R188): the bytes of a record whose stated fields lie in their
ranges are read back, whatever follows them, as those very fields, and pass the form and time checks of R43. Which
characters are printable is taken from outside the manual (log 12). -/
def Obligations.EventRecordsReadBack : Prop :=
  ∀ (rate : Rate) (st : Stated) (rest : List Byte),
    1 ≤ st.id → st.id < 4294967296 →
    (match st.source with
      | .clip m p => 1 ≤ m.length ∧ m.length ≤ 24 ∧ m.all printable = true ∧ p < rate.fpd
      | .live i => 1 ≤ i ∧ i ≤ 256
      | .slate n => 1 ≤ n ∧ n ≤ 16) →
    (∀ p, st.start = .fixed p → p.day < 65536 ∧ p.frame < rate.fpd) →
    (∀ k, st.lockKey = some k → k < 4294967296) → (st.start = .locked → st.lockKey ≠ none) →
    (∀ d, st.stop.field = some d → 1 ≤ d ∧ d ≤ rate.fpd) →
    st.cues.length ≤ 4 →
    (∀ c ∈ st.cues, c.offset < rate.fpd ∧ 1 ≤ c.count ∧ c.count ≤ 16 ∧ c.period < 65536 ∧
      (c.count ≠ 1 → 1 ≤ c.period)) →
    ∃ raw, readRecord (st.bytes rate ++ rest) = some (raw, rest) ∧ raw.judge rate = .ok st

/-- Every step keeps the time base sound (R4, R10, R14, R198): the position and a held mark stay in their ranges, a held
pin keeps the station in a cold START, which is the model's reading (log 3), and before its configuration is read the
count stands at its reset value. -/
def Obligations.EveryStepKeepsTheClockSound : Prop :=
  ∀ s t : State, s.ClockSound → step s = .next t → t.ClockSound

/-- Every step keeps the log in its form (R176): at most 512 entries, rising by one on the ring of 2^32 from each to the
next. -/
def Obligations.EveryStepKeepsTheLogSound : Prop :=
  ∀ s t : State, s.LogSound → step s = .next t → t.LogSound

/-- Every step keeps the pool whole (R20, R55 to R57): each of the 2,048 records stays in exactly one place, the free
list, a channel list or a shadow list. -/
def Obligations.EveryStepKeepsThePoolWhole : Prop :=
  ∀ s t : State, s.PoolWhole → step s = .next t → t.PoolWhole

/-- Every step keeps each queue within its depth (R40, R58, R182): 12, 8 and 16 messages in classes 0, 1 and 2, 16
parked edits, 4 image requests served. -/
def Obligations.EveryStepKeepsTheQueuesShort : Prop :=
  ∀ s t : State, s.QueuesShort → step s = .next t → t.QueuesShort

/-! ### The work of a frame event -/

/-- What a frame event does to health, authority and claims though no row names it. The work of an open frame event that
no row has named is taken whole before the next event, in one fixed order, and with none open nothing is taken; that
order is the model's (log 1). The evaluation of a watched channel (R72, R73): BEAT LOST and the picture flags are
brought up to date, then the health goes to where the chain from it ends, the picture read as absent while the channel
is site-held; a health that enters NOMINAL makes the test of R81. The judgement begun afresh (R79): every flag keeps its
value, its since position now and its duration 0, and the chain runs from NOMINAL. The test (R81): in READY or DEGRADED,
with authority SITE, no holder, no orphan and health NOMINAL, authority returns to the main site, the replica STALE with
cause HANDBACK and the epoch unchanged; else nothing changes; other channels stay as they were, but for an IMAGEREQ
offered at an open frame event (R183). That an EMPTY replica stays EMPTY there is the model's reading (log 16). An
automatic claim (R112, R113): it needs every condition of both lists; the candidate is the one of the lowest rank, of
equal ranks the lowest channel; and a look with no contest current and no channel latched starts the candidate's
unforced claim when class 0 has room, and else leaves it unclaimed, what waits for class 0 at a frame event offered
first (R183; log 1). A contest that is CLAIMING is withdrawn, and the engine looks, as soon as a condition of R120
lapses. -/
def Obligations.FrameWorkJudgesAndClaims : Prop :=
  ((∀ s : State, s.time.frameOpen = false → s.settle = s) ∧
    (∀ s : State, s.time.frameOpen = true → s.settle.time.frameOpen = false ∧
      let judged := s.judgeMark.silences.offers
      let stored := forChans (fun c t => t.frameChannel c) judged
      let watched := (forChans (fun c t => t.frameWatch c) stored).updateStation.review
      let slots := forSlots (fun n t => t.slotRun n 9) (forSlots (fun n t => t.slotReleaseStep n) watched)
      let done := slots.frameClaims.endPhase.timeOutPhase
      s.settle = { done with time := { done.time with frameOpen := false } })) ∧
  ((∀ (s : State) (c : Chan) (w : WatchRec), s.watchRec c = some w →
      let held := (s.view c).holder.isSome
      let e := w.evidence s.rate s.now held
      let h := healthChain s.cfg e 6 w.health
      let u := s.modWatch c fun w => { w with health := h }
      (held = true → e.pictureBad.value = false ∧ e.pictureUnknown = true ∧ e.nominal = false) ∧
      (held = false → e.pictureBad = w.pictureBad ∧ e.pictureUnknown = w.pictureUnknown.value ∧
        (e.nominal = true ↔ ∃ x ∈ w.sources, Pos.diff s.rate x.heardAt s.now ≤ 125 ∧ x.verdict = .nominal)) ∧
      e.beatLost = w.beatLost ∧ e.mainFault = w.mainFault ∧ e.linkDown = w.linkDown.value ∧
      (e.beating = true ↔ ∃ b, w.lastBeat = some b ∧ (b.main = .onAir ∨ b.main = .standby)) ∧
      (h = .nominal → w.health ≠ .nominal → s.evaluate c = u.authorityTest c) ∧
      ((h ≠ .nominal ∨ w.health = .nominal) → s.evaluate c = u) ∧
      s.frameWatch c = ((s.modWatch c fun w => w.setBeatLost s.cfg.tb s.now).modWatch c
        (WatchRec.setPicture s.rate s.now)).evaluate c ∧
      (let r : WatchRec := { w with
          beatLost := ⟨w.beatLost.value, s.now, 0⟩, mainFault := ⟨w.mainFault.value, s.now, 0⟩,
          pictureBad := ⟨w.pictureBad.value, s.now, 0⟩, pictureUnknown := ⟨w.pictureUnknown.value, s.now, 0⟩,
          linkDown := ⟨w.linkDown.value, s.now, 0⟩ };
        (s.restartHealth c).watchRec c =
          some { r with health := healthChain s.cfg (r.evidence s.rate s.now held) 6 .nominal })) ∧
    (∀ (s : State) (c : Chan) (w : WatchRec), s.watchRec c = some w →
      let passes := (s.loader.station = .ready ∨ s.loader.station = .degraded) ∧ (s.chan c).authority = .site ∧
        (s.view c).holder = none ∧ w.orphan = false ∧ w.health = .nominal
      (¬passes → s.authorityTest c = s) ∧
      (passes → let u := s.authorityTest c
        (u.chan c).authority = .main ∧ (u.chan c).epoch = (s.chan c).epoch ∧
        ((s.chan c).replica ≠ .empty → (u.chan c).replica = .stale ∧ (u.chan c).cause = some .handback) ∧
        ((s.chan c).replica = .empty → (u.chan c).replica = .empty) ∧ (u.chan c).list = (s.chan c).list ∧
        (∀ d, d ≠ c → u.chan d = { s.chan d with request := (u.chan d).request }) ∧
        (s.time.frameOpen = false → ∀ d, d ≠ c → u.chan d = s.chan d)))) ∧
  ((∀ (s : State) (c : Chan), s.autoClaim c = true ↔
      s.loader.station = .ready ∧ s.time.timeState = .set ∧ (s.chan c).replica = .current ∧
      (∃ n, (s.slot n).state = .free) ∧ (s.view c).holder = none ∧ s.claims.current = none ∧
      s.loader.releasePhase = none ∧ (s.view c).contest = .idle ∧
      (∀ p, (s.view c).ineligible = some p → s.reached p = true) ∧
      ∃ w, s.watchRec c = some w ∧ w.health = .failed ∧ w.inhibit = false ∧
        (w.orphan = true → w.pictureBad.value = true)) ∧
    (∀ s : State,
      (∀ c, s.bestCandidate = some c ↔ s.autoClaim c = true ∧
        ∀ d, s.autoClaim d = true → s.rank c < s.rank d ∨ (s.rank c = s.rank d ∧ c ≤ d)) ∧
      (s.bestCandidate = none ↔ ∀ c, s.autoClaim c = false)) ∧
    (∀ s : State, let t := if s.time.frameOpen = true then s.offerCancels else s
      (∀ c, s.claims.current = some c → s.look = s) ∧
      (s.claims.current = none → s.claims.latch = none →
        (s.bestCandidate = none → s.look = s) ∧
        (∀ c, s.bestCandidate = some c →
          (t.hasRoom .zero = true → s.look = t.startClaim c false) ∧ (t.hasRoom .zero = false → s.look = t)))) ∧
    (∀ (s : State) (c : Chan), s.claims.current = some c →
      let lapsed := s.loader.station ≠ .ready ∨ s.time.timeState ≠ .set ∨ (s.chan c).replica ≠ .current ∨
        ((s.view c).own.elim false Claim.forced = false ∧ ∀ w, s.watchRec c = some w →
          w.health ≠ .failed ∨ w.inhibit = true ∨ (w.orphan = true ∧ w.pictureBad.value = false))
      ((s.view c).contest = .claiming → lapsed → s.review = (s.endClaim c .idle none).look) ∧
      (((s.view c).contest ≠ .claiming ∨ ¬lapsed) → s.review = s)) ∧
    (∀ s : State, s.claims.current = none → s.review = s))
end

