-- ==== Sys2Proof/Laws/State.lean ====
section
/-! SUPPORT. What each update of the state leaves alone and what it sets: one lemma per field per update. -/

namespace Sys2Proof.Machine

/-! ### A vector with one entry replaced -/

@[simp] theorem vmod_get_same {α : Type} {n : Nat} (v : Vector α n) (i : Fin n) (f : α → α) :
    (vmod v i f).get i = f (v.get i) := by
  simp [vmod, Vector.get_eq_getElem]

theorem vmod_get_other {α : Type} {n : Nat} (v : Vector α n) (i j : Fin n) (f : α → α) (h : i ≠ j) :
    (vmod v i f).get j = v.get j := by
  have h' : i.val ≠ j.val := fun e => h (Fin.ext e)
  simp [vmod, Vector.get_eq_getElem, h']

theorem vmod_get {α : Type} {n : Nat} (v : Vector α n) (i j : Fin n) (f : α → α) :
    (vmod v i f).get j = if i = j then f (v.get j) else v.get j := by
  split
  · next h => subst h; simp
  · next h => exact vmod_get_other v i j f h

/-! ### A slot's confirm window -/

@[simp] theorem Slot.tick_sincePlay (x : Slot) :
    x.tick.sincePlay = if x.expectedBy.isSome then min 10 (x.sincePlay + 1) else x.sincePlay := rfl
@[simp] theorem Slot.tick_expectedBy (x : Slot) : x.tick.expectedBy = x.expectedBy := rfl
@[simp] theorem Slot.clearWatch_sincePlay (x : Slot) : x.clearWatch.sincePlay = 0 := rfl
@[simp] theorem Slot.clearWatch_expectedBy (x : Slot) : x.clearWatch.expectedBy = none := rfl
@[simp] theorem Slot.reset_sincePlay (b : Bool) : (Slot.reset b).sincePlay = 0 := rfl

namespace State

variable (s : State)

/-! ### `modChan` -/

@[simp] theorem modChan_pending (c : Chan) (f : ChannelRec → ChannelRec) : (s.modChan c f).pending = s.pending := rfl
@[simp] theorem modChan_out (c : Chan) (f : ChannelRec → ChannelRec) : (s.modChan c f).out = s.out := rfl
@[simp] theorem modChan_freeCount (c : Chan) (f : ChannelRec → ChannelRec) : (s.modChan c f).freeCount = s.freeCount := rfl
@[simp] theorem modChan_time (c : Chan) (f : ChannelRec → ChannelRec) : (s.modChan c f).time = s.time := rfl
@[simp] theorem modChan_loader (c : Chan) (f : ChannelRec → ChannelRec) : (s.modChan c f).loader = s.loader := rfl
@[simp] theorem modChan_free (c : Chan) (f : ChannelRec → ChannelRec) : (s.modChan c f).free = s.free := rfl
@[simp] theorem modChan_repl (c : Chan) (f : ChannelRec → ChannelRec) : (s.modChan c f).repl = s.repl := rfl
@[simp] theorem modChan_watch (c : Chan) (f : ChannelRec → ChannelRec) : (s.modChan c f).watch = s.watch := rfl
@[simp] theorem modChan_probes (c : Chan) (f : ChannelRec → ChannelRec) : (s.modChan c f).probes = s.probes := rfl
@[simp] theorem modChan_peers (c : Chan) (f : ChannelRec → ChannelRec) : (s.modChan c f).peers = s.peers := rfl
@[simp] theorem modChan_views (c : Chan) (f : ChannelRec → ChannelRec) : (s.modChan c f).views = s.views := rfl
@[simp] theorem modChan_claims (c : Chan) (f : ChannelRec → ChannelRec) : (s.modChan c f).claims = s.claims := rfl
@[simp] theorem modChan_slots (c : Chan) (f : ChannelRec → ChannelRec) : (s.modChan c f).slots = s.slots := rfl
@[simp] theorem modChan_log (c : Chan) (f : ChannelRec → ChannelRec) : (s.modChan c f).log = s.log := rfl
@[simp] theorem modChan_logNext (c : Chan) (f : ChannelRec → ChannelRec) : (s.modChan c f).logNext = s.logNext := rfl
@[simp] theorem modChan_line (c : Chan) (f : ChannelRec → ChannelRec) : (s.modChan c f).line = s.line := rfl

/-! ### `modView` -/

@[simp] theorem modView_pending (c : Chan) (f : View → View) : (s.modView c f).pending = s.pending := rfl
@[simp] theorem modView_out (c : Chan) (f : View → View) : (s.modView c f).out = s.out := rfl
@[simp] theorem modView_freeCount (c : Chan) (f : View → View) : (s.modView c f).freeCount = s.freeCount := rfl
@[simp] theorem modView_time (c : Chan) (f : View → View) : (s.modView c f).time = s.time := rfl
@[simp] theorem modView_loader (c : Chan) (f : View → View) : (s.modView c f).loader = s.loader := rfl
@[simp] theorem modView_free (c : Chan) (f : View → View) : (s.modView c f).free = s.free := rfl
@[simp] theorem modView_chans (c : Chan) (f : View → View) : (s.modView c f).chans = s.chans := rfl
@[simp] theorem modView_repl (c : Chan) (f : View → View) : (s.modView c f).repl = s.repl := rfl
@[simp] theorem modView_watch (c : Chan) (f : View → View) : (s.modView c f).watch = s.watch := rfl
@[simp] theorem modView_probes (c : Chan) (f : View → View) : (s.modView c f).probes = s.probes := rfl
@[simp] theorem modView_peers (c : Chan) (f : View → View) : (s.modView c f).peers = s.peers := rfl
@[simp] theorem modView_claims (c : Chan) (f : View → View) : (s.modView c f).claims = s.claims := rfl
@[simp] theorem modView_slots (c : Chan) (f : View → View) : (s.modView c f).slots = s.slots := rfl
@[simp] theorem modView_log (c : Chan) (f : View → View) : (s.modView c f).log = s.log := rfl
@[simp] theorem modView_logNext (c : Chan) (f : View → View) : (s.modView c f).logNext = s.logNext := rfl
@[simp] theorem modView_line (c : Chan) (f : View → View) : (s.modView c f).line = s.line := rfl

/-! ### `modSlot` -/

@[simp] theorem modSlot_pending (n : SlotId) (f : Slot → Slot) : (s.modSlot n f).pending = s.pending := rfl
@[simp] theorem modSlot_out (n : SlotId) (f : Slot → Slot) : (s.modSlot n f).out = s.out := rfl
@[simp] theorem modSlot_freeCount (n : SlotId) (f : Slot → Slot) : (s.modSlot n f).freeCount = s.freeCount := rfl
@[simp] theorem modSlot_time (n : SlotId) (f : Slot → Slot) : (s.modSlot n f).time = s.time := rfl
@[simp] theorem modSlot_loader (n : SlotId) (f : Slot → Slot) : (s.modSlot n f).loader = s.loader := rfl
@[simp] theorem modSlot_free (n : SlotId) (f : Slot → Slot) : (s.modSlot n f).free = s.free := rfl
@[simp] theorem modSlot_chans (n : SlotId) (f : Slot → Slot) : (s.modSlot n f).chans = s.chans := rfl
@[simp] theorem modSlot_repl (n : SlotId) (f : Slot → Slot) : (s.modSlot n f).repl = s.repl := rfl
@[simp] theorem modSlot_watch (n : SlotId) (f : Slot → Slot) : (s.modSlot n f).watch = s.watch := rfl
@[simp] theorem modSlot_probes (n : SlotId) (f : Slot → Slot) : (s.modSlot n f).probes = s.probes := rfl
@[simp] theorem modSlot_peers (n : SlotId) (f : Slot → Slot) : (s.modSlot n f).peers = s.peers := rfl
@[simp] theorem modSlot_views (n : SlotId) (f : Slot → Slot) : (s.modSlot n f).views = s.views := rfl
@[simp] theorem modSlot_claims (n : SlotId) (f : Slot → Slot) : (s.modSlot n f).claims = s.claims := rfl
@[simp] theorem modSlot_log (n : SlotId) (f : Slot → Slot) : (s.modSlot n f).log = s.log := rfl
@[simp] theorem modSlot_logNext (n : SlotId) (f : Slot → Slot) : (s.modSlot n f).logNext = s.logNext := rfl
@[simp] theorem modSlot_line (n : SlotId) (f : Slot → Slot) : (s.modSlot n f).line = s.line := rfl

/-! ### `modWatch` -/

@[simp] theorem modWatch_pending (c : Chan) (f : WatchRec → WatchRec) : (s.modWatch c f).pending = s.pending := rfl
@[simp] theorem modWatch_out (c : Chan) (f : WatchRec → WatchRec) : (s.modWatch c f).out = s.out := rfl
@[simp] theorem modWatch_freeCount (c : Chan) (f : WatchRec → WatchRec) : (s.modWatch c f).freeCount = s.freeCount := rfl
@[simp] theorem modWatch_time (c : Chan) (f : WatchRec → WatchRec) : (s.modWatch c f).time = s.time := rfl
@[simp] theorem modWatch_loader (c : Chan) (f : WatchRec → WatchRec) : (s.modWatch c f).loader = s.loader := rfl
@[simp] theorem modWatch_free (c : Chan) (f : WatchRec → WatchRec) : (s.modWatch c f).free = s.free := rfl
@[simp] theorem modWatch_chans (c : Chan) (f : WatchRec → WatchRec) : (s.modWatch c f).chans = s.chans := rfl
@[simp] theorem modWatch_repl (c : Chan) (f : WatchRec → WatchRec) : (s.modWatch c f).repl = s.repl := rfl
@[simp] theorem modWatch_probes (c : Chan) (f : WatchRec → WatchRec) : (s.modWatch c f).probes = s.probes := rfl
@[simp] theorem modWatch_peers (c : Chan) (f : WatchRec → WatchRec) : (s.modWatch c f).peers = s.peers := rfl
@[simp] theorem modWatch_views (c : Chan) (f : WatchRec → WatchRec) : (s.modWatch c f).views = s.views := rfl
@[simp] theorem modWatch_claims (c : Chan) (f : WatchRec → WatchRec) : (s.modWatch c f).claims = s.claims := rfl
@[simp] theorem modWatch_slots (c : Chan) (f : WatchRec → WatchRec) : (s.modWatch c f).slots = s.slots := rfl
@[simp] theorem modWatch_log (c : Chan) (f : WatchRec → WatchRec) : (s.modWatch c f).log = s.log := rfl
@[simp] theorem modWatch_logNext (c : Chan) (f : WatchRec → WatchRec) : (s.modWatch c f).logNext = s.logNext := rfl
@[simp] theorem modWatch_line (c : Chan) (f : WatchRec → WatchRec) : (s.modWatch c f).line = s.line := rfl

/-! ### `modProbe` -/

@[simp] theorem modProbe_pending (p : ProbeId) (f : Probe → Probe) : (s.modProbe p f).pending = s.pending := rfl
@[simp] theorem modProbe_out (p : ProbeId) (f : Probe → Probe) : (s.modProbe p f).out = s.out := rfl
@[simp] theorem modProbe_freeCount (p : ProbeId) (f : Probe → Probe) : (s.modProbe p f).freeCount = s.freeCount := rfl
@[simp] theorem modProbe_time (p : ProbeId) (f : Probe → Probe) : (s.modProbe p f).time = s.time := rfl
@[simp] theorem modProbe_loader (p : ProbeId) (f : Probe → Probe) : (s.modProbe p f).loader = s.loader := rfl
@[simp] theorem modProbe_free (p : ProbeId) (f : Probe → Probe) : (s.modProbe p f).free = s.free := rfl
@[simp] theorem modProbe_chans (p : ProbeId) (f : Probe → Probe) : (s.modProbe p f).chans = s.chans := rfl
@[simp] theorem modProbe_repl (p : ProbeId) (f : Probe → Probe) : (s.modProbe p f).repl = s.repl := rfl
@[simp] theorem modProbe_watch (p : ProbeId) (f : Probe → Probe) : (s.modProbe p f).watch = s.watch := rfl
@[simp] theorem modProbe_peers (p : ProbeId) (f : Probe → Probe) : (s.modProbe p f).peers = s.peers := rfl
@[simp] theorem modProbe_views (p : ProbeId) (f : Probe → Probe) : (s.modProbe p f).views = s.views := rfl
@[simp] theorem modProbe_claims (p : ProbeId) (f : Probe → Probe) : (s.modProbe p f).claims = s.claims := rfl
@[simp] theorem modProbe_slots (p : ProbeId) (f : Probe → Probe) : (s.modProbe p f).slots = s.slots := rfl
@[simp] theorem modProbe_log (p : ProbeId) (f : Probe → Probe) : (s.modProbe p f).log = s.log := rfl
@[simp] theorem modProbe_logNext (p : ProbeId) (f : Probe → Probe) : (s.modProbe p f).logNext = s.logNext := rfl
@[simp] theorem modProbe_line (p : ProbeId) (f : Probe → Probe) : (s.modProbe p f).line = s.line := rfl

/-! ### `modPeer` -/

@[simp] theorem modPeer_pending (a : Addr) (f : Peer → Peer) : (s.modPeer a f).pending = s.pending := rfl
@[simp] theorem modPeer_out (a : Addr) (f : Peer → Peer) : (s.modPeer a f).out = s.out := rfl
@[simp] theorem modPeer_freeCount (a : Addr) (f : Peer → Peer) : (s.modPeer a f).freeCount = s.freeCount := rfl
@[simp] theorem modPeer_time (a : Addr) (f : Peer → Peer) : (s.modPeer a f).time = s.time := rfl
@[simp] theorem modPeer_loader (a : Addr) (f : Peer → Peer) : (s.modPeer a f).loader = s.loader := rfl
@[simp] theorem modPeer_free (a : Addr) (f : Peer → Peer) : (s.modPeer a f).free = s.free := rfl
@[simp] theorem modPeer_chans (a : Addr) (f : Peer → Peer) : (s.modPeer a f).chans = s.chans := rfl
@[simp] theorem modPeer_repl (a : Addr) (f : Peer → Peer) : (s.modPeer a f).repl = s.repl := rfl
@[simp] theorem modPeer_watch (a : Addr) (f : Peer → Peer) : (s.modPeer a f).watch = s.watch := rfl
@[simp] theorem modPeer_probes (a : Addr) (f : Peer → Peer) : (s.modPeer a f).probes = s.probes := rfl
@[simp] theorem modPeer_views (a : Addr) (f : Peer → Peer) : (s.modPeer a f).views = s.views := rfl
@[simp] theorem modPeer_claims (a : Addr) (f : Peer → Peer) : (s.modPeer a f).claims = s.claims := rfl
@[simp] theorem modPeer_slots (a : Addr) (f : Peer → Peer) : (s.modPeer a f).slots = s.slots := rfl
@[simp] theorem modPeer_log (a : Addr) (f : Peer → Peer) : (s.modPeer a f).log = s.log := rfl
@[simp] theorem modPeer_logNext (a : Addr) (f : Peer → Peer) : (s.modPeer a f).logNext = s.logNext := rfl
@[simp] theorem modPeer_line (a : Addr) (f : Peer → Peer) : (s.modPeer a f).line = s.line := rfl

/-! ### `setLine` -/

@[simp] theorem setLine_pending (f : Line → Line) : (s.setLine f).pending = s.pending := rfl
@[simp] theorem setLine_out (f : Line → Line) : (s.setLine f).out = s.out := rfl
@[simp] theorem setLine_freeCount (f : Line → Line) : (s.setLine f).freeCount = s.freeCount := rfl
@[simp] theorem setLine_time (f : Line → Line) : (s.setLine f).time = s.time := rfl
@[simp] theorem setLine_loader (f : Line → Line) : (s.setLine f).loader = s.loader := rfl
@[simp] theorem setLine_free (f : Line → Line) : (s.setLine f).free = s.free := rfl
@[simp] theorem setLine_chans (f : Line → Line) : (s.setLine f).chans = s.chans := rfl
@[simp] theorem setLine_repl (f : Line → Line) : (s.setLine f).repl = s.repl := rfl
@[simp] theorem setLine_watch (f : Line → Line) : (s.setLine f).watch = s.watch := rfl
@[simp] theorem setLine_probes (f : Line → Line) : (s.setLine f).probes = s.probes := rfl
@[simp] theorem setLine_peers (f : Line → Line) : (s.setLine f).peers = s.peers := rfl
@[simp] theorem setLine_views (f : Line → Line) : (s.setLine f).views = s.views := rfl
@[simp] theorem setLine_claims (f : Line → Line) : (s.setLine f).claims = s.claims := rfl
@[simp] theorem setLine_slots (f : Line → Line) : (s.setLine f).slots = s.slots := rfl
@[simp] theorem setLine_log (f : Line → Line) : (s.setLine f).log = s.log := rfl
@[simp] theorem setLine_logNext (f : Line → Line) : (s.setLine f).logNext = s.logNext := rfl

/-! ### `setTime` -/

@[simp] theorem setTime_pending (f : TimeBase → TimeBase) : (s.setTime f).pending = s.pending := rfl
@[simp] theorem setTime_out (f : TimeBase → TimeBase) : (s.setTime f).out = s.out := rfl
@[simp] theorem setTime_freeCount (f : TimeBase → TimeBase) : (s.setTime f).freeCount = s.freeCount := rfl
@[simp] theorem setTime_loader (f : TimeBase → TimeBase) : (s.setTime f).loader = s.loader := rfl
@[simp] theorem setTime_free (f : TimeBase → TimeBase) : (s.setTime f).free = s.free := rfl
@[simp] theorem setTime_chans (f : TimeBase → TimeBase) : (s.setTime f).chans = s.chans := rfl
@[simp] theorem setTime_repl (f : TimeBase → TimeBase) : (s.setTime f).repl = s.repl := rfl
@[simp] theorem setTime_watch (f : TimeBase → TimeBase) : (s.setTime f).watch = s.watch := rfl
@[simp] theorem setTime_probes (f : TimeBase → TimeBase) : (s.setTime f).probes = s.probes := rfl
@[simp] theorem setTime_peers (f : TimeBase → TimeBase) : (s.setTime f).peers = s.peers := rfl
@[simp] theorem setTime_views (f : TimeBase → TimeBase) : (s.setTime f).views = s.views := rfl
@[simp] theorem setTime_claims (f : TimeBase → TimeBase) : (s.setTime f).claims = s.claims := rfl
@[simp] theorem setTime_slots (f : TimeBase → TimeBase) : (s.setTime f).slots = s.slots := rfl
@[simp] theorem setTime_log (f : TimeBase → TimeBase) : (s.setTime f).log = s.log := rfl
@[simp] theorem setTime_logNext (f : TimeBase → TimeBase) : (s.setTime f).logNext = s.logNext := rfl
@[simp] theorem setTime_line (f : TimeBase → TimeBase) : (s.setTime f).line = s.line := rfl

/-! ### `setLoader` -/

@[simp] theorem setLoader_pending (f : Loader → Loader) : (s.setLoader f).pending = s.pending := rfl
@[simp] theorem setLoader_out (f : Loader → Loader) : (s.setLoader f).out = s.out := rfl
@[simp] theorem setLoader_freeCount (f : Loader → Loader) : (s.setLoader f).freeCount = s.freeCount := rfl
@[simp] theorem setLoader_time (f : Loader → Loader) : (s.setLoader f).time = s.time := rfl
@[simp] theorem setLoader_free (f : Loader → Loader) : (s.setLoader f).free = s.free := rfl
@[simp] theorem setLoader_chans (f : Loader → Loader) : (s.setLoader f).chans = s.chans := rfl
@[simp] theorem setLoader_repl (f : Loader → Loader) : (s.setLoader f).repl = s.repl := rfl
@[simp] theorem setLoader_watch (f : Loader → Loader) : (s.setLoader f).watch = s.watch := rfl
@[simp] theorem setLoader_probes (f : Loader → Loader) : (s.setLoader f).probes = s.probes := rfl
@[simp] theorem setLoader_peers (f : Loader → Loader) : (s.setLoader f).peers = s.peers := rfl
@[simp] theorem setLoader_views (f : Loader → Loader) : (s.setLoader f).views = s.views := rfl
@[simp] theorem setLoader_claims (f : Loader → Loader) : (s.setLoader f).claims = s.claims := rfl
@[simp] theorem setLoader_slots (f : Loader → Loader) : (s.setLoader f).slots = s.slots := rfl
@[simp] theorem setLoader_log (f : Loader → Loader) : (s.setLoader f).log = s.log := rfl
@[simp] theorem setLoader_logNext (f : Loader → Loader) : (s.setLoader f).logNext = s.logNext := rfl
@[simp] theorem setLoader_line (f : Loader → Loader) : (s.setLoader f).line = s.line := rfl

/-! ### `setRepl` -/

@[simp] theorem setRepl_pending (f : Replication → Replication) : (s.setRepl f).pending = s.pending := rfl
@[simp] theorem setRepl_out (f : Replication → Replication) : (s.setRepl f).out = s.out := rfl
@[simp] theorem setRepl_freeCount (f : Replication → Replication) : (s.setRepl f).freeCount = s.freeCount := rfl
@[simp] theorem setRepl_time (f : Replication → Replication) : (s.setRepl f).time = s.time := rfl
@[simp] theorem setRepl_loader (f : Replication → Replication) : (s.setRepl f).loader = s.loader := rfl
@[simp] theorem setRepl_free (f : Replication → Replication) : (s.setRepl f).free = s.free := rfl
@[simp] theorem setRepl_chans (f : Replication → Replication) : (s.setRepl f).chans = s.chans := rfl
@[simp] theorem setRepl_watch (f : Replication → Replication) : (s.setRepl f).watch = s.watch := rfl
@[simp] theorem setRepl_probes (f : Replication → Replication) : (s.setRepl f).probes = s.probes := rfl
@[simp] theorem setRepl_peers (f : Replication → Replication) : (s.setRepl f).peers = s.peers := rfl
@[simp] theorem setRepl_views (f : Replication → Replication) : (s.setRepl f).views = s.views := rfl
@[simp] theorem setRepl_claims (f : Replication → Replication) : (s.setRepl f).claims = s.claims := rfl
@[simp] theorem setRepl_slots (f : Replication → Replication) : (s.setRepl f).slots = s.slots := rfl
@[simp] theorem setRepl_log (f : Replication → Replication) : (s.setRepl f).log = s.log := rfl
@[simp] theorem setRepl_logNext (f : Replication → Replication) : (s.setRepl f).logNext = s.logNext := rfl
@[simp] theorem setRepl_line (f : Replication → Replication) : (s.setRepl f).line = s.line := rfl

/-! ### `setClaims` -/

@[simp] theorem setClaims_pending (f : ClaimEngine → ClaimEngine) : (s.setClaims f).pending = s.pending := rfl
@[simp] theorem setClaims_out (f : ClaimEngine → ClaimEngine) : (s.setClaims f).out = s.out := rfl
@[simp] theorem setClaims_freeCount (f : ClaimEngine → ClaimEngine) : (s.setClaims f).freeCount = s.freeCount := rfl
@[simp] theorem setClaims_time (f : ClaimEngine → ClaimEngine) : (s.setClaims f).time = s.time := rfl
@[simp] theorem setClaims_loader (f : ClaimEngine → ClaimEngine) : (s.setClaims f).loader = s.loader := rfl
@[simp] theorem setClaims_free (f : ClaimEngine → ClaimEngine) : (s.setClaims f).free = s.free := rfl
@[simp] theorem setClaims_chans (f : ClaimEngine → ClaimEngine) : (s.setClaims f).chans = s.chans := rfl
@[simp] theorem setClaims_repl (f : ClaimEngine → ClaimEngine) : (s.setClaims f).repl = s.repl := rfl
@[simp] theorem setClaims_watch (f : ClaimEngine → ClaimEngine) : (s.setClaims f).watch = s.watch := rfl
@[simp] theorem setClaims_probes (f : ClaimEngine → ClaimEngine) : (s.setClaims f).probes = s.probes := rfl
@[simp] theorem setClaims_peers (f : ClaimEngine → ClaimEngine) : (s.setClaims f).peers = s.peers := rfl
@[simp] theorem setClaims_views (f : ClaimEngine → ClaimEngine) : (s.setClaims f).views = s.views := rfl
@[simp] theorem setClaims_slots (f : ClaimEngine → ClaimEngine) : (s.setClaims f).slots = s.slots := rfl
@[simp] theorem setClaims_log (f : ClaimEngine → ClaimEngine) : (s.setClaims f).log = s.log := rfl
@[simp] theorem setClaims_logNext (f : ClaimEngine → ClaimEngine) : (s.setClaims f).logNext = s.logNext := rfl
@[simp] theorem setClaims_line (f : ClaimEngine → ClaimEngine) : (s.setClaims f).line = s.line := rfl

/-! ### `emit` -/

@[simp] theorem emit_pending (n : SlotId) (w : CueWord) : (s.emit n w).pending = s.pending := rfl
@[simp] theorem emit_freeCount (n : SlotId) (w : CueWord) : (s.emit n w).freeCount = s.freeCount := rfl
@[simp] theorem emit_time (n : SlotId) (w : CueWord) : (s.emit n w).time = s.time := rfl
@[simp] theorem emit_loader (n : SlotId) (w : CueWord) : (s.emit n w).loader = s.loader := rfl
@[simp] theorem emit_free (n : SlotId) (w : CueWord) : (s.emit n w).free = s.free := rfl
@[simp] theorem emit_chans (n : SlotId) (w : CueWord) : (s.emit n w).chans = s.chans := rfl
@[simp] theorem emit_repl (n : SlotId) (w : CueWord) : (s.emit n w).repl = s.repl := rfl
@[simp] theorem emit_watch (n : SlotId) (w : CueWord) : (s.emit n w).watch = s.watch := rfl
@[simp] theorem emit_probes (n : SlotId) (w : CueWord) : (s.emit n w).probes = s.probes := rfl
@[simp] theorem emit_peers (n : SlotId) (w : CueWord) : (s.emit n w).peers = s.peers := rfl
@[simp] theorem emit_views (n : SlotId) (w : CueWord) : (s.emit n w).views = s.views := rfl
@[simp] theorem emit_claims (n : SlotId) (w : CueWord) : (s.emit n w).claims = s.claims := rfl
@[simp] theorem emit_slots (n : SlotId) (w : CueWord) : (s.emit n w).slots = s.slots := rfl
@[simp] theorem emit_log (n : SlotId) (w : CueWord) : (s.emit n w).log = s.log := rfl
@[simp] theorem emit_logNext (n : SlotId) (w : CueWord) : (s.emit n w).logNext = s.logNext := rfl
@[simp] theorem emit_line (n : SlotId) (w : CueWord) : (s.emit n w).line = s.line := rfl

/-! ### `clearOut` -/

@[simp] theorem clearOut_pending : (s.clearOut).pending = s.pending := rfl
@[simp] theorem clearOut_freeCount : (s.clearOut).freeCount = s.freeCount := rfl
@[simp] theorem clearOut_time : (s.clearOut).time = s.time := rfl
@[simp] theorem clearOut_loader : (s.clearOut).loader = s.loader := rfl
@[simp] theorem clearOut_free : (s.clearOut).free = s.free := rfl
@[simp] theorem clearOut_chans : (s.clearOut).chans = s.chans := rfl
@[simp] theorem clearOut_repl : (s.clearOut).repl = s.repl := rfl
@[simp] theorem clearOut_watch : (s.clearOut).watch = s.watch := rfl
@[simp] theorem clearOut_probes : (s.clearOut).probes = s.probes := rfl
@[simp] theorem clearOut_peers : (s.clearOut).peers = s.peers := rfl
@[simp] theorem clearOut_views : (s.clearOut).views = s.views := rfl
@[simp] theorem clearOut_claims : (s.clearOut).claims = s.claims := rfl
@[simp] theorem clearOut_slots : (s.clearOut).slots = s.slots := rfl
@[simp] theorem clearOut_log : (s.clearOut).log = s.log := rfl
@[simp] theorem clearOut_logNext : (s.clearOut).logNext = s.logNext := rfl
@[simp] theorem clearOut_line : (s.clearOut).line = s.line := rfl

/-! ### What each update sets -/

@[simp] theorem setLine_line (f : Line → Line) : (s.setLine f).line = f s.line := rfl
@[simp] theorem setTime_time (f : TimeBase → TimeBase) : (s.setTime f).time = f s.time := rfl
@[simp] theorem setLoader_loader (f : Loader → Loader) : (s.setLoader f).loader = f s.loader := rfl
@[simp] theorem setRepl_repl (f : Replication → Replication) : (s.setRepl f).repl = f s.repl := rfl
@[simp] theorem setClaims_claims (f : ClaimEngine → ClaimEngine) : (s.setClaims f).claims = f s.claims := rfl
@[simp] theorem emit_out (n : SlotId) (w : CueWord) : (s.emit n w).out = s.out ++ [.word n w] := rfl
@[simp] theorem clearOut_out : s.clearOut.out = [] := rfl
@[simp] theorem modChan_chan (c : Chan) (f : ChannelRec → ChannelRec) : (s.modChan c f).chan c = f (s.chan c) := by
  simp [modChan, chan]
@[simp] theorem modView_view (c : Chan) (f : View → View) : (s.modView c f).view c = f (s.view c) := by
  simp [modView, view]
@[simp] theorem modSlot_slot (n : SlotId) (f : Slot → Slot) : (s.modSlot n f).slot n = f (s.slot n) := by
  simp [modSlot, slot]
@[simp] theorem modProbe_probe (p : ProbeId) (f : Probe → Probe) : (s.modProbe p f).probe p = f (s.probe p) := by
  simp [modProbe, probe]
@[simp] theorem modWatch_watchRec (c : Chan) (f : WatchRec → WatchRec) :
    (s.modWatch c f).watchRec c = (s.watchRec c).map f := by
  simp [modWatch, watchRec]
@[simp] theorem startWatch_slot (n : SlotId) : (s.startWatch n).slot n =
    { s.slot n with expectedBy := some (s.now.add s.rate s.cfg.confirm), sincePlay := 0,
                    highSincePlay := (s.slot n).tally, confirmed := false, playPos := some s.now } :=
  modSlot_slot s n _
theorem modChan_chan_other (c d : Chan) (f : ChannelRec → ChannelRec) (h : c ≠ d) :
    (s.modChan c f).chan d = s.chan d := vmod_get_other _ _ _ _ h
theorem modView_view_other (c d : Chan) (f : View → View) (h : c ≠ d) : (s.modView c f).view d = s.view d :=
  vmod_get_other _ _ _ _ h
theorem modSlot_slot_other (n m : SlotId) (f : Slot → Slot) (h : n ≠ m) : (s.modSlot n f).slot m = s.slot m :=
  vmod_get_other _ _ _ _ h

/-! ### The readings of the time base and the loader -/

@[simp] theorem modChan_now (c : Chan) (f : ChannelRec → ChannelRec) : (s.modChan c f).now = s.now := rfl
@[simp] theorem modChan_rate (c : Chan) (f : ChannelRec → ChannelRec) : (s.modChan c f).rate = s.rate := rfl
@[simp] theorem modChan_cfg (c : Chan) (f : ChannelRec → ChannelRec) : (s.modChan c f).cfg = s.cfg := rfl
@[simp] theorem modChan_me (c : Chan) (f : ChannelRec → ChannelRec) : (s.modChan c f).me = s.me := rfl
@[simp] theorem modChan_active (c : Chan) (f : ChannelRec → ChannelRec) : (s.modChan c f).active = s.active := rfl
@[simp] theorem modView_now (c : Chan) (f : View → View) : (s.modView c f).now = s.now := rfl
@[simp] theorem modView_rate (c : Chan) (f : View → View) : (s.modView c f).rate = s.rate := rfl
@[simp] theorem modView_cfg (c : Chan) (f : View → View) : (s.modView c f).cfg = s.cfg := rfl
@[simp] theorem modView_me (c : Chan) (f : View → View) : (s.modView c f).me = s.me := rfl
@[simp] theorem modView_active (c : Chan) (f : View → View) : (s.modView c f).active = s.active := rfl
@[simp] theorem modSlot_now (n : SlotId) (f : Slot → Slot) : (s.modSlot n f).now = s.now := rfl
@[simp] theorem modSlot_rate (n : SlotId) (f : Slot → Slot) : (s.modSlot n f).rate = s.rate := rfl
@[simp] theorem modSlot_cfg (n : SlotId) (f : Slot → Slot) : (s.modSlot n f).cfg = s.cfg := rfl
@[simp] theorem modSlot_me (n : SlotId) (f : Slot → Slot) : (s.modSlot n f).me = s.me := rfl
@[simp] theorem modSlot_active (n : SlotId) (f : Slot → Slot) : (s.modSlot n f).active = s.active := rfl
@[simp] theorem modWatch_now (c : Chan) (f : WatchRec → WatchRec) : (s.modWatch c f).now = s.now := rfl
@[simp] theorem modWatch_rate (c : Chan) (f : WatchRec → WatchRec) : (s.modWatch c f).rate = s.rate := rfl
@[simp] theorem modWatch_cfg (c : Chan) (f : WatchRec → WatchRec) : (s.modWatch c f).cfg = s.cfg := rfl
@[simp] theorem modWatch_me (c : Chan) (f : WatchRec → WatchRec) : (s.modWatch c f).me = s.me := rfl
@[simp] theorem modWatch_active (c : Chan) (f : WatchRec → WatchRec) : (s.modWatch c f).active = s.active := rfl
@[simp] theorem modProbe_now (p : ProbeId) (f : Probe → Probe) : (s.modProbe p f).now = s.now := rfl
@[simp] theorem modProbe_rate (p : ProbeId) (f : Probe → Probe) : (s.modProbe p f).rate = s.rate := rfl
@[simp] theorem modProbe_cfg (p : ProbeId) (f : Probe → Probe) : (s.modProbe p f).cfg = s.cfg := rfl
@[simp] theorem modProbe_me (p : ProbeId) (f : Probe → Probe) : (s.modProbe p f).me = s.me := rfl
@[simp] theorem modProbe_active (p : ProbeId) (f : Probe → Probe) : (s.modProbe p f).active = s.active := rfl
@[simp] theorem modPeer_now (a : Addr) (f : Peer → Peer) : (s.modPeer a f).now = s.now := rfl
@[simp] theorem modPeer_rate (a : Addr) (f : Peer → Peer) : (s.modPeer a f).rate = s.rate := rfl
@[simp] theorem modPeer_cfg (a : Addr) (f : Peer → Peer) : (s.modPeer a f).cfg = s.cfg := rfl
@[simp] theorem modPeer_me (a : Addr) (f : Peer → Peer) : (s.modPeer a f).me = s.me := rfl
@[simp] theorem modPeer_active (a : Addr) (f : Peer → Peer) : (s.modPeer a f).active = s.active := rfl
@[simp] theorem setLine_now (f : Line → Line) : (s.setLine f).now = s.now := rfl
@[simp] theorem setLine_rate (f : Line → Line) : (s.setLine f).rate = s.rate := rfl
@[simp] theorem setLine_cfg (f : Line → Line) : (s.setLine f).cfg = s.cfg := rfl
@[simp] theorem setLine_me (f : Line → Line) : (s.setLine f).me = s.me := rfl
@[simp] theorem setLine_active (f : Line → Line) : (s.setLine f).active = s.active := rfl
@[simp] theorem setTime_rate (f : TimeBase → TimeBase) : (s.setTime f).rate = s.rate := rfl
@[simp] theorem setTime_cfg (f : TimeBase → TimeBase) : (s.setTime f).cfg = s.cfg := rfl
@[simp] theorem setTime_me (f : TimeBase → TimeBase) : (s.setTime f).me = s.me := rfl
@[simp] theorem setTime_active (f : TimeBase → TimeBase) : (s.setTime f).active = s.active := rfl
@[simp] theorem setLoader_now (f : Loader → Loader) : (s.setLoader f).now = s.now := rfl
@[simp] theorem setRepl_now (f : Replication → Replication) : (s.setRepl f).now = s.now := rfl
@[simp] theorem setRepl_rate (f : Replication → Replication) : (s.setRepl f).rate = s.rate := rfl
@[simp] theorem setRepl_cfg (f : Replication → Replication) : (s.setRepl f).cfg = s.cfg := rfl
@[simp] theorem setRepl_me (f : Replication → Replication) : (s.setRepl f).me = s.me := rfl
@[simp] theorem setRepl_active (f : Replication → Replication) : (s.setRepl f).active = s.active := rfl
@[simp] theorem setClaims_now (f : ClaimEngine → ClaimEngine) : (s.setClaims f).now = s.now := rfl
@[simp] theorem setClaims_rate (f : ClaimEngine → ClaimEngine) : (s.setClaims f).rate = s.rate := rfl
@[simp] theorem setClaims_cfg (f : ClaimEngine → ClaimEngine) : (s.setClaims f).cfg = s.cfg := rfl
@[simp] theorem setClaims_me (f : ClaimEngine → ClaimEngine) : (s.setClaims f).me = s.me := rfl
@[simp] theorem setClaims_active (f : ClaimEngine → ClaimEngine) : (s.setClaims f).active = s.active := rfl
@[simp] theorem emit_now (n : SlotId) (w : CueWord) : (s.emit n w).now = s.now := rfl
@[simp] theorem emit_rate (n : SlotId) (w : CueWord) : (s.emit n w).rate = s.rate := rfl
@[simp] theorem emit_cfg (n : SlotId) (w : CueWord) : (s.emit n w).cfg = s.cfg := rfl
@[simp] theorem emit_me (n : SlotId) (w : CueWord) : (s.emit n w).me = s.me := rfl
@[simp] theorem emit_active (n : SlotId) (w : CueWord) : (s.emit n w).active = s.active := rfl
@[simp] theorem clearOut_now : (s.clearOut).now = s.now := rfl
@[simp] theorem clearOut_rate : (s.clearOut).rate = s.rate := rfl
@[simp] theorem clearOut_cfg : (s.clearOut).cfg = s.cfg := rfl
@[simp] theorem clearOut_me : (s.clearOut).me = s.me := rfl
@[simp] theorem clearOut_active : (s.clearOut).active = s.active := rfl

/-! ### The records an update does not reach -/

@[simp] theorem modChan_view (c : Chan) (f : ChannelRec → ChannelRec) (d : Chan) : (s.modChan c f).view d = s.view d := rfl
@[simp] theorem modChan_slot (c : Chan) (f : ChannelRec → ChannelRec) (m : SlotId) : (s.modChan c f).slot m = s.slot m := rfl
@[simp] theorem modChan_watchRec (c : Chan) (f : ChannelRec → ChannelRec) (d : Chan) : (s.modChan c f).watchRec d = s.watchRec d := rfl
@[simp] theorem modChan_probe (c : Chan) (f : ChannelRec → ChannelRec) (q : ProbeId) : (s.modChan c f).probe q = s.probe q := rfl
@[simp] theorem modChan_peer (c : Chan) (f : ChannelRec → ChannelRec) (b : Addr) : (s.modChan c f).peer b = s.peer b := rfl
@[simp] theorem modChan_queue (c : Chan) (f : ChannelRec → ChannelRec) (k : Cls) : (s.modChan c f).queue k = s.queue k := by cases k <;> rfl
@[simp] theorem modView_chan (c : Chan) (f : View → View) (d : Chan) : (s.modView c f).chan d = s.chan d := rfl
@[simp] theorem modView_slot (c : Chan) (f : View → View) (m : SlotId) : (s.modView c f).slot m = s.slot m := rfl
@[simp] theorem modView_watchRec (c : Chan) (f : View → View) (d : Chan) : (s.modView c f).watchRec d = s.watchRec d := rfl
@[simp] theorem modView_probe (c : Chan) (f : View → View) (q : ProbeId) : (s.modView c f).probe q = s.probe q := rfl
@[simp] theorem modView_peer (c : Chan) (f : View → View) (b : Addr) : (s.modView c f).peer b = s.peer b := rfl
@[simp] theorem modView_queue (c : Chan) (f : View → View) (k : Cls) : (s.modView c f).queue k = s.queue k := by cases k <;> rfl
@[simp] theorem modSlot_chan (n : SlotId) (f : Slot → Slot) (d : Chan) : (s.modSlot n f).chan d = s.chan d := rfl
@[simp] theorem modSlot_view (n : SlotId) (f : Slot → Slot) (d : Chan) : (s.modSlot n f).view d = s.view d := rfl
@[simp] theorem modSlot_watchRec (n : SlotId) (f : Slot → Slot) (d : Chan) : (s.modSlot n f).watchRec d = s.watchRec d := rfl
@[simp] theorem modSlot_probe (n : SlotId) (f : Slot → Slot) (q : ProbeId) : (s.modSlot n f).probe q = s.probe q := rfl
@[simp] theorem modSlot_peer (n : SlotId) (f : Slot → Slot) (b : Addr) : (s.modSlot n f).peer b = s.peer b := rfl
@[simp] theorem modSlot_queue (n : SlotId) (f : Slot → Slot) (k : Cls) : (s.modSlot n f).queue k = s.queue k := by cases k <;> rfl
@[simp] theorem modWatch_chan (c : Chan) (f : WatchRec → WatchRec) (d : Chan) : (s.modWatch c f).chan d = s.chan d := rfl
@[simp] theorem modWatch_view (c : Chan) (f : WatchRec → WatchRec) (d : Chan) : (s.modWatch c f).view d = s.view d := rfl
@[simp] theorem modWatch_slot (c : Chan) (f : WatchRec → WatchRec) (m : SlotId) : (s.modWatch c f).slot m = s.slot m := rfl
@[simp] theorem modWatch_probe (c : Chan) (f : WatchRec → WatchRec) (q : ProbeId) : (s.modWatch c f).probe q = s.probe q := rfl
@[simp] theorem modWatch_peer (c : Chan) (f : WatchRec → WatchRec) (b : Addr) : (s.modWatch c f).peer b = s.peer b := rfl
@[simp] theorem modWatch_queue (c : Chan) (f : WatchRec → WatchRec) (k : Cls) : (s.modWatch c f).queue k = s.queue k := by cases k <;> rfl
@[simp] theorem modProbe_chan (p : ProbeId) (f : Probe → Probe) (d : Chan) : (s.modProbe p f).chan d = s.chan d := rfl
@[simp] theorem modProbe_view (p : ProbeId) (f : Probe → Probe) (d : Chan) : (s.modProbe p f).view d = s.view d := rfl
@[simp] theorem modProbe_slot (p : ProbeId) (f : Probe → Probe) (m : SlotId) : (s.modProbe p f).slot m = s.slot m := rfl
@[simp] theorem modProbe_watchRec (p : ProbeId) (f : Probe → Probe) (d : Chan) : (s.modProbe p f).watchRec d = s.watchRec d := rfl
@[simp] theorem modProbe_peer (p : ProbeId) (f : Probe → Probe) (b : Addr) : (s.modProbe p f).peer b = s.peer b := rfl
@[simp] theorem modProbe_queue (p : ProbeId) (f : Probe → Probe) (k : Cls) : (s.modProbe p f).queue k = s.queue k := by cases k <;> rfl
@[simp] theorem modPeer_chan (a : Addr) (f : Peer → Peer) (d : Chan) : (s.modPeer a f).chan d = s.chan d := rfl
@[simp] theorem modPeer_view (a : Addr) (f : Peer → Peer) (d : Chan) : (s.modPeer a f).view d = s.view d := rfl
@[simp] theorem modPeer_slot (a : Addr) (f : Peer → Peer) (m : SlotId) : (s.modPeer a f).slot m = s.slot m := rfl
@[simp] theorem modPeer_watchRec (a : Addr) (f : Peer → Peer) (d : Chan) : (s.modPeer a f).watchRec d = s.watchRec d := rfl
@[simp] theorem modPeer_probe (a : Addr) (f : Peer → Peer) (q : ProbeId) : (s.modPeer a f).probe q = s.probe q := rfl
@[simp] theorem modPeer_queue (a : Addr) (f : Peer → Peer) (k : Cls) : (s.modPeer a f).queue k = s.queue k := by
  cases k <;> rfl
@[simp] theorem setLine_chan (f : Line → Line) (d : Chan) : (s.setLine f).chan d = s.chan d := rfl
@[simp] theorem setLine_view (f : Line → Line) (d : Chan) : (s.setLine f).view d = s.view d := rfl
@[simp] theorem setLine_slot (f : Line → Line) (m : SlotId) : (s.setLine f).slot m = s.slot m := rfl
@[simp] theorem setLine_watchRec (f : Line → Line) (d : Chan) : (s.setLine f).watchRec d = s.watchRec d := rfl
@[simp] theorem setLine_probe (f : Line → Line) (q : ProbeId) : (s.setLine f).probe q = s.probe q := rfl
@[simp] theorem setLine_peer (f : Line → Line) (b : Addr) : (s.setLine f).peer b = s.peer b := rfl
@[simp] theorem setTime_chan (f : TimeBase → TimeBase) (d : Chan) : (s.setTime f).chan d = s.chan d := rfl
@[simp] theorem setTime_view (f : TimeBase → TimeBase) (d : Chan) : (s.setTime f).view d = s.view d := rfl
@[simp] theorem setTime_slot (f : TimeBase → TimeBase) (m : SlotId) : (s.setTime f).slot m = s.slot m := rfl
@[simp] theorem setTime_watchRec (f : TimeBase → TimeBase) (d : Chan) : (s.setTime f).watchRec d = s.watchRec d := rfl
@[simp] theorem setTime_probe (f : TimeBase → TimeBase) (q : ProbeId) : (s.setTime f).probe q = s.probe q := rfl
@[simp] theorem setTime_peer (f : TimeBase → TimeBase) (b : Addr) : (s.setTime f).peer b = s.peer b := rfl
@[simp] theorem setTime_queue (f : TimeBase → TimeBase) (k : Cls) : (s.setTime f).queue k = s.queue k := by cases k <;> rfl
@[simp] theorem setLoader_chan (f : Loader → Loader) (d : Chan) : (s.setLoader f).chan d = s.chan d := rfl
@[simp] theorem setLoader_view (f : Loader → Loader) (d : Chan) : (s.setLoader f).view d = s.view d := rfl
@[simp] theorem setLoader_slot (f : Loader → Loader) (m : SlotId) : (s.setLoader f).slot m = s.slot m := rfl
@[simp] theorem setLoader_watchRec (f : Loader → Loader) (d : Chan) : (s.setLoader f).watchRec d = s.watchRec d := rfl
@[simp] theorem setLoader_probe (f : Loader → Loader) (q : ProbeId) : (s.setLoader f).probe q = s.probe q := rfl
@[simp] theorem setLoader_peer (f : Loader → Loader) (b : Addr) : (s.setLoader f).peer b = s.peer b := rfl
@[simp] theorem setLoader_queue (f : Loader → Loader) (k : Cls) : (s.setLoader f).queue k = s.queue k := by cases k <;> rfl
@[simp] theorem setRepl_chan (f : Replication → Replication) (d : Chan) : (s.setRepl f).chan d = s.chan d := rfl
@[simp] theorem setRepl_view (f : Replication → Replication) (d : Chan) : (s.setRepl f).view d = s.view d := rfl
@[simp] theorem setRepl_slot (f : Replication → Replication) (m : SlotId) : (s.setRepl f).slot m = s.slot m := rfl
@[simp] theorem setRepl_watchRec (f : Replication → Replication) (d : Chan) : (s.setRepl f).watchRec d = s.watchRec d := rfl
@[simp] theorem setRepl_probe (f : Replication → Replication) (q : ProbeId) : (s.setRepl f).probe q = s.probe q := rfl
@[simp] theorem setRepl_peer (f : Replication → Replication) (b : Addr) : (s.setRepl f).peer b = s.peer b := rfl
@[simp] theorem setRepl_queue (f : Replication → Replication) (k : Cls) : (s.setRepl f).queue k = s.queue k := by cases k <;> rfl
@[simp] theorem setClaims_chan (f : ClaimEngine → ClaimEngine) (d : Chan) : (s.setClaims f).chan d = s.chan d := rfl
@[simp] theorem setClaims_view (f : ClaimEngine → ClaimEngine) (d : Chan) : (s.setClaims f).view d = s.view d := rfl
@[simp] theorem setClaims_slot (f : ClaimEngine → ClaimEngine) (m : SlotId) : (s.setClaims f).slot m = s.slot m := rfl
@[simp] theorem setClaims_watchRec (f : ClaimEngine → ClaimEngine) (d : Chan) : (s.setClaims f).watchRec d = s.watchRec d := rfl
@[simp] theorem setClaims_probe (f : ClaimEngine → ClaimEngine) (q : ProbeId) : (s.setClaims f).probe q = s.probe q := rfl
@[simp] theorem setClaims_peer (f : ClaimEngine → ClaimEngine) (b : Addr) : (s.setClaims f).peer b = s.peer b := rfl
@[simp] theorem setClaims_queue (f : ClaimEngine → ClaimEngine) (k : Cls) : (s.setClaims f).queue k = s.queue k := by cases k <;> rfl
@[simp] theorem emit_chan (n : SlotId) (w : CueWord) (d : Chan) : (s.emit n w).chan d = s.chan d := rfl
@[simp] theorem emit_view (n : SlotId) (w : CueWord) (d : Chan) : (s.emit n w).view d = s.view d := rfl
@[simp] theorem emit_slot (n : SlotId) (w : CueWord) (m : SlotId) : (s.emit n w).slot m = s.slot m := rfl
@[simp] theorem emit_watchRec (n : SlotId) (w : CueWord) (d : Chan) : (s.emit n w).watchRec d = s.watchRec d := rfl
@[simp] theorem emit_probe (n : SlotId) (w : CueWord) (q : ProbeId) : (s.emit n w).probe q = s.probe q := rfl
@[simp] theorem emit_peer (n : SlotId) (w : CueWord) (b : Addr) : (s.emit n w).peer b = s.peer b := rfl
@[simp] theorem emit_queue (n : SlotId) (w : CueWord) (k : Cls) : (s.emit n w).queue k = s.queue k := by cases k <;> rfl
@[simp] theorem clearOut_chan (d : Chan) : (s.clearOut).chan d = s.chan d := rfl
@[simp] theorem clearOut_view (d : Chan) : (s.clearOut).view d = s.view d := rfl
@[simp] theorem clearOut_slot (m : SlotId) : (s.clearOut).slot m = s.slot m := rfl
@[simp] theorem clearOut_watchRec (d : Chan) : (s.clearOut).watchRec d = s.watchRec d := rfl
@[simp] theorem clearOut_probe (q : ProbeId) : (s.clearOut).probe q = s.probe q := rfl
@[simp] theorem clearOut_peer (b : Addr) : (s.clearOut).peer b = s.peer b := rfl
@[simp] theorem clearOut_queue (k : Cls) : (s.clearOut).queue k = s.queue k := by cases k <;> rfl

end State

end Sys2Proof.Machine
end

