-- ==== Sys2Proof/Laws/Frame.lean ====
section
/-! SUPPORT. What no operation touches but the time base and the loader themselves: the time, the loader's values and
the queue of commands. -/

namespace Sys2Proof.Machine

namespace State

/-- The time base, the loader and the queue of commands, together. -/
def base (s : State) : TimeBase × Loader × List Instr := (s.time, s.loader, s.pending)

theorem base_time {s t : State} (h : t.base = s.base) : t.time = s.time := congrArg Prod.fst h
theorem base_loader {s t : State} (h : t.base = s.base) : t.loader = s.loader := congrArg (fun x => x.2.1) h
theorem base_pending {s t : State} (h : t.base = s.base) : t.pending = s.pending := congrArg (fun x => x.2.2) h

@[simp] theorem base_modChan (s : State) (c : Chan) (f : ChannelRec → ChannelRec) : (s.modChan c f).base = s.base := rfl
@[simp] theorem base_modView (s : State) (c : Chan) (f : View → View) : (s.modView c f).base = s.base := rfl
@[simp] theorem base_modSlot (s : State) (n : SlotId) (f : Slot → Slot) : (s.modSlot n f).base = s.base := rfl
@[simp] theorem base_modWatch (s : State) (c : Chan) (f : WatchRec → WatchRec) : (s.modWatch c f).base = s.base := rfl
@[simp] theorem base_modProbe (s : State) (p : ProbeId) (f : Probe → Probe) : (s.modProbe p f).base = s.base := rfl
@[simp] theorem base_setLine (s : State) (f : Line → Line) : (s.setLine f).base = s.base := rfl
@[simp] theorem base_setRepl (s : State) (f : Replication → Replication) : (s.setRepl f).base = s.base := rfl
@[simp] theorem base_setClaims (s : State) (f : ClaimEngine → ClaimEngine) : (s.setClaims f).base = s.base := rfl
@[simp] theorem base_emit (s : State) (n : SlotId) (w : CueWord) : (s.emit n w).base = s.base := rfl
@[simp] theorem base_clearOut (s : State)  : (s.clearOut ).base = s.base := rfl
@[simp] theorem base_modPeer (s : State) (a : Addr) (f : Peer → Peer) : (s.modPeer a f).base = s.base := rfl

@[simp] theorem base_mk (pending out freeCount time loader free chans repl watch probes peers views claims slots log logNext
    line) : (State.mk pending out freeCount time loader free chans repl watch probes peers views claims slots log logNext
      line).base = (time, loader, pending) := rfl
@[simp] theorem base_eta (s : State) : (s.time, s.loader, s.pending) = s.base := rfl

theorem base_foldl {α : Type} (f : State → α → State) (h : ∀ s x, (f s x).base = s.base) (xs : List α) (s : State) :
    (xs.foldl f s).base = s.base := by
  induction xs generalizing s with
  | nil => rfl
  | cons x xs ih => rw [List.foldl_cons, ih, h]

end State

theorem base_forChans (f : Chan → State → State) (h : ∀ c s, (f c s).base = s.base) (s : State) :
    (forChans f s).base = s.base := State.base_foldl _ (fun s c => h c s) _ s
theorem base_forSlots (f : SlotId → State → State) (h : ∀ n s, (f n s).base = s.base) (s : State) :
    (forSlots f s).base = s.base := State.base_foldl _ (fun s n => h n s) _ s
theorem base_forProbes (f : ProbeId → State → State) (h : ∀ p s, (f p s).base = s.base) (s : State) :
    (forProbes f s).base = s.base := State.base_foldl _ (fun s p => h p s) _ s

@[simp] theorem State.base_writeEntry (s : State) (kind : AsRunKind) (slot : Option SlotId) (chan : Option Chan) (event : Option Nat) (lateness : Option Int) (reason : Option ReleaseReason) : (s.writeEntry kind slot chan event lateness reason).base = s.base := rfl
@[simp] theorem State.base_slotEntry (s : State) (n : SlotId) (kind : AsRunKind) (event : Option Nat) (lateness : Option Int) : (s.slotEntry n kind event lateness).base = s.base := rfl
@[simp] theorem State.base_confirmEntry (s : State) (seq : Nat) (p : Pos) : (s.confirmEntry seq p).base = s.base := rfl
@[simp] theorem State.base_setQueue (s : State) (k : Cls) (q : List QEntry) : (s.setQueue k q).base = s.base := rfl
@[simp] theorem State.base_startWait (s : State) : s.startWait.base = s.base := rfl
@[simp] theorem State.base_enqueue (s : State) (m : OutMsg) : (s.enqueue m).base = s.base := rfl
@[simp] theorem State.base_takeBack (s : State) (k : Cls) (p : OutMsg → Bool) : (s.takeBack k p).base = s.base := rfl
@[simp] theorem State.base_replaceWaiting (s : State) (p : OutMsg → Bool) (m : OutMsg) : (s.replaceWaiting p m).base = s.base := rfl
@[simp] theorem State.base_offerBeacon (s : State) : s.offerBeacon.base = s.base := by
  unfold offerBeacon; (repeat' split) <;> rfl
@[simp] theorem State.base_putVerdict (s : State) (p : ProbeId) : (s.putVerdict p).base = s.base := by
  unfold putVerdict; dsimp only; (repeat' split) <;> simp
@[simp] theorem State.base_beaconRetry (s : State) : s.beaconRetry.base = s.base := by
  unfold beaconRetry; split <;> simp
@[simp] theorem State.base_beforeVerdict (s : State) (k : Nat) : (s.beforeVerdict k).base = s.base := by
  unfold beforeVerdict; split
  · exact (base_forProbes _ (fun p t => by split <;> simp) _).trans (base_beaconRetry s)
  · rfl
@[simp] theorem State.base_offerVerdict (s : State) (p : ProbeId) : (s.offerVerdict p).base = s.base := by
  simp [offerVerdict]
@[simp] theorem State.base_offerReply (s : State) (m : OutMsg) : (s.offerReply m).base = s.base := by
  unfold offerReply; (repeat' split) <;> rfl
@[simp] theorem State.base_drainInto (ms : List OutMsg) (s : State) : (drainInto ms s).1.base = s.base := by
  induction ms generalizing s with
  | nil => rfl
  | cons m ms ih => unfold drainInto; split; · rw [ih]; simp
                    · rfl
@[simp] theorem State.base_offerOutbox (s : State) : s.offerOutbox.base = s.base := by
  exact base_drainInto s.line.outbox s
@[simp] theorem State.base_offerCancels (s : State) : s.offerCancels.base = s.base := by
  exact (base_drainInto s.offerOutbox.line.cancels s.offerOutbox).trans (base_offerOutbox s)
@[simp] theorem State.base_offerRelease (s : State) (m : OutMsg) : (s.offerRelease m).base = s.base := by
  unfold offerRelease; dsimp only; split <;> simp
@[simp] theorem State.base_offerCancel (s : State) (m : OutMsg) : (s.offerCancel m).base = s.base := by
  unfold offerCancel; dsimp only; split <;> simp
@[simp] theorem State.base_armIfReady (s : State) (n : SlotId) : (s.armIfReady n).base = s.base := by
  unfold armIfReady; (repeat' split) <;> rfl
@[simp] theorem State.base_rearm (s : State) (n : SlotId) : (s.rearm n).base = s.base := by
  unfold rearm; (repeat' split) <;> simp
@[simp] theorem State.base_refreshEnd (s : State) (n : SlotId) : (s.refreshEnd n).base = s.base := by
  unfold refreshEnd; split <;> rfl
@[simp] theorem State.base_refill (s : State) (n : SlotId) : (s.refill n).base = s.base := by
  unfold refill; split <;> rfl
@[simp] theorem State.base_loseEvent (s : State) (n : SlotId) (c : Chan) (id : Nat) : (s.loseEvent n c id).base = s.base := by
  unfold loseEvent; dsimp only; split <;> simp
@[simp] theorem State.base_afterWalk (s : State) (c : Chan) : (s.afterWalk c).base = s.base := by
  unfold afterWalk; repeat' split <;> simp
@[simp] theorem State.base_freeRecs (s : State) (rs : List Rec) : (s.freeRecs rs).base = s.base := rfl
@[simp] theorem State.base_imageTouched (s : State) (c : Chan) : (s.imageTouched c).base = s.base := by
  unfold imageTouched; (repeat' split) <;> rfl
@[simp] theorem State.base_answerNone (s : State) (dst : Addr) (chan : Byte) : (s.answerNone dst chan).base = s.base := by
  unfold answerNone; split <;> rfl
@[simp] theorem State.base_dropService (s : State) (c : Chan) : (s.dropService c).base = s.base := by
  unfold dropService; repeat' split <;> simp
@[simp] theorem State.base_trim (s : State) (c : Chan) : (s.trim c).base = s.base := by
  unfold trim; dsimp only; split <;> simp
@[simp] theorem State.base_markPast (s : State) (c : Chan) : (s.markPast c).base = s.base := rfl
@[simp] theorem State.base_walkOwn (s : State) (c : Chan) : (s.walkOwn c).base = s.base := by
  unfold walkOwn; split <;> simp
@[simp] theorem State.base_walk (s : State) (c : Chan) : (s.walk c).base = s.base := by
  unfold walk; simp [base_foldl]
@[simp] theorem State.base_writeAnchor (s : State) (c : Chan) (a : Anchor) : (s.writeAnchor c a).base = s.base := by
  simp [writeAnchor]
@[simp] theorem State.base_removeAnchor (s : State) (c : Chan) : (s.removeAnchor c).base = s.base := by
  simp [removeAnchor]
@[simp] theorem State.base_dropLostAnchor (s : State) (c : Chan) : (s.dropLostAnchor c).base = s.base := rfl
@[simp] theorem State.base_expireAnchor (s : State) (c : Chan) : (s.expireAnchor c).base = s.base := by
  unfold expireAnchor; split <;> simp
@[simp] theorem State.base_frameStore (s : State) (c : Chan) : (s.frameStore c).base = s.base := by
  unfold frameStore; dsimp only; repeat' split
  all_goals first | simp | (rw [base_foldl _ fun s f => base_walkOwn s f]; simp)
@[simp] theorem State.base_freeParked (s : State) (c : Chan) (p : Parked → Bool) : (s.freeParked c p).base = s.base := rfl
@[simp] theorem State.base_modRequest (s : State) (c : Chan) (f : ImageRequest → ImageRequest) : (s.modRequest c f).base = s.base := rfl
@[simp] theorem State.base_putAsk (s : State) (c : Chan) : (s.putAsk c).base = s.base := by
  unfold putAsk; (repeat' split) <;> rfl
@[simp] theorem State.base_beforeAsk (s : State) (c : Chan) : (s.beforeAsk c).base = s.base := by
  unfold beforeAsk; split
  · exact (base_forChans _ (fun d t => by split <;> simp) _).trans (base_beforeVerdict s 4)
  · rfl
@[simp] theorem State.base_askTarget (s : State) (c : Chan) : (s.askTarget c).base = s.base := by
  simp [askTarget]
@[simp] theorem State.base_chooseTarget (s : State) (c : Chan) : (s.chooseTarget c).base = s.base := by
  unfold chooseTarget; repeat' split <;> simp
@[simp] theorem State.base_newRound (s : State) (c : Chan) : (s.newRound c).base = s.base := by
  simp [newRound]
@[simp] theorem State.base_beginRequest (s : State) (c : Chan) : (s.beginRequest c).base = s.base := by
  unfold beginRequest; split <;> simp
@[simp] theorem State.base_roundAgain (s : State) (c : Chan) : (s.roundAgain c).base = s.base := by
  unfold roundAgain; split <;> simp
@[simp] theorem State.base_freeShadow (s : State) (c : Chan) : (s.freeShadow c).base = s.base := by
  unfold freeShadow; split <;> rfl
@[simp] theorem State.base_abandonLoad (s : State) (c : Chan) : (s.abandonLoad c).base = s.base := by
  unfold abandonLoad; split <;> simp
@[simp] theorem State.base_setStale (s : State) (c : Chan) (cause : StaleCause) : (s.setStale c cause).base = s.base := by
  unfold setStale; repeat' split <;> simp
@[simp] theorem State.base_makeStale (s : State) (c : Chan) (cause : StaleCause) : (s.makeStale c cause).base = s.base := by
  simp [makeStale]
@[simp] theorem State.base_epochTouched (s : State) (c : Chan) (epoch : Nat) : (s.epochTouched c epoch).base = s.base := by
  unfold epochTouched; split <;> simp
@[simp] theorem State.base_takeChanges (s : State) (c : Chan) (epoch : Nat) : (s.takeChanges c epoch).base = s.base := by
  unfold takeChanges; dsimp only; split <;> simp
@[simp] theorem State.base_mainReturns (s : State) (c : Chan) (epoch : Option Nat) : (s.mainReturns c epoch).base = s.base := by
  simp [mainReturns]
@[simp] theorem State.base_loadTimeout (s : State) (c : Chan) : (s.loadTimeout c).base = s.base := by
  unfold loadTimeout; (repeat' split) <;> simp
@[simp] theorem State.base_targetTimeout (s : State) (c : Chan) : (s.targetTimeout c).base = s.base := by
  unfold targetTimeout; (repeat' split) <;> simp
@[simp] theorem State.base_roundRestart (s : State) (c : Chan) : (s.roundRestart c).base = s.base := by
  unfold roundRestart; (repeat' split) <;> simp
@[simp] theorem State.base_parkedTimeout (s : State) (c : Chan) : (s.parkedTimeout c).base = s.base := by
  unfold parkedTimeout; (repeat' split) <;> simp
@[simp] theorem State.base_authorityTest (s : State) (c : Chan) : (s.authorityTest c).base = s.base := by
  unfold authorityTest; (repeat' split) <;> simp
@[simp] theorem State.base_settleHealth (s : State) (c : Chan) (start : Health) : (s.settleHealth c start).base = s.base := rfl
@[simp] theorem State.base_evaluate (s : State) (c : Chan) : (s.evaluate c).base = s.base := by
  unfold evaluate; repeat' split <;> simp
@[simp] theorem State.base_restartHealth (s : State) (c : Chan) : (s.restartHealth c).base = s.base := rfl
@[simp] theorem State.base_updateLink (s : State) : s.updateLink.base = s.base := rfl
@[simp] theorem State.base_updatePicture (s : State) (c : Chan) : (s.updatePicture c).base = s.base := rfl
@[simp] theorem State.base_updateBeatLost (s : State) (c : Chan) : (s.updateBeatLost c).base = s.base := rfl
@[simp] theorem State.base_verdictEnters (s : State) (c : Chan) (a : Addr) (v : Verdict) : (s.verdictEnters c a v).base = s.base := rfl
@[simp] theorem State.base_frameWatch (s : State) (c : Chan) : (s.frameWatch c).base = s.base := by
  simp [frameWatch]
@[simp] theorem State.base_clearOrphan (s : State) (c : Chan) : (s.clearOrphan c).base = s.base := rfl
@[simp] theorem State.base_dropHolder (s : State) (c : Chan) : (s.dropHolder c).base = s.base := rfl
@[simp] theorem State.base_clearHolder (s : State) (c : Chan) : (s.clearHolder c).base = s.base := by
  simp [clearHolder]
@[simp] theorem State.base_orphanHolder (s : State) (c : Chan) (a : Addr) : (s.orphanHolder c a).base = s.base := by
  simp [orphanHolder]
@[simp] theorem State.base_setHolder (s : State) (c : Chan) (a : Addr) (epoch : Nat) (claim : Option Claim) : (s.setHolder c a epoch claim).base = s.base := by
  simp [setHolder]
@[simp] theorem State.base_acceptTake (s : State) (c : Chan) (a : Addr) (epoch : Nat) (claim : Option Claim) : (s.acceptTake c a epoch claim).base = s.base := by
  unfold acceptTake; dsimp only; split <;> simp
@[simp] theorem State.base_hear (s : State) (a : Addr) : (s.hear a).base = s.base := by
  unfold hear
  dsimp only
  split
  · simp
  · refine (base_forChans _ (fun c t => ?_) _).trans (base_modPeer _ _ _)
    split <;> simp
@[simp] theorem State.base_peerGone (s : State) (a : Addr) : (s.peerGone a).base = s.base := by
  unfold peerGone
  split
  · refine (base_modPeer _ _ _).trans ((base_forChans _ (fun c t => ?_) _).trans (base_modPeer _ _ _))
    split <;> simp
  · rfl
@[simp] theorem State.base_relayGone (s : State) (a : Addr) : (s.relayGone a).base = s.base := by
  unfold relayGone; split <;> rfl
@[simp] theorem State.base_startClaim (s : State) (c : Chan) (forced : Bool) : (s.startClaim c forced).base = s.base := by
  unfold startClaim; split <;> simp
@[simp] theorem State.base_freeReserved (s : State) (c : Chan) : (s.freeReserved c).base = s.base := by
  unfold freeReserved; split <;> rfl
@[simp] theorem State.base_endClaim (s : State) (c : Chan) (after : Contest) (rival : Option Rival) : (s.endClaim c after rival).base = s.base := by
  simp [endClaim]
@[simp] theorem State.base_beforeClaim (s : State) : s.beforeClaim.base = s.base := by
  unfold beforeClaim; split <;> simp
@[simp] theorem State.base_runLatch (s : State) : s.runLatch.base = s.base := by
  unfold runLatch; dsimp only; (repeat' split) <;> simp
@[simp] theorem State.base_look (s : State) : s.look.base = s.base := by
  unfold look; dsimp only; (repeat' split) <;> simp
@[simp] theorem State.base_review (s : State) : s.review.base = s.base := by
  unfold review; (repeat' split) <;> simp
@[simp] theorem State.base_recordDuplicate (s : State) (c : Chan) (d : Duplicate) : (s.recordDuplicate c d).base = s.base := rfl
@[simp] theorem State.base_contestOnTake (s : State) (c : Chan) (accepted : Bool) (rival : Rival) : (s.contestOnTake c accepted rival).base = s.base := by
  unfold contestOnTake; (repeat' split) <;> simp
@[simp] theorem State.base_offerTake (s : State) : s.offerTake.base = s.base := by
  unfold offerTake; dsimp only; (repeat' split) <;> simp
@[simp] theorem State.base_deadWinner (s : State) (c : Chan) : (s.deadWinner c).base = s.base := by
  unfold deadWinner; dsimp only; (repeat' split) <;> simp
@[simp] theorem State.base_expireExclusions (s : State) (c : Chan) : (s.expireExclusions c).base = s.base := rfl
@[simp] theorem State.base_expireIneligible (s : State) (c : Chan) : (s.expireIneligible c).base = s.base := rfl
@[simp] theorem State.base_linesOff (s : State) (n : SlotId) : (s.linesOff n).base = s.base :=
  base_foldl _ (fun t l => by split <;> rfl) _ s
@[simp] theorem State.base_cancelPlan (s : State) (n : SlotId) (c : Chan) (reason : ReleaseReason) : (s.cancelPlan n c reason).base = s.base := by
  unfold cancelPlan; (repeat' split) <;> simp
@[simp] theorem State.base_vacate (s : State) (n : SlotId) (c : Chan) : (s.vacate n c).base = s.base := by
  unfold vacate; dsimp only; split <;> simp
@[simp] theorem State.base_releaseView (s : State) (c : Chan) (reason : ReleaseReason) : (s.releaseView c reason).base = s.base := by
  unfold releaseView; split <;> simp
@[simp] theorem State.base_releaseSlot (s : State) (n : SlotId) (reason : ReleaseReason) : (s.releaseSlot n reason).base = s.base := by
  unfold releaseSlot; repeat' split <;> simp
@[simp] theorem State.base_releaseBy (s : State) (n : SlotId) (reason : ReleaseReason) : (s.releaseBy n reason).base = s.base := by
  simp [releaseBy]
@[simp] theorem State.base_takeRelease (s : State) (n : SlotId) : (s.takeRelease n).base = s.base := by
  unfold takeRelease; split <;> simp
@[simp] theorem State.base_joinSchedule (s : State) (c : Chan) (epoch : Nat) : (s.joinSchedule c epoch).base = s.base := by
  unfold joinSchedule; repeat' split <;> simp
@[simp] theorem State.base_cutOutgoing (s : State) (n : SlotId) (c : Chan) : (s.cutOutgoing n c).base = s.base := by
  unfold cutOutgoing; dsimp only; (repeat' split) <;> simp
@[simp] theorem State.base_skipEntries (s : State) (n : SlotId) (ids : List Nat) : (s.skipEntries n ids).base = s.base :=
  base_foldl (fun t id => t.slotEntry n .skipped (some id) none) (fun _ _ => rfl) ids s
@[simp] theorem State.base_startWatch (s : State) (n : SlotId) : (s.startWatch n).base = s.base := rfl
@[simp] theorem State.base_leaveFallback (s : State) (n : SlotId) (src : Source) : (s.leaveFallback n src).base = s.base := by
  unfold leaveFallback; split <;> rfl
@[simp] theorem State.base_takeCue (s : State) (n : SlotId) (cue : Cue) : (s.takeCue n cue).base = s.base := by
  unfold takeCue; split <;> rfl
@[simp] theorem State.base_fireFrom (s : State) (n : SlotId) (c : Chan) (e : Rec) (firePos : Pos) (lateBy : Nat) (skipped : List Nat) : (s.fireFrom n c e firePos lateBy skipped).base = s.base := by
  unfold fireFrom; split <;> simp
@[simp] theorem State.base_fireArmed (s : State) (n : SlotId) (c : Chan) (a : Armed) (lateBy : Nat) : (s.fireArmed n c a lateBy).base = s.base := by
  unfold fireArmed; split <;> simp
@[simp] theorem State.base_step1 (s : State) (n : SlotId) : (s.step1 n).base = s.base := by
  unfold step1
  refine (base_modSlot _ _ _).trans (base_foldl _ (fun t l => ?_) _ _)
  split <;> simp
@[simp] theorem State.base_step2 (s : State) (n : SlotId) : (s.step2 n).base = s.base := by
  unfold step2; (repeat' split) <;> rfl
theorem State.base_takeStep (s : State) (n : SlotId) (i : Nat) (f : State → State) (h : ∀ t, (f t).base = t.base) :
    (s.takeStep n i f).base = s.base := by
  unfold takeStep; (repeat' split) <;> simp [h]
@[simp] theorem State.base_firstSteps (s : State) (n : SlotId) : (s.firstSteps n).base = s.base :=
  (base_takeStep _ _ _ _ (by simp)).trans (base_takeStep _ _ _ _ (by simp))
@[simp] theorem State.base_lockstep (s : State) (m : SlotId) (c : Chan) (key : Nat) (was : Option Armed) : (s.lockstep m c key was).base = s.base := by
  unfold lockstep; dsimp only; (repeat' split) <;> simp
@[simp] theorem State.base_handOff (s before : State) (n : SlotId) (c : Chan) (key : Option Nat) : (s.handOff before n c key).base = s.base := by
  unfold handOff; split
  · rfl
  · exact base_forSlots _ (fun m t => by split <;> simp) s
@[simp] theorem State.base_issueJoinCue (s : State) (n : SlotId) : (s.issueJoinCue n).base = s.base := by
  unfold issueJoinCue; repeat' split <;> simp
@[simp] theorem State.base_joinFill (s : State) (n : SlotId) (c : Chan) : (s.joinFill n c).base = s.base := by
  simp [joinFill]
@[simp] theorem State.base_fireJoin (s : State) (n : SlotId) (c : Chan) (p : Plan) : (s.fireJoin n c p).base = s.base := by
  unfold fireJoin; repeat' split <;> simp
@[simp] theorem State.base_commitCheck (s : State) (n : SlotId) : (s.commitCheck n).base = s.base := by
  unfold commitCheck; dsimp only; (repeat' split) <;> simp
@[simp] theorem State.base_fireDue (s : State) (n : SlotId) (c : Chan) : (s.fireDue n c).base = s.base := by
  unfold fireDue; (repeat' split) <;> simp
@[simp] theorem State.base_step3 (s : State) (n : SlotId) : (s.step3 n).base = s.base := by
  unfold step3; dsimp only; (repeat' split) <;> simp
@[simp] theorem State.base_step4 (s : State) (n : SlotId) : (s.step4 n).base = s.base := by
  unfold step4; (repeat' split) <;> rfl
@[simp] theorem State.base_fallBack (s : State) (n : SlotId) (c : Chan) : (s.fallBack n c).base = s.base := rfl
@[simp] theorem State.base_step5 (s : State) (n : SlotId) : (s.step5 n).base = s.base := by
  unfold step5; (repeat' split) <;> rfl
@[simp] theorem State.base_step6 (s : State) (n : SlotId) : (s.step6 n).base = s.base := by
  unfold step6; dsimp only; (repeat' split) <;> simp
@[simp] theorem State.base_confirmCue (s : State) (n : SlotId) (p : Pos) : (s.confirmCue n p).base = s.base := by
  unfold confirmCue; split <;> rfl
@[simp] theorem State.base_foundFault (s : State) (n : SlotId) : (s.foundFault n).base = s.base := rfl
@[simp] theorem State.base_confirmStep (s : State) (n : SlotId) : (s.confirmStep n).base = s.base := by
  unfold confirmStep; (repeat' split) <;> simp
@[simp] theorem State.base_fallbackStep (s : State) (n : SlotId) : (s.fallbackStep n).base = s.base := by
  unfold fallbackStep; (repeat' split) <;> simp
@[simp] theorem State.base_step7 (s : State) (n : SlotId) : (s.step7 n).base = s.base := by
  simp [step7]
@[simp] theorem State.base_issueOcc (s : State) (n : SlotId) (o : Occ) : (s.issueOcc n o).base = s.base := by
  unfold issueOcc; dsimp only; split <;> simp
@[simp] theorem State.base_issueDue (n : SlotId) (k : Nat) (s : State) : (issueDue n k s).base = s.base := by
  induction k generalizing s with
  | zero => rfl
  | succ k ih => unfold issueDue; (repeat' split) <;> simp [ih]
@[simp] theorem State.base_step8 (s : State) (n : SlotId) : (s.step8 n).base = s.base := by
  simp [step8]
@[simp] theorem State.base_cueArmed (s : State) (n : SlotId) : (s.cueArmed n).base = s.base := by
  unfold cueArmed; repeat' split <;> simp
@[simp] theorem State.base_step9 (s : State) (n : SlotId) : (s.step9 n).base = s.base := by
  unfold step9; dsimp only; split <;> simp
@[simp] theorem State.base_slotStep (s : State) (n : SlotId) (k : Nat) : (s.slotStep n k).base = s.base := by
  unfold slotStep; split <;> simp
@[simp] theorem State.base_slotThrough (s : State) (n : SlotId) (k : Nat) : (s.slotThrough n k).base = s.base := by
  unfold slotThrough
  refine base_foldl _ (fun t i => ?_) _ _
  split
  · exact base_takeStep _ _ _ _ (by simp)
  · rfl
@[simp] theorem State.base_leaderFirst (s : State) (n : SlotId) : (s.leaderFirst n).base = s.base := by
  unfold leaderFirst; split <;> simp
@[simp] theorem State.base_slotRun (s : State) (n : SlotId) (k : Nat) : (s.slotRun n k).base = s.base := by
  unfold slotRun; split <;> simp
@[simp] theorem State.base_slotReleaseStep (s : State) (n : SlotId) : (s.slotReleaseStep n).base = s.base := by
  unfold slotReleaseStep; (repeat' split) <;> simp
@[simp] theorem State.base_maskChanged (s : State) (c : Chan) : (s.maskChanged c).base = s.base := rfl
@[simp] theorem State.base_putProfile (s : State) (c : Chan) (p : Profile) : (s.putProfile c p).base = s.base := by
  unfold putProfile; split <;> rfl
@[simp] theorem State.base_walkRelated (s old : State) (c : Chan) : (s.walkRelated old c).base = s.base := by
  unfold walkRelated
  refine base_forChans _ (fun d t => ?_) _
  split <;> simp
@[simp] theorem State.base_applyEdit (s : State) (c : Chan) (e : EditOp) : (s.applyEdit c e).base = s.base := by
  unfold applyEdit; repeat' split <;> simp
@[simp] theorem State.base_advanceSeq (s : State) (c : Chan) : (s.advanceSeq c).base = s.base := by
  unfold advanceSeq; split <;> simp
@[simp] theorem State.base_takeDue (s : State) (c : Chan) (op : Byte) (operands : List Byte) : (s.takeDue c op operands).base = s.base := by
  unfold takeDue; dsimp only; split <;> simp
@[simp] theorem base_drainParked (c : Chan) (k : Nat) (s : State) : (drainParked c k s).base = s.base := by
  induction k generalizing s with
  | zero => rfl
  | succ k ih => unfold drainParked; dsimp only; (repeat' split) <;> simp [ih]
@[simp] theorem State.base_drain (s : State) (c : Chan) : (s.drain c).base = s.base := by
  simp [drain]
@[simp] theorem State.base_park (s : State) (c : Chan) (src : Addr) (epoch seq : Nat) (op : Byte) (operands : List Byte) : (s.park c src epoch seq op operands).base = s.base := by
  unfold park; split <;> rfl
@[simp] theorem State.base_editAbove (s : State) (c : Chan) : (s.editAbove c).base = s.base := by
  unfold editAbove; (repeat' split) <;> simp
@[simp] theorem State.base_editNotCurrent (s : State) (c : Chan) (src : Addr) (epoch seq : Nat) (op : Byte) (operands : List Byte) : (s.editNotCurrent c src epoch seq op operands).base = s.base := by
  unfold editNotCurrent; (repeat' split) <;> simp
@[simp] theorem State.base_editCurrent (s : State) (c : Chan) (src : Addr) (epoch seq : Nat) (op : Byte) (operands : List Byte) : (s.editCurrent c src epoch seq op operands).base = s.base := by
  unfold editCurrent; dsimp only; (repeat' split) <;> simp
@[simp] theorem State.base_setWithheld (s : State) (c : Chan) : (s.setWithheld c).base = s.base := rfl
@[simp] theorem State.base_editArrives (s : State) (c : Chan) (src : Addr) (epoch seq : Nat) (op : Byte) (operands : List Byte) : (s.editArrives c src epoch seq op operands).base = s.base := by
  unfold editArrives; dsimp only; (repeat' split) <;> simp
@[simp] theorem State.base_abandonFor (s : State) (c : Chan) (cause : StaleCause) : (s.abandonFor c cause).base = s.base := by
  simp [abandonFor]
@[simp] theorem State.base_install (s : State) (c : Chan) (sh : Shadow) : (s.install c sh).base = s.base := by
  unfold install; split <;> simp
@[simp] theorem State.base_completeLoad (s : State) (c : Chan) : (s.completeLoad c).base = s.base := by
  unfold completeLoad; (repeat' split) <;> simp
@[simp] theorem State.base_storeSegment (s : State) (c : Chan) (g : Segment) : (s.storeSegment c g).base = s.base := by
  unfold storeSegment; dsimp only; (repeat' split) <;> simp
@[simp] theorem State.base_openShadow (s : State) (c : Chan) (g : Segment) (prior : ReplicaState × Option StaleCause) : (s.openShadow c g prior).base = s.base := rfl
@[simp] theorem State.base_segmentAccepted (s : State) (c : Chan) : (s.segmentAccepted c).base = s.base := rfl
@[simp] theorem State.base_takeSegment (s : State) (c : Chan) (g : Segment) : (s.takeSegment c g).base = s.base := by
  unfold takeSegment; dsimp only; (repeat' split) <;> simp
@[simp] theorem State.base_imageArrives (s : State) (c : Chan) (src : Addr) (g : Segment) : (s.imageArrives c src g).base = s.base := by
  unfold imageArrives; dsimp only; (repeat' split) <;> simp
@[simp] theorem State.base_imagereqArrives (s : State) (src : Addr) (byte : Byte) : (s.imagereqArrives src byte).base = s.base := by
  unfold imagereqArrives; (repeat' split) <;> simp
@[simp] theorem State.base_startImage (s : State) (c : Chan) : (s.startImage c).base = s.base := rfl
@[simp] theorem State.base_queueSegment (s : State) (dst : Addr) (c : Chan) : (s.queueSegment dst c).base = s.base := by
  unfold queueSegment; (repeat' split) <;> rfl
@[simp] theorem State.base_serveNext (s : State) : s.serveNext.base = s.base := by
  unfold serveNext; (repeat' split) <;> simp
@[simp] theorem State.base_imageDone (s : State) (m : OutMsg) : (s.imageDone m).base = s.base := by
  unfold imageDone; repeat' split <;> simp
@[simp] theorem State.base_judgeBeat (s : State) (c : Chan) (b : BeatEntry) : (s.judgeBeat c b).base = s.base := by
  unfold judgeBeat; dsimp only; (repeat' split) <;> simp
@[simp] theorem State.base_recordBeat (s : State) (c : Chan) (b : BeatEntry) : (s.recordBeat c b).base = s.base := rfl
@[simp] theorem State.base_beatArrives (s : State) (raw : RawBeat) : (s.beatArrives raw).base = s.base := by
  unfold beatArrives; (repeat' split) <;> simp
@[simp] theorem State.base_relaystateArrives (s : State) (a : Addr) (link : Nat) : (s.relaystateArrives a link).base = s.base := by
  unfold relaystateArrives; split <;> rfl
@[simp] theorem State.base_verdictArrives (s : State) (a : Addr) (chan verdict : Nat) : (s.verdictArrives a chan verdict).base = s.base := by
  unfold verdictArrives; (repeat' split) <;> rfl
@[simp] theorem State.base_giveVerdict (s : State) (p : ProbeId) : (s.giveVerdict p).base = s.base := by
  unfold giveVerdict; split <;> simp
@[simp] theorem State.base_formVerdict (s : State) (p : ProbeId) (v : Verdict) : (s.formVerdict p v).base = s.base := by
  unfold formVerdict; split <;> simp
@[simp] theorem State.base_judgeGrid (s : State) (p : ProbeId) (c : Chan) (lock : Bool) (cells : List Byte) : (s.judgeGrid p c lock cells).base = s.base := by
  unfold judgeGrid; dsimp only; split <;> simp
@[simp] theorem State.base_gridArrives (s : State) (probe : Nat) (lock : Bool) (cells : List Byte) : (s.gridArrives probe lock cells).base = s.base := by
  unfold gridArrives; (repeat' split) <;> simp
@[simp] theorem State.base_probeGone (s : State) (p : ProbeId) : (s.probeGone p).base = s.base := by
  unfold probeGone; split <;> simp
@[simp] theorem State.base_repeatVerdict (s : State) (p : ProbeId) : (s.repeatVerdict p).base = s.base := by
  unfold repeatVerdict; split <;> simp
@[simp] theorem State.base_beaconDuplicate (s : State) (c : Chan) (a : Addr) (e : Nat) : (s.beaconDuplicate c a e).base = s.base := by
  unfold beaconDuplicate; dsimp only; (repeat' split) <;> simp
@[simp] theorem State.base_beaconHolder (s : State) (c : Chan) (a : Addr) (e : Nat) : (s.beaconHolder c a e).base = s.base := by
  unfold beaconHolder; dsimp only; split <;> simp
@[simp] theorem State.base_beaconEntry (s : State) (a : Addr) (c : Chan) (e : Nat) : (s.beaconEntry a c e).base = s.base := by
  unfold beaconEntry; (repeat' split) <;> simp
@[simp] theorem State.base_beaconArrives (s : State) (a : Addr) (b : RawBeacon) : (s.beaconArrives a b).base = s.base := by
  unfold beaconArrives; dsimp only; split <;> simp [base_forChans, base_foldl, apply_ite base]
@[simp] theorem State.base_claimEchoed (s : State) (c : Chan) (serial : Nat) : (s.claimEchoed c serial).base = s.base := by
  unfold claimEchoed; dsimp only; split <;> simp
@[simp] theorem State.base_claimArrives (s : State) (c : Chan) (a : Addr) (claim : Claim) : (s.claimArrives c a claim).base = s.base := by
  unfold claimArrives; dsimp only; (repeat' split) <;> simp
@[simp] theorem State.base_takeArrives (s : State) (c : Chan) (a : Addr) (claim : Claim) (epoch : Nat) : (s.takeArrives c a claim epoch).base = s.base := by
  unfold takeArrives; split <;> simp
@[simp] theorem State.base_endCurrent (s : State) : s.endCurrent.base = s.base := rfl
@[simp] theorem State.base_takeEchoed (s : State) (c : Chan) (claim : Claim) (epoch : Nat) : (s.takeEchoed c claim epoch).base = s.base := by
  unfold takeEchoed; repeat' split <;> simp
@[simp] theorem State.base_releaseArrives (s : State) (c : Chan) (a : Addr) (reason : ReleaseReason) (ret : Option Nat) : (s.releaseArrives c a reason ret).base = s.base := by
  unfold releaseArrives; dsimp only; (repeat' split) <;> simp
@[simp] theorem State.base_forceStart (s : State) (c : Chan) : (s.forceStart c).1.base = s.base := by
  unfold forceStart; repeat' split <;> simp
@[simp] theorem State.base_forceResend (s : State) (c : Chan) : (s.forceResend c).1.base = s.base := by
  unfold forceResend; repeat' split <;> simp
@[simp] theorem State.base_force (s : State) (c : Chan) : (s.force c).1.base = s.base := by
  unfold force; dsimp only; (repeat' split) <;> simp
@[simp] theorem State.base_clearCourtesy (s : State) (k : Cls) : (s.clearCourtesy k).base = s.base := rfl
@[simp] theorem State.base_setCourtesy (s : State) (k : Cls) : (s.setCourtesy k).base = s.base := rfl
@[simp] theorem State.base_lineBecomesIdle (s : State) : s.lineBecomesIdle.base = s.base := rfl
@[simp] theorem State.base_startSending (s : State) (k : Cls) : (s.startSending k).base = s.base := by
  unfold startSending
  split
  · simp
  · simp
@[simp] theorem State.base_waitRunsOut (s : State) : s.waitRunsOut.base = s.base := by
  unfold waitRunsOut; split <;> simp
@[simp] theorem State.base_lineBecomesBusy (s : State) : s.lineBecomesBusy.base = s.base := by
  unfold lineBecomesBusy; split <;> rfl
@[simp] theorem State.base_leaveHead (s : State) : s.leaveHead.base = s.base := by
  unfold leaveHead; split <;> rfl
@[simp] theorem State.base_echoLost (s : State) : s.echoLost.base = s.base := rfl
@[simp] theorem State.base_askEchoed (s : State) (c : Chan) (d : Addr) : (s.askEchoed c d).base = s.base := rfl
@[simp] theorem State.base_noticeEchoed (s : State) (c : Chan) (event : Nat) (h : Pos) (ret : Nat) : (s.noticeEchoed c event h ret).base = s.base := by
  unfold noticeEchoed; split <;> rfl
@[simp] theorem State.base_answer (s : State) (dst : Addr) (tag : Nat) (code : ResultCode) (items : List (List Byte)) : (s.answer dst tag code items).base = s.base := by
  unfold answer; simp [base_foldl]
@[simp] theorem State.base_queryChannelCmd (s : State) (src : Addr) (tag : Nat) (c : Chan) : (s.queryChannelCmd src tag c).base = s.base := by
  simp [queryChannelCmd]
@[simp] theorem State.base_queryListCmd (s : State) (src : Addr) (tag : Nat) (c : Chan) (start count : Nat) : (s.queryListCmd src tag c start count).base = s.base := by
  unfold queryListCmd; (repeat' split) <;> simp
@[simp] theorem State.base_queryAsrunCmd (s : State) (src : Addr) (tag start count : Nat) :
    (s.queryAsrunCmd src tag start count).base = s.base := by
  unfold queryAsrunCmd
  exact base_answer _ _ _ _ _
@[simp] theorem State.base_forceTakeCmd (s : State) (src : Addr) (tag : Nat) (c : Chan) : (s.forceTakeCmd src tag c).base = s.base := by
  unfold forceTakeCmd; (repeat' split) <;> simp
@[simp] theorem State.base_forceReleaseCmd (s : State) (src : Addr) (tag : Nat) (c : Chan) : (s.forceReleaseCmd src tag c).base = s.base := by
  unfold forceReleaseCmd; (repeat' split) <;> simp
@[simp] theorem State.base_inhibitCmd (s : State) (dst src : Addr) (tag : Nat) (c : Chan) (on : Bool) : (s.inhibitCmd dst src tag c on).base = s.base := by
  unfold inhibitCmd; (repeat' split) <;> simp
@[simp] theorem State.base_nextCommand (s : State) (src : Addr) (tag : Nat) (c : Chan) : (s.nextCommand src tag c).base = s.base := by
  unfold nextCommand; dsimp only; (repeat' split) <;> simp
@[simp] theorem State.base_handbackCmd (s : State) (src : Addr) (tag : Nat) (c : Chan) (at? : Option Nat) : (s.handbackCmd src tag c at?).base = s.base := by
  unfold handbackCmd; dsimp only; (repeat' split) <;> simp
@[simp] theorem State.base_editRequestCmd (s : State) (src : Addr) (tag : Nat) (c : Chan) (op : Byte) (operands : List Byte) : (s.editRequestCmd src tag c op operands).base = s.base := by
  unfold editRequestCmd; dsimp only; (repeat' split) <;> simp
@[simp] theorem State.base_watchChannel (s : State) (c : Chan) : (s.watchChannel c).base = s.base := by
  unfold watchChannel; split <;> rfl
@[simp] theorem State.base_restartChannel (s : State) (c : Chan) : (s.restartChannel c).base = s.base := by
  unfold restartChannel; repeat' split <;> simp
@[simp] theorem State.base_beaconDue (s : State) : s.beaconDue.base = s.base := by
  unfold beaconDue; split <;> simp
@[simp] theorem State.base_silences (s : State) : s.silences.base = s.base := by
  unfold silences
  exact (base_foldl _ (fun t a => base_relayGone t a) _ _).trans (base_foldl _ (fun t a => base_peerGone t a) _ _)
@[simp] theorem State.base_offers (s : State) : s.offers.base = s.base := by
  unfold offers; simp [base_forChans, base_forProbes]
@[simp] theorem State.base_frameChannel (s : State) (c : Chan) : (s.frameChannel c).base = s.base := by
  simp [frameChannel]
@[simp] theorem State.base_frameClaims (s : State) : s.frameClaims.base = s.base := by
  unfold frameClaims
  have h : (forChans (fun c t => ((t.expireExclusions c).expireIneligible c).deadWinner c) s).base = s.base :=
    base_forChans _ (fun c t => by simp) _
  simpa using h

end Sys2Proof.Machine
end

