-- ==== Sys2Proof/Laws/Ops.lean ====
section
/-! SUPPORT. What each shared operation on the queues, the log and the confirm window, and a release that arises in a
slot's own steps, can do, said once: cite these and do not unfold the operations (R175, R176, R181 to R183, R166, R174,
R159, R164). -/

namespace Sys2Proof.Machine

namespace State

variable (s : State)

/-! ### The class queues -/

/-- A queue set reads back, and the others are as they were. -/
theorem setQueue_queue (k j : Cls) (q : List QEntry) :
    (s.setQueue k q).queue j = if j = k then q else s.queue j := by cases k <;> cases j <;> rfl

/-- A wait starts only on an idle line with nothing sent and no wait running, for the most urgent class that holds a
message, at 8 and 32 for each rung and the address (R181). -/
theorem startWait_cases : s.startWait = s ∨
    ∃ k, s.line.idle = true ∧ s.line.wait = none ∧ s.line.sending = none ∧ s.active = true ∧ s.offered = some k ∧
      s.startWait = s.setLine fun l => { l with wait := some ⟨k, 8 + 32 * s.rung k + s.me⟩ } := by
  by_cases g : (s.line.idle && s.line.wait.isNone && s.line.sending.isNone && s.active) = true
  · cases h : s.offered with
    | none =>
      left; simp only [startWait, nextWait, if_pos g, h, Option.map_none]
      have w : s.line.wait = none := by simp_all
      rw [← w]; rfl
    | some k => right; refine ⟨k, ?_⟩; simp_all [startWait, nextWait]
  · left; simp only [startWait, nextWait, if_neg g]; rfl

/-- Starting a wait leaves every queue as it was. -/
@[simp] theorem startWait_queue (k : Cls) : s.startWait.queue k = s.queue k := by cases k <;> rfl

/-- A message entered stands at the tail of the queue of its class; the other queues are as they were (R182). -/
theorem enqueue_queue (m : OutMsg) (k : Cls) :
    (s.enqueue m).queue k = if k = m.cls then s.queue k ++ [⟨m, false⟩] else s.queue k := by
  rw [enqueue, startWait_queue, setQueue_queue]; split
  · next h => rw [h]
  · rfl

/-- A message entered changes the queues and the wait of the line interface and nothing else. -/
theorem enqueue_spec (m : OutMsg) : ∃ l, s.enqueue m = s.setLine fun _ => l := ⟨_, rfl⟩

/-- Room is a free entry below the depth (R182). -/
theorem hasRoom_iff (k : Cls) : s.hasRoom k = true ↔ (s.queue k).length < depth k := by simp [hasRoom]

/-- Messages taken back are those the test names and that have not begun; the rest keep their order (R182). -/
theorem takeBack_queue (k j : Cls) (p : OutMsg → Bool) : (s.takeBack k p).queue j =
    if j = k then (s.queue j).filter fun e => e.begun || !p e.msg else s.queue j := by
  rw [takeBack, setQueue_queue]; split
  · next h => rw [h]
  · rfl

/-- A replacement keeps each entry's place, and only an entry that waits unsent and is named changes (R183). -/
theorem replaceWaiting_queue (p : OutMsg → Bool) (m : OutMsg) (j : Cls) : (s.replaceWaiting p m).queue j =
    if j = .one then (s.queue j).map fun e => if !e.begun && p e.msg then ⟨m, false⟩ else e else s.queue j := by
  rw [replaceWaiting, setQueue_queue]; split
  · next h => rw [h]
  · rfl

/-- Removing the first waiting entry of a kind that does wait leaves one entry fewer. -/
theorem dropFirst_length (p : OutMsg → Bool) (q : List QEntry) (h : (q.any fun e => !e.begun && p e.msg) = true) :
    (dropFirst p q).length + 1 = q.length := by
  induction q with
  | nil => simp at h
  | cons e q ih =>
    rw [dropFirst]; split
    · rfl
    · next g => rw [List.length_cons, List.length_cons, ih (by simpa [g] using h)]

/-- Draining moves a head part of the list, in order, into class 0 and stops when all is moved or no entry is free
(R166, R174). -/
theorem drainInto_spec (ms : List OutMsg) : ∃ n, n ≤ ms.length ∧
    drainInto ms s = ((ms.take n).foldl enqueue s, ms.drop n) ∧
    (n = ms.length ∨ ((ms.take n).foldl enqueue s).hasRoom .zero = false) := by
  induction ms generalizing s with
  | nil => exact ⟨0, Nat.le_refl _, rfl, .inl rfl⟩
  | cons m ms ih =>
    by_cases g : s.hasRoom .zero = true
    · obtain ⟨n, hn, e, h⟩ := ih (s.enqueue m)
      refine ⟨n + 1, Nat.succ_le_succ hn, ?_, ?_⟩
      · rw [drainInto, if_pos g, e]; rfl
      · exact h.imp (congrArg (· + 1)) id
    · exact ⟨0, Nat.zero_le _, by rw [drainInto, if_neg g]; rfl, .inr (by simpa using g)⟩

/-- Entering messages changes the line interface and nothing else. -/
theorem foldl_enqueue_line (ms : List OutMsg) : ∃ l, ms.foldl enqueue s = s.setLine fun _ => l := by
  induction ms generalizing s with
  | nil => exact ⟨s.line, rfl⟩
  | cons m ms ih => obtain ⟨l, h⟩ := ih (s.enqueue m); exact ⟨l, h⟩

/-- Draining changes the line interface and nothing else. -/
theorem drainInto_line (ms : List OutMsg) : ∃ l, (drainInto ms s).1 = s.setLine fun _ => l := by
  obtain ⟨n, _, h, _⟩ := s.drainInto_spec ms
  rw [h]; exact s.foldl_enqueue_line _

/-- Offering the outbox changes the line interface and nothing else (R166). -/
theorem offerOutbox_line : ∃ l, s.offerOutbox = s.setLine fun _ => l := by
  obtain ⟨l, h⟩ := s.drainInto_line s.line.outbox
  exact ⟨_, by unfold offerOutbox; dsimp only; rw [h]; rfl⟩

/-- Offering the cancels changes the line interface and nothing else (R174). -/
theorem offerCancels_line : ∃ l, s.offerCancels = s.setLine fun _ => l := by
  obtain ⟨l, h⟩ := s.offerOutbox_line
  obtain ⟨k, g⟩ := s.offerOutbox.drainInto_line s.offerOutbox.line.cancels
  exact ⟨_, by unfold offerCancels; dsimp only; rw [g, h]; rfl⟩

/-- Offering a RELEASE changes the line interface and nothing else (R166). -/
theorem offerRelease_line (m : OutMsg) : ∃ l, s.offerRelease m = s.setLine fun _ => l := by
  obtain ⟨l, h⟩ := s.offerOutbox_line
  unfold offerRelease; dsimp only; split <;> exact ⟨_, by rw [h]; rfl⟩

/-- Offering a cancel changes the line interface and nothing else (R174). -/
theorem offerCancel_line (m : OutMsg) : ∃ l, s.offerCancel m = s.setLine fun _ => l := by
  obtain ⟨l, h⟩ := s.offerCancels_line
  unfold offerCancel; dsimp only; split <;> exact ⟨_, by rw [h]; rfl⟩

/-! ### The as-run log -/

/-- Writing an entry appends one, numbered with the next sequence number, and drops the oldest of 512 (R175, R176). -/
theorem writeEntry_spec (kind : AsRunKind) (slot : Option SlotId) (chan : Option Chan) (event : Option Nat)
    (lateness : Option Int) (reason : Option ReleaseReason) :
    s.writeEntry kind slot chan event lateness reason = { s with
      log := (if s.log.length < 512 then s.log else s.log.drop 1) ++
        [⟨s.logNext, s.now, kind, slot, chan, event, lateness, none, reason⟩]
      logNext := (s.logNext + 1) % 4294967296 } := rfl

/-- The log never grows past 512 entries by a write (R176). -/
theorem writeEntry_length (kind : AsRunKind) (slot : Option SlotId) (chan : Option Chan) (event : Option Nat)
    (lateness : Option Int) (reason : Option ReleaseReason) (h : s.log.length ≤ 512) :
    (s.writeEntry kind slot chan event lateness reason).log.length ≤ 512 := by
  rw [writeEntry_spec, List.length_append]; split
  · exact ‹_›
  · rw [List.length_drop]; exact Nat.le_trans (by simp only [List.length_singleton]; omega) h

/-- A confirmation changes no entry's number, and no entry but the one with that number; of a second one the entry holds
its position or the first (R159, R175; log 53). -/
theorem confirmEntry_log (seq : Nat) (p : Pos) : (s.confirmEntry seq p).log = s.log.map fun e =>
    if e.seq = seq then { e with tally := if e.tally.isNone || Config.secondTally then some p else e.tally } else e := rfl

/-- A first confirmation is the one addition of R175, whichever rule gives a second one. -/
theorem confirmEntry_first (seq : Nat) (p : Pos) (h : ∀ e ∈ s.log, e.seq = seq → e.tally = none) :
    (s.confirmEntry seq p).log = s.log.map fun e => if e.seq = seq then { e with tally := some p } else e :=
  List.map_congr_left fun e he => by by_cases hs : e.seq = seq <;> simp [hs, h e he]

/-! ### Records of peers -/

/-- Two addresses with one place are one address. -/
theorem peerIdx_inj {a b : Nat} {i : Fin 30} (ha : peerIdx a = some i) (hb : peerIdx b = some i) : a = b := by
  unfold peerIdx at ha hb
  split at ha <;> split at hb <;> try contradiction
  have hi := congrArg Fin.val (Option.some.inj ha)
  have hj := congrArg Fin.val (Option.some.inj hb)
  dsimp only at hi hj; omega

/-- A peer's record after an update: the address's own for the 30 addresses, and every other as it was (R102). -/
theorem modPeer_peer (a b : Addr) (f : Peer → Peer) : (s.modPeer a f).peer b =
    if a = b ∧ (peerIdx a).isSome then f (s.peer b) else s.peer b := by
  cases ha : peerIdx a with
  | none => simp [modPeer, peer, ha]
  | some i =>
    by_cases h : a = b
    · subst h; simp [modPeer, peer, ha]
    · rw [if_neg fun g => h g.1]
      unfold modPeer peer
      cases hb : peerIdx b with
      | none => rfl
      | some j => rw [ha]; exact vmod_get_other _ _ _ _ fun g => h (peerIdx_inj ha (g ▸ hb))

/-! ### The confirm window -/

/-- A confirm window ends by its count or by its expected-by position, as the part is built (R13, R159; log 28). -/
theorem windowOver_eq (n : SlotId) (p : Pos) : s.windowOver n p =
    if Config.confirmByCount then decide (s.cfg.confirm ≤ (s.slot n).sincePlay) else s.reached p := by
  unfold windowOver
  by_cases h : s.reached p = decide (s.cfg.confirm ≤ (s.slot n).sincePlay) <;> simp [h]

/-- Where the count and the position agree, the window has run out when both say so. -/
theorem windowOver_of_agree (n : SlotId) (p : Pos)
    (h : s.reached p = decide (s.cfg.confirm ≤ (s.slot n).sincePlay)) : s.windowOver n p = s.reached p := by
  rw [windowOver_eq, ← h, ite_self]

/-- What the first part of step 7 can do: nothing with no window open or one that still runs; else a confirmation at the
PLAY of a tally high throughout, or a fault (R159). -/
theorem confirmStep_cases (n : SlotId) :
    (s.confirmStep n = s ∧ ∀ p, (s.slot n).expectedBy = some p → s.windowOver n p = false) ∨
    ∃ p, (s.slot n).expectedBy = some p ∧ s.windowOver n p = true ∧
      ((((s.slot n).highSincePlay && (s.slot n).tally) = true ∧
          s.confirmStep n = s.confirmCue n ((s.slot n).playPos.getD s.now)) ∨
        (((s.slot n).highSincePlay && (s.slot n).tally) = false ∧ s.confirmStep n = s.foundFault n)) := by
  cases he : (s.slot n).expectedBy with
  | none => exact .inl ⟨by simp [confirmStep, he], by simp⟩
  | some p =>
    cases hw : s.windowOver n p with
    | false => exact .inl ⟨by simp [confirmStep, he, hw], by simp [hw]⟩
    | true =>
      refine .inr ⟨p, rfl, hw, ?_⟩
      by_cases ht : ((s.slot n).highSincePlay && (s.slot n).tally) = true
      · exact .inl ⟨ht, by simp only [confirmStep, he, hw, ht, if_true]⟩
      · exact .inr ⟨by simpa using ht, by simp only [confirmStep, he, hw, ht, if_true]; rfl⟩

/-- A fault found is pending, its window is closed, and the rest of the slot stands (R159; log 48). -/
@[simp] theorem foundFault_slot (n : SlotId) :
    (s.foundFault n).slot n = { s.slot n with faultPending := true, expectedBy := none } :=
  modSlot_slot _ n _

/-! ### Releases that arise in a slot's own steps -/

/-- With none pending the cause gives its own reason (R164). -/
theorem releaseBy_of_none (n : SlotId) (reason : ReleaseReason) (h : (s.slot n).releasePending = none) :
    s.releaseBy n reason = s.releaseSlot n reason := by simp [releaseBy, h]

/-- A pending release absorbs the cause and is taken in its place (R164; log 49). -/
theorem releaseBy_of_pending (n : SlotId) (reason r : ReleaseReason) (h : (s.slot n).releasePending = some r) :
    s.releaseBy n reason = s.releaseSlot n r := by simp [releaseBy, h]

end State

/-! ### The cap on an event before the anchor (R27; log 47) -/

/-- The cap changes the derived start, the derived end and the eclipsed flag of an event, and nothing else. -/
theorem capAt_only_times (r : Rate) (a : Pos) (e : Rec) : capAt r a e =
    { e with derived := { e.derived with start := (capAt r a e).derived.start, stop := (capAt r a e).derived.stop,
                                         eclipsed := (capAt r a e).derived.eclipsed } } := by
  unfold capAt; dsimp only; split <;> rfl

/-! ### Folds over the part's fixed sets -/

/-- What each turn keeps, a fold over the channels keeps. -/
theorem forChans_keeps {P : State → Prop} {f : Chan → State → State} (h : ∀ c s, P s → P (f c s)) (s : State) (hs : P s) :
    P (forChans f s) := by
  unfold forChans
  generalize List.finRange 32 = cs
  induction cs generalizing s with
  | nil => exact hs
  | cons c cs ih => exact ih _ (h c s hs)

/-- What each turn keeps, a fold over the slots keeps. -/
theorem forSlots_keeps {P : State → Prop} {f : SlotId → State → State} (h : ∀ n s, P s → P (f n s)) (s : State)
    (hs : P s) : P (forSlots f s) := by
  unfold forSlots
  generalize List.finRange 8 = ns
  induction ns generalizing s with
  | nil => exact hs
  | cons n ns ih => exact ih _ (h n s hs)

/-- What each turn keeps, a fold over the probes keeps. -/
theorem forProbes_keeps {P : State → Prop} {f : ProbeId → State → State} (h : ∀ p s, P s → P (f p s)) (s : State)
    (hs : P s) : P (forProbes f s) := by
  unfold forProbes
  generalize List.finRange 4 = ps
  induction ps generalizing s with
  | nil => exact hs
  | cons p ps ih => exact ih _ (h p s hs)

end Sys2Proof.Machine
end

