-- ==== Sys2Proof/Laws/Leaves.lean ====
section
/-! SUPPORT. What the shared operations leave alone: what the part has told (its outputs and its as-run log), the slots,
the takeover views and the channel records. An operation with no lemma for one of these may change it. -/

namespace Sys2Proof.Machine

namespace State

/-- The outputs, the as-run log and its next sequence number, together. -/
def told (s : State) : List Output × List AsRun × Nat := (s.out, s.log, s.logNext)

theorem told_out {s t : State} (h : t.told = s.told) : t.out = s.out := congrArg Prod.fst h
theorem told_log {s t : State} (h : t.told = s.told) : t.log = s.log := congrArg (fun x => x.2.1) h
theorem told_logNext {s t : State} (h : t.told = s.told) : t.logNext = s.logNext := congrArg (fun x => x.2.2) h

@[simp] theorem told_mk (pending out freeCount time loader free chans repl watch probes peers views claims slots log
    logNext line) : (State.mk pending out freeCount time loader free chans repl watch probes peers views claims slots log
      logNext line).told = (out, log, logNext) := rfl
@[simp] theorem told_eta (s : State) : (s.out, s.log, s.logNext) = s.told := rfl

@[simp] theorem modChan_told (s : State) (c : Chan) (f : ChannelRec → ChannelRec) : (s.modChan c f).told = s.told := rfl
@[simp] theorem modView_told (s : State) (c : Chan) (f : View → View) : (s.modView c f).told = s.told := rfl
@[simp] theorem modSlot_told (s : State) (n : SlotId) (f : Slot → Slot) : (s.modSlot n f).told = s.told := rfl
@[simp] theorem modWatch_told (s : State) (c : Chan) (f : WatchRec → WatchRec) : (s.modWatch c f).told = s.told := rfl
@[simp] theorem modProbe_told (s : State) (p : ProbeId) (f : Probe → Probe) : (s.modProbe p f).told = s.told := rfl
@[simp] theorem modPeer_told (s : State) (a : Addr) (f : Peer → Peer) : (s.modPeer a f).told = s.told := rfl
@[simp] theorem setLine_told (s : State) (f : Line → Line) : (s.setLine f).told = s.told := rfl
@[simp] theorem setRepl_told (s : State) (f : Replication → Replication) : (s.setRepl f).told = s.told := rfl
@[simp] theorem setClaims_told (s : State) (f : ClaimEngine → ClaimEngine) : (s.setClaims f).told = s.told := rfl
@[simp] theorem setTime_told (s : State) (f : TimeBase → TimeBase) : (s.setTime f).told = s.told := rfl
@[simp] theorem setLoader_told (s : State) (f : Loader → Loader) : (s.setLoader f).told = s.told := rfl

/-- What each turn keeps, a fold keeps. -/
theorem foldl_keeps {α β : Type} (p : State → β) {f : State → α → State} (h : ∀ s x, p (f s x) = p s) (xs : List α)
    (s : State) : p (xs.foldl f s) = p s := by
  induction xs generalizing s with
  | nil => rfl
  | cons x xs ih => rw [List.foldl_cons, ih, h]

@[simp] theorem writeEntry_slots (s : State) (kind : AsRunKind) (slot : Option SlotId) (chan : Option Chan) (event : Option Nat) (lateness : Option Int) (reason : Option ReleaseReason) : (s.writeEntry kind slot chan event lateness reason).slots = s.slots := rfl
@[simp] theorem writeEntry_views (s : State) (kind : AsRunKind) (slot : Option SlotId) (chan : Option Chan) (event : Option Nat) (lateness : Option Int) (reason : Option ReleaseReason) : (s.writeEntry kind slot chan event lateness reason).views = s.views := rfl
@[simp] theorem writeEntry_chans (s : State) (kind : AsRunKind) (slot : Option SlotId) (chan : Option Chan) (event : Option Nat) (lateness : Option Int) (reason : Option ReleaseReason) : (s.writeEntry kind slot chan event lateness reason).chans = s.chans := rfl
@[simp] theorem slotEntry_slots (s : State) (n : SlotId) (kind : AsRunKind) (event : Option Nat) (lateness : Option Int) : (s.slotEntry n kind event lateness).slots = s.slots := rfl
@[simp] theorem slotEntry_views (s : State) (n : SlotId) (kind : AsRunKind) (event : Option Nat) (lateness : Option Int) : (s.slotEntry n kind event lateness).views = s.views := rfl
@[simp] theorem slotEntry_chans (s : State) (n : SlotId) (kind : AsRunKind) (event : Option Nat) (lateness : Option Int) : (s.slotEntry n kind event lateness).chans = s.chans := rfl
@[simp] theorem confirmEntry_slots (s : State) (seq : Nat) (p : Pos) : (s.confirmEntry seq p).slots = s.slots := rfl
@[simp] theorem confirmEntry_views (s : State) (seq : Nat) (p : Pos) : (s.confirmEntry seq p).views = s.views := rfl
@[simp] theorem confirmEntry_chans (s : State) (seq : Nat) (p : Pos) : (s.confirmEntry seq p).chans = s.chans := rfl
@[simp] theorem setQueue_told (s : State) (k : Cls) (q : List QEntry) : (s.setQueue k q).told = s.told := rfl
@[simp] theorem setQueue_slots (s : State) (k : Cls) (q : List QEntry) : (s.setQueue k q).slots = s.slots := rfl
@[simp] theorem setQueue_views (s : State) (k : Cls) (q : List QEntry) : (s.setQueue k q).views = s.views := rfl
@[simp] theorem setQueue_chans (s : State) (k : Cls) (q : List QEntry) : (s.setQueue k q).chans = s.chans := rfl
@[simp] theorem startWait_told (s : State) : s.startWait.told = s.told := rfl
@[simp] theorem startWait_slots (s : State) : s.startWait.slots = s.slots := rfl
@[simp] theorem startWait_views (s : State) : s.startWait.views = s.views := rfl
@[simp] theorem startWait_chans (s : State) : s.startWait.chans = s.chans := rfl
@[simp] theorem enqueue_told (s : State) (m : OutMsg) : (s.enqueue m).told = s.told := rfl
@[simp] theorem enqueue_slots (s : State) (m : OutMsg) : (s.enqueue m).slots = s.slots := rfl
@[simp] theorem enqueue_views (s : State) (m : OutMsg) : (s.enqueue m).views = s.views := rfl
@[simp] theorem enqueue_chans (s : State) (m : OutMsg) : (s.enqueue m).chans = s.chans := rfl
@[simp] theorem takeBack_told (s : State) (k : Cls) (p : OutMsg → Bool) : (s.takeBack k p).told = s.told := rfl
@[simp] theorem takeBack_slots (s : State) (k : Cls) (p : OutMsg → Bool) : (s.takeBack k p).slots = s.slots := rfl
@[simp] theorem takeBack_views (s : State) (k : Cls) (p : OutMsg → Bool) : (s.takeBack k p).views = s.views := rfl
@[simp] theorem takeBack_chans (s : State) (k : Cls) (p : OutMsg → Bool) : (s.takeBack k p).chans = s.chans := rfl
@[simp] theorem replaceWaiting_told (s : State) (p : OutMsg → Bool) (m : OutMsg) : (s.replaceWaiting p m).told = s.told := rfl
@[simp] theorem replaceWaiting_slots (s : State) (p : OutMsg → Bool) (m : OutMsg) : (s.replaceWaiting p m).slots = s.slots := rfl
@[simp] theorem replaceWaiting_views (s : State) (p : OutMsg → Bool) (m : OutMsg) : (s.replaceWaiting p m).views = s.views := rfl
@[simp] theorem replaceWaiting_chans (s : State) (p : OutMsg → Bool) (m : OutMsg) : (s.replaceWaiting p m).chans = s.chans := rfl
@[simp] theorem offerBeacon_told (s : State) : s.offerBeacon.told = s.told := by
  unfold offerBeacon; (repeat' split) <;> rfl
@[simp] theorem offerBeacon_slots (s : State) : s.offerBeacon.slots = s.slots := by
  unfold offerBeacon; (repeat' split) <;> rfl
@[simp] theorem offerBeacon_views (s : State) : s.offerBeacon.views = s.views := by
  unfold offerBeacon; (repeat' split) <;> rfl
@[simp] theorem offerBeacon_chans (s : State) : s.offerBeacon.chans = s.chans := by
  unfold offerBeacon; (repeat' split) <;> rfl
@[simp] theorem putVerdict_told (s : State) (p : ProbeId) : (s.putVerdict p).told = s.told := by
  unfold putVerdict; dsimp only; (repeat' split) <;> simp
@[simp] theorem beaconRetry_told (s : State) : s.beaconRetry.told = s.told := by
  unfold beaconRetry; split <;> simp
@[simp] theorem beforeVerdict_told (s : State) (k : Nat) : (s.beforeVerdict k).told = s.told := by
  unfold beforeVerdict; split
  · exact forProbes_keeps (P := fun t => t.told = s.told) (fun p t h => by split <;> simp [h]) _ (by simp)
  · rfl
@[simp] theorem offerVerdict_told (s : State) (p : ProbeId) : (s.offerVerdict p).told = s.told := by
  simp [offerVerdict]
@[simp] theorem putVerdict_slots (s : State) (p : ProbeId) : (s.putVerdict p).slots = s.slots := by
  unfold putVerdict; dsimp only; (repeat' split) <;> simp
@[simp] theorem beaconRetry_slots (s : State) : s.beaconRetry.slots = s.slots := by
  unfold beaconRetry; split <;> simp
@[simp] theorem beforeVerdict_slots (s : State) (k : Nat) : (s.beforeVerdict k).slots = s.slots := by
  unfold beforeVerdict; split
  · exact forProbes_keeps (P := fun t => t.slots = s.slots) (fun p t h => by split <;> simp [h]) _ (by simp)
  · rfl
@[simp] theorem offerVerdict_slots (s : State) (p : ProbeId) : (s.offerVerdict p).slots = s.slots := by
  simp [offerVerdict]
@[simp] theorem putVerdict_views (s : State) (p : ProbeId) : (s.putVerdict p).views = s.views := by
  unfold putVerdict; dsimp only; (repeat' split) <;> simp
@[simp] theorem beaconRetry_views (s : State) : s.beaconRetry.views = s.views := by
  unfold beaconRetry; split <;> simp
@[simp] theorem beforeVerdict_views (s : State) (k : Nat) : (s.beforeVerdict k).views = s.views := by
  unfold beforeVerdict; split
  · exact forProbes_keeps (P := fun t => t.views = s.views) (fun p t h => by split <;> simp [h]) _ (by simp)
  · rfl
@[simp] theorem offerVerdict_views (s : State) (p : ProbeId) : (s.offerVerdict p).views = s.views := by
  simp [offerVerdict]
@[simp] theorem putVerdict_chans (s : State) (p : ProbeId) : (s.putVerdict p).chans = s.chans := by
  unfold putVerdict; dsimp only; (repeat' split) <;> simp
@[simp] theorem beaconRetry_chans (s : State) : s.beaconRetry.chans = s.chans := by
  unfold beaconRetry; split <;> simp
@[simp] theorem beforeVerdict_chans (s : State) (k : Nat) : (s.beforeVerdict k).chans = s.chans := by
  unfold beforeVerdict; split
  · exact forProbes_keeps (P := fun t => t.chans = s.chans) (fun p t h => by split <;> simp [h]) _ (by simp)
  · rfl
@[simp] theorem offerVerdict_chans (s : State) (p : ProbeId) : (s.offerVerdict p).chans = s.chans := by
  simp [offerVerdict]
@[simp] theorem offerReply_told (s : State) (m : OutMsg) : (s.offerReply m).told = s.told := by
  unfold offerReply; (repeat' split) <;> rfl
@[simp] theorem offerReply_slots (s : State) (m : OutMsg) : (s.offerReply m).slots = s.slots := by
  unfold offerReply; (repeat' split) <;> rfl
@[simp] theorem offerReply_views (s : State) (m : OutMsg) : (s.offerReply m).views = s.views := by
  unfold offerReply; (repeat' split) <;> rfl
@[simp] theorem offerReply_chans (s : State) (m : OutMsg) : (s.offerReply m).chans = s.chans := by
  unfold offerReply; (repeat' split) <;> rfl
@[simp] theorem offerOutbox_told (s : State) : s.offerOutbox.told = s.told := by
  obtain ⟨l, h⟩ := s.offerOutbox_line; rw [h]; rfl
@[simp] theorem offerOutbox_slots (s : State) : s.offerOutbox.slots = s.slots := by
  obtain ⟨l, h⟩ := s.offerOutbox_line; rw [h]; rfl
@[simp] theorem offerOutbox_views (s : State) : s.offerOutbox.views = s.views := by
  obtain ⟨l, h⟩ := s.offerOutbox_line; rw [h]; rfl
@[simp] theorem offerOutbox_chans (s : State) : s.offerOutbox.chans = s.chans := by
  obtain ⟨l, h⟩ := s.offerOutbox_line; rw [h]; rfl
@[simp] theorem offerCancels_told (s : State) : s.offerCancels.told = s.told := by
  obtain ⟨l, h⟩ := s.offerCancels_line; rw [h]; rfl
@[simp] theorem offerCancels_slots (s : State) : s.offerCancels.slots = s.slots := by
  obtain ⟨l, h⟩ := s.offerCancels_line; rw [h]; rfl
@[simp] theorem offerCancels_views (s : State) : s.offerCancels.views = s.views := by
  obtain ⟨l, h⟩ := s.offerCancels_line; rw [h]; rfl
@[simp] theorem offerCancels_chans (s : State) : s.offerCancels.chans = s.chans := by
  obtain ⟨l, h⟩ := s.offerCancels_line; rw [h]; rfl
@[simp] theorem offerRelease_told (s : State) (m : OutMsg) : (s.offerRelease m).told = s.told := by
  obtain ⟨l, h⟩ := s.offerRelease_line m; rw [h]; rfl
@[simp] theorem offerRelease_slots (s : State) (m : OutMsg) : (s.offerRelease m).slots = s.slots := by
  obtain ⟨l, h⟩ := s.offerRelease_line m; rw [h]; rfl
@[simp] theorem offerRelease_views (s : State) (m : OutMsg) : (s.offerRelease m).views = s.views := by
  obtain ⟨l, h⟩ := s.offerRelease_line m; rw [h]; rfl
@[simp] theorem offerRelease_chans (s : State) (m : OutMsg) : (s.offerRelease m).chans = s.chans := by
  obtain ⟨l, h⟩ := s.offerRelease_line m; rw [h]; rfl
@[simp] theorem offerCancel_told (s : State) (m : OutMsg) : (s.offerCancel m).told = s.told := by
  obtain ⟨l, h⟩ := s.offerCancel_line m; rw [h]; rfl
@[simp] theorem offerCancel_slots (s : State) (m : OutMsg) : (s.offerCancel m).slots = s.slots := by
  obtain ⟨l, h⟩ := s.offerCancel_line m; rw [h]; rfl
@[simp] theorem offerCancel_views (s : State) (m : OutMsg) : (s.offerCancel m).views = s.views := by
  obtain ⟨l, h⟩ := s.offerCancel_line m; rw [h]; rfl
@[simp] theorem offerCancel_chans (s : State) (m : OutMsg) : (s.offerCancel m).chans = s.chans := by
  obtain ⟨l, h⟩ := s.offerCancel_line m; rw [h]; rfl
@[simp] theorem armIfReady_told (s : State) (n : SlotId) : (s.armIfReady n).told = s.told := by
  unfold armIfReady; (repeat' split) <;> rfl
@[simp] theorem armIfReady_views (s : State) (n : SlotId) : (s.armIfReady n).views = s.views := by
  unfold armIfReady; (repeat' split) <;> rfl
@[simp] theorem armIfReady_chans (s : State) (n : SlotId) : (s.armIfReady n).chans = s.chans := by
  unfold armIfReady; (repeat' split) <;> rfl
@[simp] theorem rearm_told (s : State) (n : SlotId) : (s.rearm n).told = s.told := by
  unfold rearm; (repeat' split) <;> first | rfl | simp
@[simp] theorem rearm_views (s : State) (n : SlotId) : (s.rearm n).views = s.views := by
  unfold rearm; (repeat' split) <;> simp
@[simp] theorem rearm_chans (s : State) (n : SlotId) : (s.rearm n).chans = s.chans := by
  unfold rearm; (repeat' split) <;> simp
@[simp] theorem refreshEnd_told (s : State) (n : SlotId) : (s.refreshEnd n).told = s.told := by
  unfold refreshEnd; split <;> rfl
@[simp] theorem refreshEnd_views (s : State) (n : SlotId) : (s.refreshEnd n).views = s.views := by
  unfold refreshEnd; split <;> rfl
@[simp] theorem refreshEnd_chans (s : State) (n : SlotId) : (s.refreshEnd n).chans = s.chans := by
  unfold refreshEnd; split <;> rfl
@[simp] theorem refill_told (s : State) (n : SlotId) : (s.refill n).told = s.told := by
  unfold refill; split <;> rfl
@[simp] theorem refill_views (s : State) (n : SlotId) : (s.refill n).views = s.views := by
  unfold refill; split <;> rfl
@[simp] theorem refill_chans (s : State) (n : SlotId) : (s.refill n).chans = s.chans := by
  unfold refill; split <;> rfl
@[simp] theorem loseEvent_told (s : State) (n : SlotId) (c : Chan) (id : Nat) : (s.loseEvent n c id).told = s.told := by
  unfold loseEvent; dsimp only; split <;> simp
@[simp] theorem loseEvent_views (s : State) (n : SlotId) (c : Chan) (id : Nat) : (s.loseEvent n c id).views = s.views := by
  unfold loseEvent; dsimp only; split <;> simp
@[simp] theorem loseEvent_chans (s : State) (n : SlotId) (c : Chan) (id : Nat) : (s.loseEvent n c id).chans = s.chans := by
  unfold loseEvent; dsimp only; split <;> simp
@[simp] theorem afterWalk_told (s : State) (c : Chan) : (s.afterWalk c).told = s.told := by
  unfold afterWalk; dsimp only; (repeat' split) <;> simp
@[simp] theorem afterWalk_views (s : State) (c : Chan) : (s.afterWalk c).views = s.views := by
  unfold afterWalk; dsimp only; (repeat' split) <;> simp
@[simp] theorem afterWalk_chans (s : State) (c : Chan) : (s.afterWalk c).chans = s.chans := by
  unfold afterWalk; dsimp only; (repeat' split) <;> simp
@[simp] theorem freeRecs_told (s : State) (rs : List Rec) : (s.freeRecs rs).told = s.told := rfl
@[simp] theorem freeRecs_slots (s : State) (rs : List Rec) : (s.freeRecs rs).slots = s.slots := rfl
@[simp] theorem freeRecs_views (s : State) (rs : List Rec) : (s.freeRecs rs).views = s.views := rfl
@[simp] theorem freeRecs_chans (s : State) (rs : List Rec) : (s.freeRecs rs).chans = s.chans := rfl
@[simp] theorem imageTouched_told (s : State) (c : Chan) : (s.imageTouched c).told = s.told := by
  unfold imageTouched; (repeat' split) <;> rfl
@[simp] theorem imageTouched_slots (s : State) (c : Chan) : (s.imageTouched c).slots = s.slots := by
  unfold imageTouched; (repeat' split) <;> rfl
@[simp] theorem imageTouched_views (s : State) (c : Chan) : (s.imageTouched c).views = s.views := by
  unfold imageTouched; (repeat' split) <;> rfl
@[simp] theorem imageTouched_chans (s : State) (c : Chan) : (s.imageTouched c).chans = s.chans := by
  unfold imageTouched; (repeat' split) <;> rfl
@[simp] theorem answerNone_told (s : State) (dst : Addr) (chan : Byte) : (s.answerNone dst chan).told = s.told := by
  unfold answerNone; split <;> rfl
@[simp] theorem answerNone_slots (s : State) (dst : Addr) (chan : Byte) : (s.answerNone dst chan).slots = s.slots := by
  unfold answerNone; split <;> rfl
@[simp] theorem answerNone_views (s : State) (dst : Addr) (chan : Byte) : (s.answerNone dst chan).views = s.views := by
  unfold answerNone; split <;> rfl
@[simp] theorem answerNone_chans (s : State) (dst : Addr) (chan : Byte) : (s.answerNone dst chan).chans = s.chans := by
  unfold answerNone; split <;> rfl
@[simp] theorem dropService_told (s : State) (c : Chan) : (s.dropService c).told = s.told := by
  unfold dropService; dsimp only; (repeat' split) <;> simp
@[simp] theorem dropService_slots (s : State) (c : Chan) : (s.dropService c).slots = s.slots := by
  unfold dropService; dsimp only; (repeat' split) <;> simp
@[simp] theorem dropService_views (s : State) (c : Chan) : (s.dropService c).views = s.views := by
  unfold dropService; dsimp only; (repeat' split) <;> simp
@[simp] theorem dropService_chans (s : State) (c : Chan) : (s.dropService c).chans = s.chans := by
  unfold dropService; dsimp only; (repeat' split) <;> simp
@[simp] theorem trim_told (s : State) (c : Chan) : (s.trim c).told = s.told := by
  unfold trim; dsimp only; split <;> simp
@[simp] theorem trim_slots (s : State) (c : Chan) : (s.trim c).slots = s.slots := by
  unfold trim; dsimp only; split <;> simp
@[simp] theorem trim_views (s : State) (c : Chan) : (s.trim c).views = s.views := by
  unfold trim; dsimp only; split <;> simp
@[simp] theorem markPast_told (s : State) (c : Chan) : (s.markPast c).told = s.told := rfl
@[simp] theorem markPast_slots (s : State) (c : Chan) : (s.markPast c).slots = s.slots := rfl
@[simp] theorem markPast_views (s : State) (c : Chan) : (s.markPast c).views = s.views := rfl
@[simp] theorem walkOwn_told (s : State) (c : Chan) : (s.walkOwn c).told = s.told := by
  unfold walkOwn; dsimp only; split <;> simp
@[simp] theorem walkOwn_views (s : State) (c : Chan) : (s.walkOwn c).views = s.views := by
  unfold walkOwn; dsimp only; (repeat' split) <;> simp
@[simp] theorem walk_told (s : State) (c : Chan) : (s.walk c).told = s.told := by
  unfold walk; rw [foldl_keeps told (fun _ _ => by simp)]; simp
@[simp] theorem walk_views (s : State) (c : Chan) : (s.walk c).views = s.views := by
  unfold walk; rw [foldl_keeps views (fun _ _ => by simp)]; simp
@[simp] theorem writeAnchor_told (s : State) (c : Chan) (a : Anchor) : (s.writeAnchor c a).told = s.told := by simp [writeAnchor]
@[simp] theorem writeAnchor_views (s : State) (c : Chan) (a : Anchor) : (s.writeAnchor c a).views = s.views := by simp [writeAnchor]
@[simp] theorem removeAnchor_told (s : State) (c : Chan) : (s.removeAnchor c).told = s.told := by simp [removeAnchor]
@[simp] theorem removeAnchor_views (s : State) (c : Chan) : (s.removeAnchor c).views = s.views := by simp [removeAnchor]
@[simp] theorem dropLostAnchor_told (s : State) (c : Chan) : (s.dropLostAnchor c).told = s.told := rfl
@[simp] theorem dropLostAnchor_slots (s : State) (c : Chan) : (s.dropLostAnchor c).slots = s.slots := rfl
@[simp] theorem dropLostAnchor_views (s : State) (c : Chan) : (s.dropLostAnchor c).views = s.views := rfl
@[simp] theorem expireAnchor_told (s : State) (c : Chan) : (s.expireAnchor c).told = s.told := by
  unfold expireAnchor; split <;> simp
@[simp] theorem expireAnchor_views (s : State) (c : Chan) : (s.expireAnchor c).views = s.views := by
  unfold expireAnchor; split <;> simp
@[simp] theorem freeParked_told (s : State) (c : Chan) (p : Parked → Bool) : (s.freeParked c p).told = s.told := rfl
@[simp] theorem freeParked_slots (s : State) (c : Chan) (p : Parked → Bool) : (s.freeParked c p).slots = s.slots := rfl
@[simp] theorem freeParked_views (s : State) (c : Chan) (p : Parked → Bool) : (s.freeParked c p).views = s.views := rfl
@[simp] theorem freeParked_chans (s : State) (c : Chan) (p : Parked → Bool) : (s.freeParked c p).chans = s.chans := rfl
@[simp] theorem modRequest_told (s : State) (c : Chan) (f : ImageRequest → ImageRequest) : (s.modRequest c f).told = s.told := rfl
@[simp] theorem modRequest_slots (s : State) (c : Chan) (f : ImageRequest → ImageRequest) : (s.modRequest c f).slots = s.slots := rfl
@[simp] theorem modRequest_views (s : State) (c : Chan) (f : ImageRequest → ImageRequest) : (s.modRequest c f).views = s.views := rfl
@[simp] theorem putAsk_told (s : State) (c : Chan) : (s.putAsk c).told = s.told := by
  unfold putAsk; (repeat' split) <;> rfl
@[simp] theorem beforeAsk_told (s : State) (c : Chan) : (s.beforeAsk c).told = s.told := by
  unfold beforeAsk; split
  · exact forChans_keeps (P := fun t => t.told = s.told) (fun d t h => by split <;> simp [h]) _ (by simp)
  · rfl
@[simp] theorem askTarget_told (s : State) (c : Chan) : (s.askTarget c).told = s.told := by
  simp [askTarget]
@[simp] theorem putAsk_slots (s : State) (c : Chan) : (s.putAsk c).slots = s.slots := by
  unfold putAsk; (repeat' split) <;> rfl
@[simp] theorem beforeAsk_slots (s : State) (c : Chan) : (s.beforeAsk c).slots = s.slots := by
  unfold beforeAsk; split
  · exact forChans_keeps (P := fun t => t.slots = s.slots) (fun d t h => by split <;> simp [h]) _ (by simp)
  · rfl
@[simp] theorem askTarget_slots (s : State) (c : Chan) : (s.askTarget c).slots = s.slots := by
  simp [askTarget]
@[simp] theorem putAsk_views (s : State) (c : Chan) : (s.putAsk c).views = s.views := by
  unfold putAsk; (repeat' split) <;> rfl
@[simp] theorem beforeAsk_views (s : State) (c : Chan) : (s.beforeAsk c).views = s.views := by
  unfold beforeAsk; split
  · exact forChans_keeps (P := fun t => t.views = s.views) (fun d t h => by split <;> simp [h]) _ (by simp)
  · rfl
@[simp] theorem askTarget_views (s : State) (c : Chan) : (s.askTarget c).views = s.views := by
  simp [askTarget]
@[simp] theorem chooseTarget_told (s : State) (c : Chan) : (s.chooseTarget c).told = s.told := by
  unfold chooseTarget; (repeat' split) <;> simp
@[simp] theorem chooseTarget_slots (s : State) (c : Chan) : (s.chooseTarget c).slots = s.slots := by
  unfold chooseTarget; (repeat' split) <;> simp
@[simp] theorem chooseTarget_views (s : State) (c : Chan) : (s.chooseTarget c).views = s.views := by
  unfold chooseTarget; (repeat' split) <;> simp
@[simp] theorem newRound_told (s : State) (c : Chan) : (s.newRound c).told = s.told := by simp [newRound]
@[simp] theorem newRound_slots (s : State) (c : Chan) : (s.newRound c).slots = s.slots := by simp [newRound]
@[simp] theorem newRound_views (s : State) (c : Chan) : (s.newRound c).views = s.views := by simp [newRound]
@[simp] theorem beginRequest_told (s : State) (c : Chan) : (s.beginRequest c).told = s.told := by
  unfold beginRequest; split <;> simp
@[simp] theorem beginRequest_slots (s : State) (c : Chan) : (s.beginRequest c).slots = s.slots := by
  unfold beginRequest; split <;> simp
@[simp] theorem beginRequest_views (s : State) (c : Chan) : (s.beginRequest c).views = s.views := by
  unfold beginRequest; split <;> simp
@[simp] theorem roundAgain_told (s : State) (c : Chan) : (s.roundAgain c).told = s.told := by
  unfold roundAgain; split <;> simp
@[simp] theorem roundAgain_slots (s : State) (c : Chan) : (s.roundAgain c).slots = s.slots := by
  unfold roundAgain; split <;> simp
@[simp] theorem roundAgain_views (s : State) (c : Chan) : (s.roundAgain c).views = s.views := by
  unfold roundAgain; split <;> simp
@[simp] theorem freeShadow_told (s : State) (c : Chan) : (s.freeShadow c).told = s.told := by
  unfold freeShadow; split <;> rfl
@[simp] theorem freeShadow_slots (s : State) (c : Chan) : (s.freeShadow c).slots = s.slots := by
  unfold freeShadow; split <;> rfl
@[simp] theorem freeShadow_views (s : State) (c : Chan) : (s.freeShadow c).views = s.views := by
  unfold freeShadow; split <;> rfl
@[simp] theorem abandonLoad_told (s : State) (c : Chan) : (s.abandonLoad c).told = s.told := by
  unfold abandonLoad; split <;> simp
@[simp] theorem abandonLoad_slots (s : State) (c : Chan) : (s.abandonLoad c).slots = s.slots := by
  unfold abandonLoad; split <;> simp
@[simp] theorem abandonLoad_views (s : State) (c : Chan) : (s.abandonLoad c).views = s.views := by
  unfold abandonLoad; split <;> simp
@[simp] theorem setStale_told (s : State) (c : Chan) (cause : StaleCause) : (s.setStale c cause).told = s.told := by
  unfold setStale; dsimp only; (repeat' split) <;> simp
@[simp] theorem setStale_slots (s : State) (c : Chan) (cause : StaleCause) : (s.setStale c cause).slots = s.slots := by
  unfold setStale; dsimp only; (repeat' split) <;> simp
@[simp] theorem setStale_views (s : State) (c : Chan) (cause : StaleCause) : (s.setStale c cause).views = s.views := by
  unfold setStale; dsimp only; (repeat' split) <;> simp
@[simp] theorem makeStale_told (s : State) (c : Chan) (cause : StaleCause) : (s.makeStale c cause).told = s.told := by simp [makeStale]
@[simp] theorem makeStale_slots (s : State) (c : Chan) (cause : StaleCause) : (s.makeStale c cause).slots = s.slots := by simp [makeStale]
@[simp] theorem makeStale_views (s : State) (c : Chan) (cause : StaleCause) : (s.makeStale c cause).views = s.views := by simp [makeStale]
@[simp] theorem epochTouched_told (s : State) (c : Chan) (epoch : Nat) : (s.epochTouched c epoch).told = s.told := by
  unfold epochTouched; split <;> simp
@[simp] theorem epochTouched_slots (s : State) (c : Chan) (epoch : Nat) : (s.epochTouched c epoch).slots = s.slots := by
  unfold epochTouched; split <;> simp
@[simp] theorem epochTouched_views (s : State) (c : Chan) (epoch : Nat) : (s.epochTouched c epoch).views = s.views := by
  unfold epochTouched; split <;> simp
@[simp] theorem epochTouched_chans (s : State) (c : Chan) (epoch : Nat) : (s.epochTouched c epoch).chans = s.chans := by
  unfold epochTouched; split <;> simp
@[simp] theorem takeChanges_told (s : State) (c : Chan) (epoch : Nat) : (s.takeChanges c epoch).told = s.told := by
  unfold takeChanges; dsimp only; split <;> simp
@[simp] theorem takeChanges_slots (s : State) (c : Chan) (epoch : Nat) : (s.takeChanges c epoch).slots = s.slots := by
  unfold takeChanges; dsimp only; split <;> simp
@[simp] theorem takeChanges_views (s : State) (c : Chan) (epoch : Nat) : (s.takeChanges c epoch).views = s.views := by
  unfold takeChanges; dsimp only; split <;> simp
@[simp] theorem mainReturns_told (s : State) (c : Chan) (epoch : Option Nat) : (s.mainReturns c epoch).told = s.told := by simp [mainReturns]
@[simp] theorem mainReturns_slots (s : State) (c : Chan) (epoch : Option Nat) : (s.mainReturns c epoch).slots = s.slots := by simp [mainReturns]
@[simp] theorem mainReturns_views (s : State) (c : Chan) (epoch : Option Nat) : (s.mainReturns c epoch).views = s.views := by simp [mainReturns]
@[simp] theorem authorityTest_told (s : State) (c : Chan) : (s.authorityTest c).told = s.told := by
  unfold authorityTest; (repeat' split) <;> simp
@[simp] theorem authorityTest_slots (s : State) (c : Chan) : (s.authorityTest c).slots = s.slots := by
  unfold authorityTest; (repeat' split) <;> simp
@[simp] theorem authorityTest_views (s : State) (c : Chan) : (s.authorityTest c).views = s.views := by
  unfold authorityTest; (repeat' split) <;> simp
@[simp] theorem settleHealth_told (s : State) (c : Chan) (start : Health) : (s.settleHealth c start).told = s.told := rfl
@[simp] theorem settleHealth_slots (s : State) (c : Chan) (start : Health) : (s.settleHealth c start).slots = s.slots := rfl
@[simp] theorem settleHealth_views (s : State) (c : Chan) (start : Health) : (s.settleHealth c start).views = s.views := rfl
@[simp] theorem settleHealth_chans (s : State) (c : Chan) (start : Health) : (s.settleHealth c start).chans = s.chans := rfl
@[simp] theorem evaluate_told (s : State) (c : Chan) : (s.evaluate c).told = s.told := by
  unfold evaluate; dsimp only; (repeat' split) <;> simp
@[simp] theorem evaluate_slots (s : State) (c : Chan) : (s.evaluate c).slots = s.slots := by
  unfold evaluate; dsimp only; (repeat' split) <;> simp
@[simp] theorem evaluate_views (s : State) (c : Chan) : (s.evaluate c).views = s.views := by
  unfold evaluate; dsimp only; (repeat' split) <;> simp
@[simp] theorem restartHealth_told (s : State) (c : Chan) : (s.restartHealth c).told = s.told := rfl
@[simp] theorem restartHealth_slots (s : State) (c : Chan) : (s.restartHealth c).slots = s.slots := rfl
@[simp] theorem restartHealth_views (s : State) (c : Chan) : (s.restartHealth c).views = s.views := rfl
@[simp] theorem restartHealth_chans (s : State) (c : Chan) : (s.restartHealth c).chans = s.chans := rfl
@[simp] theorem updateLink_told (s : State) : s.updateLink.told = s.told := rfl
@[simp] theorem updateLink_slots (s : State) : s.updateLink.slots = s.slots := rfl
@[simp] theorem updateLink_views (s : State) : s.updateLink.views = s.views := rfl
@[simp] theorem updateLink_chans (s : State) : s.updateLink.chans = s.chans := rfl
@[simp] theorem updatePicture_told (s : State) (c : Chan) : (s.updatePicture c).told = s.told := rfl
@[simp] theorem updatePicture_slots (s : State) (c : Chan) : (s.updatePicture c).slots = s.slots := rfl
@[simp] theorem updatePicture_views (s : State) (c : Chan) : (s.updatePicture c).views = s.views := rfl
@[simp] theorem updatePicture_chans (s : State) (c : Chan) : (s.updatePicture c).chans = s.chans := rfl
@[simp] theorem updateBeatLost_told (s : State) (c : Chan) : (s.updateBeatLost c).told = s.told := rfl
@[simp] theorem updateBeatLost_slots (s : State) (c : Chan) : (s.updateBeatLost c).slots = s.slots := rfl
@[simp] theorem updateBeatLost_views (s : State) (c : Chan) : (s.updateBeatLost c).views = s.views := rfl
@[simp] theorem updateBeatLost_chans (s : State) (c : Chan) : (s.updateBeatLost c).chans = s.chans := rfl
@[simp] theorem verdictEnters_told (s : State) (c : Chan) (a : Addr) (v : Verdict) : (s.verdictEnters c a v).told = s.told := rfl
@[simp] theorem verdictEnters_slots (s : State) (c : Chan) (a : Addr) (v : Verdict) : (s.verdictEnters c a v).slots = s.slots := rfl
@[simp] theorem verdictEnters_views (s : State) (c : Chan) (a : Addr) (v : Verdict) : (s.verdictEnters c a v).views = s.views := rfl
@[simp] theorem verdictEnters_chans (s : State) (c : Chan) (a : Addr) (v : Verdict) : (s.verdictEnters c a v).chans = s.chans := rfl
@[simp] theorem clearOrphan_told (s : State) (c : Chan) : (s.clearOrphan c).told = s.told := rfl
@[simp] theorem clearOrphan_slots (s : State) (c : Chan) : (s.clearOrphan c).slots = s.slots := rfl
@[simp] theorem clearOrphan_chans (s : State) (c : Chan) : (s.clearOrphan c).chans = s.chans := rfl
@[simp] theorem dropHolder_told (s : State) (c : Chan) : (s.dropHolder c).told = s.told := rfl
@[simp] theorem dropHolder_slots (s : State) (c : Chan) : (s.dropHolder c).slots = s.slots := rfl
@[simp] theorem dropHolder_chans (s : State) (c : Chan) : (s.dropHolder c).chans = s.chans := rfl
@[simp] theorem clearHolder_told (s : State) (c : Chan) : (s.clearHolder c).told = s.told := by simp [clearHolder]
@[simp] theorem clearHolder_slots (s : State) (c : Chan) : (s.clearHolder c).slots = s.slots := by simp [clearHolder]
@[simp] theorem orphanHolder_told (s : State) (c : Chan) (a : Addr) : (s.orphanHolder c a).told = s.told := by simp [orphanHolder]
@[simp] theorem orphanHolder_slots (s : State) (c : Chan) (a : Addr) : (s.orphanHolder c a).slots = s.slots := by simp [orphanHolder]
@[simp] theorem setHolder_told (s : State) (c : Chan) (a : Addr) (epoch : Nat) (claim : Option Claim) : (s.setHolder c a epoch claim).told = s.told := by simp [setHolder]
@[simp] theorem setHolder_slots (s : State) (c : Chan) (a : Addr) (epoch : Nat) (claim : Option Claim) : (s.setHolder c a epoch claim).slots = s.slots := by simp [setHolder]
@[simp] theorem acceptTake_told (s : State) (c : Chan) (a : Addr) (epoch : Nat) (claim : Option Claim) : (s.acceptTake c a epoch claim).told = s.told := by
  unfold acceptTake; dsimp only; split <;> simp
@[simp] theorem acceptTake_slots (s : State) (c : Chan) (a : Addr) (epoch : Nat) (claim : Option Claim) : (s.acceptTake c a epoch claim).slots = s.slots := by
  unfold acceptTake; dsimp only; split <;> simp
@[simp] theorem startClaim_told (s : State) (c : Chan) (forced : Bool) : (s.startClaim c forced).told = s.told := by
  unfold startClaim; split <;> simp
@[simp] theorem startClaim_chans (s : State) (c : Chan) (forced : Bool) : (s.startClaim c forced).chans = s.chans := by
  unfold startClaim; split <;> rfl
@[simp] theorem freeReserved_told (s : State) (c : Chan) : (s.freeReserved c).told = s.told := by
  unfold freeReserved; split <;> rfl
@[simp] theorem freeReserved_views (s : State) (c : Chan) : (s.freeReserved c).views = s.views := by
  unfold freeReserved; split <;> rfl
@[simp] theorem freeReserved_chans (s : State) (c : Chan) : (s.freeReserved c).chans = s.chans := by
  unfold freeReserved; split <;> rfl
@[simp] theorem endClaim_told (s : State) (c : Chan) (after : Contest) (rival : Option Rival) : (s.endClaim c after rival).told = s.told := by simp [endClaim]
@[simp] theorem endClaim_chans (s : State) (c : Chan) (after : Contest) (rival : Option Rival) : (s.endClaim c after rival).chans = s.chans := by simp [endClaim]
@[simp] theorem beforeClaim_told (s : State) : s.beforeClaim.told = s.told := by
  unfold beforeClaim; split <;> simp
@[simp] theorem beforeClaim_slots (s : State) : s.beforeClaim.slots = s.slots := by
  unfold beforeClaim; split <;> simp
@[simp] theorem beforeClaim_views (s : State) : s.beforeClaim.views = s.views := by
  unfold beforeClaim; split <;> simp
@[simp] theorem beforeClaim_chans (s : State) : s.beforeClaim.chans = s.chans := by
  unfold beforeClaim; split <;> simp
@[simp] theorem runLatch_told (s : State) : s.runLatch.told = s.told := by
  unfold runLatch; dsimp only; (repeat' split) <;> simp
@[simp] theorem runLatch_chans (s : State) : s.runLatch.chans = s.chans := by
  unfold runLatch; dsimp only; (repeat' split) <;> simp
@[simp] theorem look_told (s : State) : s.look.told = s.told := by
  unfold look; dsimp only; (repeat' split) <;> simp
@[simp] theorem look_chans (s : State) : s.look.chans = s.chans := by
  unfold look; dsimp only; (repeat' split) <;> simp
@[simp] theorem review_told (s : State) : s.review.told = s.told := by
  unfold review; (repeat' split) <;> simp
@[simp] theorem review_chans (s : State) : s.review.chans = s.chans := by
  unfold review; (repeat' split) <;> first | rfl | simp
@[simp] theorem recordDuplicate_told (s : State) (c : Chan) (d : Duplicate) : (s.recordDuplicate c d).told = s.told := rfl
@[simp] theorem recordDuplicate_slots (s : State) (c : Chan) (d : Duplicate) : (s.recordDuplicate c d).slots = s.slots := rfl
@[simp] theorem recordDuplicate_chans (s : State) (c : Chan) (d : Duplicate) : (s.recordDuplicate c d).chans = s.chans := rfl
@[simp] theorem contestOnTake_told (s : State) (c : Chan) (accepted : Bool) (rival : Rival) : (s.contestOnTake c accepted rival).told = s.told := by
  unfold contestOnTake; (repeat' split) <;> simp
@[simp] theorem contestOnTake_chans (s : State) (c : Chan) (accepted : Bool) (rival : Rival) : (s.contestOnTake c accepted rival).chans = s.chans := by
  unfold contestOnTake; (repeat' split) <;> first | rfl | simp
@[simp] theorem offerTake_told (s : State) : s.offerTake.told = s.told := by
  unfold offerTake; dsimp only; (repeat' split) <;> simp
@[simp] theorem offerTake_slots (s : State) : s.offerTake.slots = s.slots := by
  unfold offerTake; dsimp only; (repeat' split) <;> simp
@[simp] theorem offerTake_chans (s : State) : s.offerTake.chans = s.chans := by
  unfold offerTake; dsimp only; (repeat' split) <;> simp
@[simp] theorem startWatch_told (s : State) (n : SlotId) : (s.startWatch n).told = s.told := rfl
@[simp] theorem startWatch_views (s : State) (n : SlotId) : (s.startWatch n).views = s.views := rfl
@[simp] theorem startWatch_chans (s : State) (n : SlotId) : (s.startWatch n).chans = s.chans := rfl
@[simp] theorem leaveFallback_told (s : State) (n : SlotId) (src : Source) : (s.leaveFallback n src).told = s.told := by
  unfold leaveFallback; split <;> rfl
@[simp] theorem leaveFallback_views (s : State) (n : SlotId) (src : Source) : (s.leaveFallback n src).views = s.views := by
  unfold leaveFallback; split <;> rfl
@[simp] theorem leaveFallback_chans (s : State) (n : SlotId) (src : Source) : (s.leaveFallback n src).chans = s.chans := by
  unfold leaveFallback; split <;> rfl
@[simp] theorem takeCue_told (s : State) (n : SlotId) (cue : Cue) : (s.takeCue n cue).told = s.told := by
  unfold takeCue; split <;> rfl
@[simp] theorem takeCue_views (s : State) (n : SlotId) (cue : Cue) : (s.takeCue n cue).views = s.views := by
  unfold takeCue; split <;> rfl
@[simp] theorem takeCue_chans (s : State) (n : SlotId) (cue : Cue) : (s.takeCue n cue).chans = s.chans := by
  unfold takeCue; split <;> rfl
@[simp] theorem maskChanged_told (s : State) (c : Chan) : (s.maskChanged c).told = s.told := rfl
@[simp] theorem maskChanged_slots (s : State) (c : Chan) : (s.maskChanged c).slots = s.slots := rfl
@[simp] theorem maskChanged_views (s : State) (c : Chan) : (s.maskChanged c).views = s.views := rfl
@[simp] theorem maskChanged_chans (s : State) (c : Chan) : (s.maskChanged c).chans = s.chans := rfl
@[simp] theorem putProfile_told (s : State) (c : Chan) (p : Profile) : (s.putProfile c p).told = s.told := by
  unfold putProfile; split <;> rfl
@[simp] theorem putProfile_slots (s : State) (c : Chan) (p : Profile) : (s.putProfile c p).slots = s.slots := by
  unfold putProfile; split <;> rfl
@[simp] theorem putProfile_views (s : State) (c : Chan) (p : Profile) : (s.putProfile c p).views = s.views := by
  unfold putProfile; split <;> rfl
@[simp] theorem advanceSeq_told (s : State) (c : Chan) : (s.advanceSeq c).told = s.told := by
  unfold advanceSeq; split <;> simp
@[simp] theorem advanceSeq_slots (s : State) (c : Chan) : (s.advanceSeq c).slots = s.slots := by
  unfold advanceSeq; split <;> simp
@[simp] theorem advanceSeq_views (s : State) (c : Chan) : (s.advanceSeq c).views = s.views := by
  unfold advanceSeq; split <;> simp
@[simp] theorem park_told (s : State) (c : Chan) (src : Addr) (epoch seq : Nat) (op : Byte) (operands : List Byte) : (s.park c src epoch seq op operands).told = s.told := by
  unfold park; split <;> rfl
@[simp] theorem park_slots (s : State) (c : Chan) (src : Addr) (epoch seq : Nat) (op : Byte) (operands : List Byte) : (s.park c src epoch seq op operands).slots = s.slots := by
  unfold park; split <;> rfl
@[simp] theorem park_views (s : State) (c : Chan) (src : Addr) (epoch seq : Nat) (op : Byte) (operands : List Byte) : (s.park c src epoch seq op operands).views = s.views := by
  unfold park; split <;> rfl
@[simp] theorem park_chans (s : State) (c : Chan) (src : Addr) (epoch seq : Nat) (op : Byte) (operands : List Byte) : (s.park c src epoch seq op operands).chans = s.chans := by
  unfold park; split <;> rfl
@[simp] theorem clearCourtesy_told (s : State) (k : Cls) : (s.clearCourtesy k).told = s.told := rfl
@[simp] theorem clearCourtesy_slots (s : State) (k : Cls) : (s.clearCourtesy k).slots = s.slots := rfl
@[simp] theorem clearCourtesy_views (s : State) (k : Cls) : (s.clearCourtesy k).views = s.views := rfl
@[simp] theorem clearCourtesy_chans (s : State) (k : Cls) : (s.clearCourtesy k).chans = s.chans := rfl
@[simp] theorem setCourtesy_told (s : State) (k : Cls) : (s.setCourtesy k).told = s.told := rfl
@[simp] theorem setCourtesy_slots (s : State) (k : Cls) : (s.setCourtesy k).slots = s.slots := rfl
@[simp] theorem setCourtesy_views (s : State) (k : Cls) : (s.setCourtesy k).views = s.views := rfl
@[simp] theorem setCourtesy_chans (s : State) (k : Cls) : (s.setCourtesy k).chans = s.chans := rfl
@[simp] theorem leaveHead_told (s : State) : s.leaveHead.told = s.told := by
  unfold leaveHead; split <;> rfl
@[simp] theorem leaveHead_slots (s : State) : s.leaveHead.slots = s.slots := by
  unfold leaveHead; split <;> rfl
@[simp] theorem leaveHead_views (s : State) : s.leaveHead.views = s.views := by
  unfold leaveHead; split <;> rfl
@[simp] theorem leaveHead_chans (s : State) : s.leaveHead.chans = s.chans := by
  unfold leaveHead; split <;> rfl
@[simp] theorem frameStore_told (s : State) (c : Chan) : (s.frameStore c).told = s.told := by
  unfold frameStore; dsimp only; (repeat' split) <;> try simp
  rw [foldl_keeps told fun t f => walkOwn_told t f]; simp
@[simp] theorem frameStore_views (s : State) (c : Chan) : (s.frameStore c).views = s.views := by
  unfold frameStore; dsimp only; (repeat' split) <;> try simp
  rw [foldl_keeps views fun t f => walkOwn_views t f]; simp
@[simp] theorem hear_told (s : State) (a : Addr) : (s.hear a).told = s.told := by
  unfold hear; dsimp only; split
  · rfl
  · exact forChans_keeps (P := fun t => t.told = s.told) (fun c t h => by split <;> simp [h]) _ rfl
@[simp] theorem hear_slots (s : State) (a : Addr) : (s.hear a).slots = s.slots := by
  unfold hear; dsimp only; split
  · rfl
  · exact forChans_keeps (P := fun t => t.slots = s.slots) (fun c t h => by split <;> simp [h]) _ rfl

end State

end Sys2Proof.Machine
end

