-- ==== Sys2Proof/WellFormed.lean ====
section
/-! DEFINITION. Which commands the environment can give: the operands in the ranges the manual gives them. -/

namespace Sys2Proof

/-- The cells of a delivery are bytes, the probes are four (R85, R86). -/
def gridFormed (probe : Nat) (cells : List Byte) : Bool := decide (probe < 4) && decide (cells.length = 144)

/-- The configuration memory holds one block of 30 bytes, or does not answer (R200, R201). -/
def blockFormed (block : Option (List Byte)) : Bool := block.elim true fun bs => decide (bs.length = 30)

/-- A command the environment can give. The meanings are total: a command that is not well formed has the effect the
manual gives to what does not belong (a discard, a default, nothing). -/
def Instr.wf : Instr → Bool
  | .configReadComplete _ block => blockFormed block
  | .gridDelivery probe _ cells => gridFormed probe cells
  | .relaySilent a => decide (17 ≤ a) && decide (a ≤ 20)
  | .peerSilent a => decide (1 ≤ a) && decide (a ≤ 16)
  | .fullReset | .framePulse _ | .flywheelEntry _ | .substituteFrameEvent _ | .timemarkReceived _
  | .timeMarkJudgement | .beatAnchorExpiry _ | .airbeatReceived _ | .relaystateReceived _ | .editReceived _
  | .parkedEditTimeout _ | .imagereqOfferRetry _ | .imagereqEcho | .imageTargetTimeout _ | .imageRoundRestart _
  | .imageSegmentReceived _ | .imageLoadTimeout _ | .imagereqReceived _ | .imageSegmentQueued | .imageEcho
  | .beatLost _ | .verdictReceived _ | .verdictSourceStale _ | .probeSilent _ | .verdictRepeat _
  | .verdictOfferRetry _ | .beaconOffered | .beaconOfferRetry | .beaconReceived _ | .claimEcho | .claimHeard _
  | .claimWindowExpiry | .takeOfferRetry | .takeHeard _ | .takeEcho | .deadWinnerExclusion _ | .exclusionExpiry _
  | .pendingForceLatchRun | .ineligibleExpiry _ | .joinCueIssue _ | .joinCueFire _ | .linePulseEnd _ | .lockPoint _
  | .cueFire _ | .armNextCue _ | .restartPlay _ | .serverFaultAction _ | .scheduleRunOut _ | .confirmWindowExpiry _
  | .fallbackTimeout _ | .secondaryOccurrence _ | .tallyRise _ | .tallyFall _ | .slotRelease _ | .releaseOutboxOffer
  | .releaseEcho | .releaseHeard _ | .handbackCommitCheck _ | .handbackBoundary _ | .handoverCancelOffer
  | .handoverEcho | .handoverHeard _ | .lineIdle | .ladderWaitExpiry | .messageEcho | .echoFailed
  | .messageDiscarded _ | .queryStation _ | .queryChannel _ | .queryList _ | .queryAsrun _ | .forceTake _
  | .forceRelease _ | .inhibit _ | .nextCmd _ | .handback _ | .editRequest _ | .restart _ | .badCommand _
  | .releasePhaseEnd | .releasePhaseTimeout | .listeningCountExpiry | .lineGoesBusy | .resetReleased => true

end Sys2Proof
end

