-- ==== Sys2Proof/Laws/PerInstr.lean ====
section
/-! SUPPORT. The well-formedness of the commands, one lemma per constructor: which operands of which commands have a
range, and which. -/

namespace Sys2Proof.Laws.Formed

/-- A command is well formed exactly when the operands that have a range lie in it: a configuration block of 30 bytes,
a probe of the four with 144 cells, a relay's address, a station's address. -/
def Statement (i : Instr) : Prop :=
  i.wf = true ↔
    (∀ straps bs, i = .configReadComplete straps (some bs) → bs.length = 30) ∧
    (∀ probe lock cells, i = .gridDelivery probe lock cells → probe < 4 ∧ cells.length = 144) ∧
    (∀ a, i = .relaySilent a → 17 ≤ a ∧ a ≤ 20) ∧
    (∀ a, i = .peerSilent a → 1 ≤ a ∧ a ≤ 16)

/-- A command without such an operand is well formed. -/
theorem unranged {i : Instr} (h : i.wf = true) (h1 : ∀ straps bs, i ≠ .configReadComplete straps (some bs))
    (h2 : ∀ probe lock cells, i ≠ .gridDelivery probe lock cells) (h3 : ∀ a, i ≠ .relaySilent a)
    (h4 : ∀ a, i ≠ .peerSilent a) : Statement i :=
  ⟨fun _ => ⟨fun s b e => (h1 s b e).elim, fun p l c e => (h2 p l c e).elim, fun a e => (h3 a e).elim,
    fun a e => (h4 a e).elim⟩, fun _ => h⟩

theorem fullReset : Statement .fullReset :=
  unranged rfl nofun nofun nofun nofun

theorem configReadComplete (straps : BitVec 5) (block : Option (List Byte)) : Statement (.configReadComplete straps block) :=
  match block with
  | none => unranged rfl nofun nofun nofun nofun
  | some _ =>
    ⟨fun h => ⟨fun _ _ e => by cases e; exact of_decide_eq_true h, nofun, nofun,
      nofun⟩, fun h => decide_eq_true (h.1 _ _ rfl)⟩

theorem framePulse (dt : Nat) : Statement (.framePulse dt) :=
  unranged rfl nofun nofun nofun nofun
theorem flywheelEntry (dt : Nat) : Statement (.flywheelEntry dt) :=
  unranged rfl nofun nofun nofun nofun
theorem substituteFrameEvent (dt : Nat) : Statement (.substituteFrameEvent dt) :=
  unranged rfl nofun nofun nofun nofun
theorem timemarkReceived (rx : Reception) : Statement (.timemarkReceived rx) :=
  unranged rfl nofun nofun nofun nofun
theorem timeMarkJudgement : Statement .timeMarkJudgement :=
  unranged rfl nofun nofun nofun nofun
theorem beatAnchorExpiry (c : Chan) : Statement (.beatAnchorExpiry c) :=
  unranged rfl nofun nofun nofun nofun
theorem airbeatReceived (rx : Reception) : Statement (.airbeatReceived rx) :=
  unranged rfl nofun nofun nofun nofun
theorem relaystateReceived (rx : Reception) : Statement (.relaystateReceived rx) :=
  unranged rfl nofun nofun nofun nofun
theorem editReceived (rx : Reception) : Statement (.editReceived rx) :=
  unranged rfl nofun nofun nofun nofun
theorem parkedEditTimeout (c : Chan) : Statement (.parkedEditTimeout c) :=
  unranged rfl nofun nofun nofun nofun
theorem imagereqOfferRetry (c : Chan) : Statement (.imagereqOfferRetry c) :=
  unranged rfl nofun nofun nofun nofun
theorem imagereqEcho : Statement .imagereqEcho :=
  unranged rfl nofun nofun nofun nofun
theorem imageTargetTimeout (c : Chan) : Statement (.imageTargetTimeout c) :=
  unranged rfl nofun nofun nofun nofun
theorem imageRoundRestart (c : Chan) : Statement (.imageRoundRestart c) :=
  unranged rfl nofun nofun nofun nofun
theorem imageSegmentReceived (rx : Reception) : Statement (.imageSegmentReceived rx) :=
  unranged rfl nofun nofun nofun nofun
theorem imageLoadTimeout (c : Chan) : Statement (.imageLoadTimeout c) :=
  unranged rfl nofun nofun nofun nofun
theorem imagereqReceived (rx : Reception) : Statement (.imagereqReceived rx) :=
  unranged rfl nofun nofun nofun nofun
theorem imageSegmentQueued : Statement .imageSegmentQueued :=
  unranged rfl nofun nofun nofun nofun
theorem imageEcho : Statement .imageEcho :=
  unranged rfl nofun nofun nofun nofun
theorem beatLost (c : Chan) : Statement (.beatLost c) :=
  unranged rfl nofun nofun nofun nofun

theorem relaySilent (a : Addr) : Statement (.relaySilent a) :=
  ⟨fun h => ⟨nofun, nofun, fun _ e => by
      cases e
      exact ⟨of_decide_eq_true (Bool.and_eq_true_iff.mp h).1, of_decide_eq_true (Bool.and_eq_true_iff.mp h).2⟩,
    nofun⟩,
   fun h => Bool.and_eq_true_iff.mpr ⟨decide_eq_true (h.2.2.1 _ rfl).1, decide_eq_true (h.2.2.1 _ rfl).2⟩⟩

theorem verdictReceived (rx : Reception) : Statement (.verdictReceived rx) :=
  unranged rfl nofun nofun nofun nofun
theorem verdictSourceStale (c : Chan) : Statement (.verdictSourceStale c) :=
  unranged rfl nofun nofun nofun nofun

theorem gridDelivery (probe : Nat) (lock : Bool) (cells : List Byte) : Statement (.gridDelivery probe lock cells) :=
  ⟨fun h => ⟨nofun, fun _ _ _ e => by
      cases e
      exact ⟨of_decide_eq_true (Bool.and_eq_true_iff.mp h).1, of_decide_eq_true (Bool.and_eq_true_iff.mp h).2⟩,
    nofun, nofun⟩,
   fun h => Bool.and_eq_true_iff.mpr ⟨decide_eq_true (h.2.1 _ _ _ rfl).1, decide_eq_true (h.2.1 _ _ _ rfl).2⟩⟩

theorem probeSilent (p : ProbeId) : Statement (.probeSilent p) :=
  unranged rfl nofun nofun nofun nofun
theorem verdictRepeat (p : ProbeId) : Statement (.verdictRepeat p) :=
  unranged rfl nofun nofun nofun nofun
theorem verdictOfferRetry (p : ProbeId) : Statement (.verdictOfferRetry p) :=
  unranged rfl nofun nofun nofun nofun
theorem beaconOffered : Statement .beaconOffered :=
  unranged rfl nofun nofun nofun nofun
theorem beaconOfferRetry : Statement .beaconOfferRetry :=
  unranged rfl nofun nofun nofun nofun
theorem beaconReceived (rx : Reception) : Statement (.beaconReceived rx) :=
  unranged rfl nofun nofun nofun nofun

theorem peerSilent (a : Addr) : Statement (.peerSilent a) :=
  ⟨fun h => ⟨nofun, nofun, nofun, fun _ e => by
      cases e
      exact ⟨of_decide_eq_true (Bool.and_eq_true_iff.mp h).1, of_decide_eq_true (Bool.and_eq_true_iff.mp h).2⟩⟩,
   fun h => Bool.and_eq_true_iff.mpr ⟨decide_eq_true (h.2.2.2 _ rfl).1, decide_eq_true (h.2.2.2 _ rfl).2⟩⟩

theorem claimEcho : Statement .claimEcho :=
  unranged rfl nofun nofun nofun nofun
theorem claimHeard (rx : Reception) : Statement (.claimHeard rx) :=
  unranged rfl nofun nofun nofun nofun
theorem claimWindowExpiry : Statement .claimWindowExpiry :=
  unranged rfl nofun nofun nofun nofun
theorem takeOfferRetry : Statement .takeOfferRetry :=
  unranged rfl nofun nofun nofun nofun
theorem takeHeard (rx : Reception) : Statement (.takeHeard rx) :=
  unranged rfl nofun nofun nofun nofun
theorem takeEcho : Statement .takeEcho :=
  unranged rfl nofun nofun nofun nofun
theorem deadWinnerExclusion (c : Chan) : Statement (.deadWinnerExclusion c) :=
  unranged rfl nofun nofun nofun nofun
theorem exclusionExpiry (c : Chan) : Statement (.exclusionExpiry c) :=
  unranged rfl nofun nofun nofun nofun
theorem pendingForceLatchRun : Statement .pendingForceLatchRun :=
  unranged rfl nofun nofun nofun nofun
theorem ineligibleExpiry (c : Chan) : Statement (.ineligibleExpiry c) :=
  unranged rfl nofun nofun nofun nofun
theorem joinCueIssue (n : SlotId) : Statement (.joinCueIssue n) :=
  unranged rfl nofun nofun nofun nofun
theorem joinCueFire (n : SlotId) : Statement (.joinCueFire n) :=
  unranged rfl nofun nofun nofun nofun
theorem linePulseEnd (n : SlotId) : Statement (.linePulseEnd n) :=
  unranged rfl nofun nofun nofun nofun
theorem lockPoint (n : SlotId) : Statement (.lockPoint n) :=
  unranged rfl nofun nofun nofun nofun
theorem cueFire (n : SlotId) : Statement (.cueFire n) :=
  unranged rfl nofun nofun nofun nofun
theorem armNextCue (n : SlotId) : Statement (.armNextCue n) :=
  unranged rfl nofun nofun nofun nofun
theorem restartPlay (n : SlotId) : Statement (.restartPlay n) :=
  unranged rfl nofun nofun nofun nofun
theorem serverFaultAction (n : SlotId) : Statement (.serverFaultAction n) :=
  unranged rfl nofun nofun nofun nofun
theorem scheduleRunOut (n : SlotId) : Statement (.scheduleRunOut n) :=
  unranged rfl nofun nofun nofun nofun
theorem confirmWindowExpiry (n : SlotId) : Statement (.confirmWindowExpiry n) :=
  unranged rfl nofun nofun nofun nofun
theorem fallbackTimeout (n : SlotId) : Statement (.fallbackTimeout n) :=
  unranged rfl nofun nofun nofun nofun
theorem secondaryOccurrence (n : SlotId) : Statement (.secondaryOccurrence n) :=
  unranged rfl nofun nofun nofun nofun
theorem tallyRise (n : SlotId) : Statement (.tallyRise n) :=
  unranged rfl nofun nofun nofun nofun
theorem tallyFall (n : SlotId) : Statement (.tallyFall n) :=
  unranged rfl nofun nofun nofun nofun
theorem slotRelease (n : SlotId) : Statement (.slotRelease n) :=
  unranged rfl nofun nofun nofun nofun
theorem releaseOutboxOffer : Statement .releaseOutboxOffer :=
  unranged rfl nofun nofun nofun nofun
theorem releaseEcho : Statement .releaseEcho :=
  unranged rfl nofun nofun nofun nofun
theorem releaseHeard (rx : Reception) : Statement (.releaseHeard rx) :=
  unranged rfl nofun nofun nofun nofun
theorem handbackCommitCheck (n : SlotId) : Statement (.handbackCommitCheck n) :=
  unranged rfl nofun nofun nofun nofun
theorem handbackBoundary (n : SlotId) : Statement (.handbackBoundary n) :=
  unranged rfl nofun nofun nofun nofun
theorem handoverCancelOffer : Statement .handoverCancelOffer :=
  unranged rfl nofun nofun nofun nofun
theorem handoverEcho : Statement .handoverEcho :=
  unranged rfl nofun nofun nofun nofun
theorem handoverHeard (rx : Reception) : Statement (.handoverHeard rx) :=
  unranged rfl nofun nofun nofun nofun
theorem lineIdle : Statement .lineIdle :=
  unranged rfl nofun nofun nofun nofun
theorem ladderWaitExpiry : Statement .ladderWaitExpiry :=
  unranged rfl nofun nofun nofun nofun
theorem messageEcho : Statement .messageEcho :=
  unranged rfl nofun nofun nofun nofun
theorem echoFailed : Statement .echoFailed :=
  unranged rfl nofun nofun nofun nofun
theorem messageDiscarded (rx : Reception) : Statement (.messageDiscarded rx) :=
  unranged rfl nofun nofun nofun nofun
theorem queryStation (rx : Reception) : Statement (.queryStation rx) :=
  unranged rfl nofun nofun nofun nofun
theorem queryChannel (rx : Reception) : Statement (.queryChannel rx) :=
  unranged rfl nofun nofun nofun nofun
theorem queryList (rx : Reception) : Statement (.queryList rx) :=
  unranged rfl nofun nofun nofun nofun
theorem queryAsrun (rx : Reception) : Statement (.queryAsrun rx) :=
  unranged rfl nofun nofun nofun nofun
theorem forceTake (rx : Reception) : Statement (.forceTake rx) :=
  unranged rfl nofun nofun nofun nofun
theorem forceRelease (rx : Reception) : Statement (.forceRelease rx) :=
  unranged rfl nofun nofun nofun nofun
theorem inhibit (rx : Reception) : Statement (.inhibit rx) :=
  unranged rfl nofun nofun nofun nofun
theorem nextCmd (rx : Reception) : Statement (.nextCmd rx) :=
  unranged rfl nofun nofun nofun nofun
theorem handback (rx : Reception) : Statement (.handback rx) :=
  unranged rfl nofun nofun nofun nofun
theorem editRequest (rx : Reception) : Statement (.editRequest rx) :=
  unranged rfl nofun nofun nofun nofun
theorem restart (rx : Reception) : Statement (.restart rx) :=
  unranged rfl nofun nofun nofun nofun
theorem badCommand (rx : Reception) : Statement (.badCommand rx) :=
  unranged rfl nofun nofun nofun nofun
theorem releasePhaseEnd : Statement .releasePhaseEnd :=
  unranged rfl nofun nofun nofun nofun
theorem releasePhaseTimeout : Statement .releasePhaseTimeout :=
  unranged rfl nofun nofun nofun nofun
theorem listeningCountExpiry : Statement .listeningCountExpiry :=
  unranged rfl nofun nofun nofun nofun
theorem lineGoesBusy : Statement .lineGoesBusy :=
  unranged rfl nofun nofun nofun nofun
theorem resetReleased : Statement .resetReleased :=
  unranged rfl nofun nofun nofun nofun

end Sys2Proof.Laws.Formed
end

