-- ==== Sys2Proof/Laws/Rows.lean ====
section
/-! SUPPORT. The shapes of the commands' meanings: what an event, a step of a frame event, an arrival and an echo come
to once their conditions are known. -/

namespace Sys2Proof.Machine

namespace State

variable (s : State)

theorem settle_closed (h : s.time.frameOpen = false) : s.settle = s := by simp [settle, h]

theorem settle_open (h : s.time.frameOpen = true) :
    s.settle = s.frameWork.setTime fun t => { t with frameOpen := false } := by simp [settle, h]

theorem clearOut_settle_closed (h : s.time.frameOpen = false) : s.clearOut.settle = s.clearOut :=
  settle_closed _ h

theorem review_calm (h : s.claims.current = none) : s.review = s := by simp [review, h]

theorem review_kept (c : Chan) (h : s.claims.current = some c)
    (k : ¬((s.view c).contest = .claiming ∧ s.claimLapsed c = true)) : s.review = s := by
  simp only [review, h]; exact if_neg k

theorem judgeMark_none (h : s.time.pendingMark = none) : s.judgeMark = s := by simp [judgeMark, h]

theorem atFrame_open (f : State → State) (h : s.time.frameOpen = true) :
    s.atFrame f = (f s.clearOut.judgeMark).review := by simp [atFrame, h]

theorem atFrame_closed (f : State → State) (h : s.time.frameOpen = false) : s.atFrame f = s.clearOut := by
  simp [atFrame, h]

theorem event_eq (f : State → State) : s.event f = (f s.clearOut.settle).review := rfl

theorem arrival_taken (rx : Reception) (f : Addr → Addr → Msg → Option (State → State)) (src dst : Addr) (m : Msg)
    (g : State → State) (hr : s.clearOut.settle.receive rx = .deliver src dst m) (hf : f src dst m = some g) :
    s.arrival rx f = (g (s.clearOut.settle.hear src)).review := by
  simp [arrival, event, hr, hf]

theorem console_taken (rx : Reception) (b : Bool) (f : Addr → Addr → Nat → Command → Option (State → State))
    (src dst : Addr) (tag code : Nat) (bs : List Byte) (k : Command) (g : State → State)
    (hr : s.clearOut.settle.receive rx = .deliver src dst (.command tag code bs))
    (hk : readCommand code bs = some k) (hf : f dst src tag k = some g) :
    s.console rx b f = ((s.clearOut.settle.hear src).commandTaken dst src tag b g).review := by
  unfold console
  rw [arrival_taken s rx _ src dst _ _ hr (by simp [hk, hf]; rfl)]

theorem echo_taken (p : OutMsg → Bool) (f : OutMsg → State → State) (m : OutMsg)
    (h : s.clearOut.settle.sendingHead p = some m) : s.echo p f = (f m s.clearOut.settle.leaveHead).review := by
  simp [echo, event, h]

end State

end Sys2Proof.Machine
end

