-- ==== Sys2Proof/Tests/Slice0.lean ====
section
/-! SUPPORT. Tests: the well-formedness smoke, the manual's worked cases, and for each statement with hypotheses a
concrete state and operands that meet them (`meets_…`), clause by clause. A hypothesis of the form "for every value the
option holds" stands here as "for every member of the option", which is the same proposition. -/

namespace Sys2Proof.Tests

open Sys2Proof.Machine

set_option Elab.async false

/-! ### A small station -/

/-- A LIVE record of the given pool index and id, TIMED to 500 frames, starting at frame `a` of day 100. -/
def record (idx id a : Nat) : Rec :=
  ⟨idx, ⟨id, .live 7, .follow, none, .timed 500, .joinable, []⟩,
    ⟨some ⟨100, a⟩, some ⟨100, a + 500⟩, false, false, false, 0, false⟩⟩

/-- Channel 1 of the station: watched, CURRENT at epoch 4 and sequence 9, with two events. -/
def channel : ChannelRec :=
  { ChannelRec.reset with watched := true, replica := .current, epoch := 4, nextSeq := 9,
                          list := [record 0 101 900, record 1 102 1400] }

/-- Station 3, READY, its time SET at day 100, frame 1,000, watching channel 1. -/
def station : State :=
  { State.reset with
      free := (List.range 2046).map (· + 2)
      time := ⟨true, ⟨100, 1000⟩, .set, .pulsed, none, 0, 0, false⟩
      loader := ⟨.ready, false, false, some 3, false, false, 36, none, { Settings.default with watch := 1 }⟩
      chans := State.reset.chans.set 0 channel
      watch := State.reset.watch.set 0 (some (WatchRec.opened ⟨100, 900⟩)) }

/-- A state with a frame event open. -/
def opened (s : State) : State := s.setTime fun t => { t with frameOpen := true }

def inChan (f : ChannelRec → ChannelRec) : State := station.modChan 0 f

def inView (f : View → View) : State := station.modView 0 f

def inWatch (f : WatchRec → WatchRec) : State := station.modWatch 0 f

/-- The station with something in slot 0. -/
def inSlot (f : Slot → Slot) : State := station.modSlot 0 f

/-- A current cue of event 101 to its end at frame 1,400. -/
def cue : Cue := ⟨some 101, .live 7, ⟨100, 900⟩, ⟨100, 900⟩, none, some ⟨100, 1400⟩, ⟨100, 900⟩, []⟩

/-- Slot 0 ON AIR with channel 1 under epoch 4, the station its holder. -/
def onAir (f : Slot → Slot) : State :=
  (inSlot fun x => f { x with state := .onAir, chan := some 0, epoch := some 4, cur := some cue }).modView 0 fun v =>
    { v with holder := some 3, holderEpoch := 4, holderClaim := some ⟨false, 3⟩, contest := .taken }

/-- A message as the line carries it. -/
def heard (src dst : Addr) (k : Kind) (payload : List Byte) : Reception := ⟨true, frameBytes dst src k payload⟩

/-- A COMMAND of console 21 with tag 7. -/
def asked (dst : Addr) (code : Nat) (bs : List Byte) : Reception :=
  heard 21 dst .command (toBE 2 7 ++ toBE 1 code ++ bs)

/-- Twelve messages that fill class 0, and eight that fill class 1. -/
def full0 : List QEntry := List.replicate 12 ⟨.take 1 ⟨false, 3⟩ 1, false⟩

def full1 : List QEntry := List.replicate 8 ⟨.imagereq 1 17, false⟩

/-! ### Well-formedness -/

theorem test_wf_refuses_a_short_block : Instr.wf (.configReadComplete 1 (some (List.replicate 29 0))) = false := by decide
theorem test_wf_accepts_a_block : Instr.wf (.configReadComplete 1 (some (List.replicate 30 0))) = true := by decide
theorem test_wf_refuses_a_fifth_probe : Instr.wf (.gridDelivery 4 true (List.replicate 144 0)) = false := by decide +kernel
theorem test_wf_refuses_143_cells : Instr.wf (.gridDelivery 3 true (List.replicate 143 0)) = false := by decide +kernel
theorem test_wf_accepts_a_grid : Instr.wf (.gridDelivery 3 true (List.replicate 144 0)) = true := by decide +kernel
theorem test_wf_refuses_what_is_no_relay : (Instr.wf (.relaySilent 16) || Instr.wf (.relaySilent 21)) = false := by decide
theorem test_wf_accepts_the_relays : (Instr.wf (.relaySilent 17) && Instr.wf (.relaySilent 20)) = true := by decide
theorem test_wf_refuses_what_is_no_peer : (Instr.wf (.peerSilent 0) || Instr.wf (.peerSilent 17)) = false := by decide
theorem test_wf_accepts_the_peers : (Instr.wf (.peerSilent 1) && Instr.wf (.peerSilent 16)) = true := by decide

/-! ### The machine -/

theorem test_reset_waits_for_commands : State.reset.pending = [] := rfl

/-- Section 1.3.1. -/
theorem test_label_of_150612 : Label.ofFrame .rate30df 150612 = ⟨1, 23, 45, 12⟩ := by decide
theorem test_frame_of_01_23_45_12 : Label.toFrame .rate30df ⟨1, 23, 45, 12⟩ = some 150612 := by decide
theorem test_frame_of_00_00_59_29 : Label.toFrame .rate30df ⟨0, 0, 59, 29⟩ = some 1799 := by decide
theorem test_frame_of_a_dropped_label : Label.toFrame .rate30df ⟨0, 1, 0, 0⟩ = some 1800 := by decide
theorem test_label_of_1800 : Label.ofFrame .rate30df 1800 = ⟨0, 1, 0, 2⟩ := by decide
theorem test_frame_of_00_10_00_00 : Label.toFrame .rate30df ⟨0, 10, 0, 0⟩ = some 17982 := by decide
theorem test_label_with_ff_30 : Label.toFrame .rate30df ⟨0, 1, 0, 30⟩ = none := by decide
theorem test_frame_of_18_00_at_rate25 : Label.toFrame .rate25 ⟨18, 0, 0, 0⟩ = some 1620000 := by decide

/-! ### Worked cases of the manual -/

/-- The frames of day that the derived starts and ends of a list lie at, with the truncated, eclipsed and late-start
flags. -/
def times (l : List Rec) : List (Option Nat × Option Nat × Bool × Bool × Bool) :=
  l.map fun e => (e.derived.start.map Pos.frame, e.derived.stop.map Pos.frame, e.derived.truncated, e.derived.eclipsed,
    e.derived.lateStart)

def event (id : Nat) (source : Source) (start : StartMode) (key : Option Nat) (stop : EndMode) (join : JoinPolicy) :
    Rec := ⟨id, ⟨id, source, start, key, stop, join, []⟩, Derived.fresh⟩

/-- The four events of section 2.5.1, on day 412, and the two that section 2.5.2 adds. -/
def channel7 : List Rec :=
  [event 101 (.clip [65] 10) (.fixed ⟨412, 1620000⟩) none (.timed 1500) .joinable,
    event 102 (.clip [66] 20) .follow none (.timed 750) .whole,
    event 103 (.live 41) .follow none (.openEnd (some 45000)) .joinable,
    event 104 (.clip [67] 30) (.fixed ⟨412, 1665000⟩) (some 5001) (.timed 1500) .joinable]

def added : List Rec :=
  [event 105 (.clip [68] 0) .follow none (.timed 750) .joinable,
    event 106 (.clip [69] 0) (.fixed ⟨412, 1666500⟩) none (.timed 1500) .joinable]

def unanchored : List Rec := walkList .rate25 ⟨412, 1600000⟩ (fun _ => none) none channel7

def beat101 : Anchor := ⟨101, ⟨412, 1620110⟩, .beat, ⟨412, 1621580⟩⟩

def anchored : List Rec := walkList .rate25 ⟨412, 1621580⟩ (fun _ => none) (some beat101) unanchored

def overrun : List Rec :=
  walkList .rate25 ⟨412, 1665040⟩ (fun _ => none) (some ⟨103, ⟨412, 1622360⟩, .beat, ⟨412, 1665040⟩⟩) (anchored ++ added)

/-- Section 2.5.1, unanchored. -/
theorem test_walk_unanchored : times unanchored =
    [(some 1620000, some 1621500, false, false, false), (some 1621500, some 1622250, false, false, false),
      (some 1622250, some 1665000, true, false, false), (some 1665000, some 1666500, false, false, false)] := by
  decide +kernel

/-- Section 2.5.1, anchored. -/
theorem test_walk_anchored : times anchored =
    [(some 1620110, some 1621610, false, false, false), (some 1621610, some 1622360, false, false, false),
      (some 1622360, some 1665000, true, false, false), (some 1665000, some 1666500, false, false, false)] := by
  decide +kernel

/-- Section 2.5.2. -/
theorem test_walk_overrun : times overrun =
    [(some 1620110, some 1621610, false, false, false), (some 1621610, some 1622360, false, false, false),
      (some 1622360, some 1665041, true, false, false), (some 1665041, some 1666500, true, false, true),
      (some 1666500, some 1666500, true, true, false), (some 1666500, some 1668000, false, false, false)] := by
  decide +kernel

/-- Section 2.5.3, the leader's e104 at 1,665,041. -/
theorem test_walk_follower : times (walkList .rate25 ⟨412, 1665040⟩
      (fun k => if k = 5001 then some ⟨412, 1665041⟩ else none) none
      [event 201 (.clip [70] 0) (.fixed ⟨412, 1620000⟩) none (.timed 45500) .joinable,
        event 202 (.clip [71] 0) .locked (some 5001) (.timed 1500) .joinable]) =
    [(some 1620000, some 1665041, true, false, false), (some 1665041, some 1666541, false, false, false)] := by
  decide +kernel

/-- The kind, event, offset and material position of a plan. -/
def planned (j : Nat) (l : List Rec) : PlanKind × Option Nat × Nat × Option Nat :=
  let p := makePlan .rate25 Settings.default .anchored 1 ⟨412, j⟩ l
  (p.kind, p.event, p.offset, p.material)

/-- Section 7.6.1. -/
theorem test_join_grace : planned 1621612 anchored = (.grace, some 102, 2, some 20) := by decide +kernel
/-- Section 7.6.2. -/
theorem test_join_whole_skips : planned 1621612 unanchored = (.skip, some 102, 112, none) := by decide +kernel
/-- Section 7.6.3, its four lines. -/
theorem test_join_mid : planned 1620800 unanchored = (.mid, some 101, 800, some 810) := by decide +kernel
theorem test_join_tail_skips : planned 1621452 unanchored = (.skip, some 101, 1452, none) := by decide +kernel
theorem test_join_live : planned 1640012 unanchored = (.mid, some 103, 17762, none) := by decide +kernel
theorem test_join_after_overrun : planned 1665212 overrun = (.mid, some 104, 171, some 201) := by decide +kernel

/-- Section 1.4.1: a station in slot 2's state with a mark `d` frames ahead, at the frame event of 1,621,600. -/
def marked (d : Nat) (active : Bool) : State :=
  (station.modSlot 2 fun x => { x with state := if active then .onAir else .free }).setTime fun t =>
    { t with pos := ⟨412, 1621600⟩, pendingMark := some ⟨412, 1621600 + d⟩, frameOpen := true }

theorem test_mark_one_ahead : (marked 1 true).judgeMark.now = ⟨412, 1621601⟩ ∧
    ((marked 1 true).judgeMark.log.map fun e => (e.kind, e.lateness)) = [(.timeStep, some 1)] := by decide +kernel
theorem test_mark_five_ahead_on_air : (marked 5 true).judgeMark.now = ⟨412, 1621600⟩ ∧
    (marked 5 true).judgeMark.time.timeState = .disputed ∧ (marked 5 true).judgeMark.log = [] := by decide +kernel
theorem test_mark_five_ahead_idle : (marked 5 false).judgeMark.now = ⟨412, 1621605⟩ ∧
    (marked 5 false).judgeMark.time.timeState = .set := by decide +kernel

/-- Section 5.9.1: 120 cells of 16, 16 of 40 and the last 8 masked. -/
def logoCells : List Byte := List.replicate 120 16 ++ List.replicate 16 40 ++ List.replicate 8 99

def logoProfile : Profile := { Profile.default with mask := 255 }

def logoProbe : Probe :=
  Probe.arithmetic logoProfile logoCells { Probe.reset with reference := some logoCells, darkRun := 10, flatRun := 10 }

theorem test_grid_arithmetic : logoProbe.mean = some 18 ∧ logoProbe.active = some 136 ∧ logoProbe.darkRun = 11 ∧
    logoProbe.flatRun = 0 := by decide +kernel
theorem test_grid_flat_at_80 : isFlat { logoProfile with fp := 0 } (activeCells logoProfile logoCells) = true := by
  decide +kernel

/-- Section 6.7.1: station `a` with `k` slots busy, channel 11's preference list 5, 2. -/
def contender (a k : Nat) : State :=
  { (State.reset.modChan 10 fun ch => { ch with profile := { ch.profile with preference := [5, 2] } }) with
      loader := { Loader.reset with address := some a }
      slots := Vector.ofFn fun n => { Slot.reset false with state := if n.val < k then .onAir else .free } }

theorem test_weights : (contender 2 1).weight 10 = 1102 ∧ (contender 5 2).weight 10 = 2005 ∧
    (contender 9 0).weight 10 = 409 := by decide +kernel

/-- Section 10.3.1: the wait of station `a` that holds `m` in its queue, with or without the courtesy steps. -/
def waitOf (a : Nat) (m : OutMsg) (courtesy : Bool) : Option Nat :=
  let s : State := { station with loader := { station.loader with address := some a },
                                  line := { Line.reset with courtesy1 := courtesy, courtesy2 := courtesy, idle := true } }
  (s.enqueue m).line.wait.map Wait.units

theorem test_ladder_waits : waitOf 2 (.claim 0 ⟨false, 1102⟩ 1) false = some 10 ∧
    waitOf 4 (.image 9 0 1 1 0 0 2 0 []) false = some 76 ∧ waitOf 4 (.image 9 0 1 1 0 0 2 0 []) true = some 108 ∧
    waitOf 9 .beacon false = some 49 ∧ waitOf 9 .beacon true = some 81 := by decide +kernel

/-- Section 11.2.1: the payload lengths of the four parts. -/
theorem test_query_station_parts :
    ((State.answer station 21 7 .done (station.stationItem ::
      ((List.finRange 8).map station.slotItem ++ (List.finRange 4).map station.probeItem ++
        (List.range 30).map fun i => station.peerItem (i + 1)))).line.q1.map fun e => (station.payload e.msg).length) =
    [194, 225, 233, 214] := by decide +kernel

/-! ### Single commands -/

/-- The state after one command. -/
def after (c : Instr) (s : State) : State :=
  match exec c s with
  | .next t => t
  | _ => s

/-- R4: the last frame of a day is followed by the first of the next. -/
theorem test_pulse_ends_the_day :
    (after (.framePulse 2400) (station.setTime fun t => { t with pos := ⟨100, 2159999⟩ })).now = ⟨101, 0⟩ := by
  decide +kernel

/-- R2: the pulses lost, the flywheel makes the frame event. -/
theorem test_flywheel : (after (.flywheelEntry 3600) station).time.refState = .flywheel ∧
    (after (.flywheelEntry 3600) station).now = ⟨100, 1001⟩ ∧
    (after (.flywheelEntry 3600) station).loader.station = .degraded := by decide +kernel

/-- R198 to R201: the pin released, straps of 3 and no answer of the memory. -/
theorem test_cold_start :
    (after (.configReadComplete 3 none) (after .resetReleased State.reset)).loader.station = .listening ∧
    (after (.configReadComplete 3 none) (after .resetReleased State.reset)).loader.address = some 3 ∧
    (after (.configReadComplete 3 none) (after .resetReleased State.reset)).loader.defaulted = true := by decide +kernel

/-- R39 and R45: a DELETE in sequence takes its event away and returns its record to the pool's tail. -/
theorem test_delete_in_sequence :
    ((after (.editReceived (heard 17 0 .edit (toBE 1 1 ++ toBE 4 4 ++ toBE 4 9 ++ toBE 1 2 ++ toBE 4 101))) station).chan
      0).list.map (fun e => e.stated.id) = [102] ∧
    (after (.editReceived (heard 17 0 .edit (toBE 1 1 ++ toBE 4 4 ++ toBE 4 9 ++ toBE 1 2 ++ toBE 4 101)))
      station).free.getLast? = some 0 := by decide +kernel

/-- R114 and R194: FORCE TAKE reserves slot 0 and queues a forced CLAIM. -/
theorem test_force_take :
    ((after (.forceTake (heard 21 3 .command [0, 7, 5, 1])) station).slot 0).state = .reserved ∧
    ((after (.forceTake (heard 21 3 .command [0, 7, 5, 1])) station).line.q0.map QEntry.msg) =
      [.claim 0 ⟨true, 403⟩ 1] := by decide +kernel

/-! ### Witnesses: the machine's shape and house time -/

theorem meets_StepTakesTheQueueInOrder :
    (station.pending = [] ∧ station.time.frameOpen = false) ∧
    ((opened station).pending = [] ∧ (opened station).time.frameOpen = true) := by decide +kernel

/-- Discards: no delimiter, another destination, the station's own address, a source above 30, a station in START, and a
role that may not send the kind. Deliveries: a relay's broadcast, a peer's and a console's own. -/
theorem meets_DeliveryPassesTheReceiveChecks :
    (station.found.receive ⟨false, []⟩ = .discard ∧
      station.found.receive (heard 1 4 .imagereq [1]) = .discard ∧
      station.found.receive (heard 3 0 .verdict [1, 1]) = .discard ∧
      station.found.receive (heard 31 0 .command [0, 7, 1]) = .discard ∧
      station.found.receive (heard 20 0 .verdict [1, 1]) = .discard ∧
      State.reset.found.receive (heard 1 0 .verdict [1, 1]) = .discard) ∧
    (station.found.receive (heard 17 0 .relaystate [1]) = .deliver 17 0 (.relaystate 1) ∧
      station.found.receive (heard 16 3 .imagereq [32]) = .deliver 16 3 (.imagereq 32) ∧
      station.found.receive (asked 3 1 []) = .deliver 21 3 (.command 7 1 [])) := by decide +kernel

/-- The station on the flywheel. -/
def coasting : State := station.setTime fun t => { t with refState := .flywheel }

theorem meets_PulsesAndLossMakeFrameEvents :
    State.reset.found.time.running = false ∧
    (station.found.time.running = true ∧ station.found.time.refState = .pulsed ∧
      station.found.rate.half ≤ station.found.time.sinceFrame + 1200 ∧
      station.found.time.sinceFrame + 1199 < station.found.rate.half ∧
      station.found.rate.loss ≤ station.found.time.sinceMark + 3600 ∧
      station.found.time.sinceMark + 3599 < station.found.rate.loss) ∧
    (coasting.found.time.running = true ∧ coasting.found.time.refState = .flywheel ∧
      coasting.found.rate.half ≤ coasting.found.time.sinceFrame + 1200 ∧
      coasting.found.time.sinceFrame + 1199 < coasting.found.rate.half ∧
      coasting.found.rate.period ≤ coasting.found.time.sinceFrame + 2400 ∧
      coasting.found.time.sinceFrame + 2399 < coasting.found.rate.period) := by decide +kernel

theorem meets_FrameEventCountsEveryTimer : station.watchRec 0 = some (WatchRec.opened ⟨100, 900⟩) := by decide +kernel

theorem meets_PositionsAreComparedOnTheRing :
    (⟨0, 0⟩ : Pos).valid .rate25 = true ∧ (⟨65535, 2159999⟩ : Pos).valid .rate25 = true ∧
    (⟨65535, 2589407⟩ : Pos).valid .rate30df = true := by decide

theorem meets_LabelsConvertBack :
    1799 % 107892 % 17982 < 1800 ∧ 1800 ≤ 1800 % 107892 % 17982 ∧ 2159999 < Rate.rate25.fpd ∧
    2589407 < Rate.rate30df.fpd ∧
    ((⟨0, 1, 0, 1⟩ : Label).dropFF ≠ (⟨0, 1, 0, 1⟩ : Label).ff ∧ (⟨0, 1, 0, 1⟩ : Label).toFrame .rate30df = some 1800) ∧
    (⟨23, 59, 59, 24⟩ : Label).toFrame .rate25 = some 2159999 := by decide

/-- A TIMEMARK of rate code `r`, day 100 and frame `f`. -/
def mark (r f : Nat) : Reception := heard 18 0 .timemark (toBE 1 r ++ toBE 2 100 ++ toBE 3 f)

theorem meets_MarksAreJudgedAgainstTheCount :
    (station.found.receive (mark 1 2159999) = .deliver 18 0 (.timemark 1 ⟨100, 2159999⟩) ∧
      Rate.ofCode 1 = some (station.found.hear 18).rate ∧ 2159999 < (station.found.hear 18).rate.fpd) ∧
    (station.found.receive (mark 2 7) = .deliver 18 0 (.timemark 2 ⟨100, 7⟩) ∧
      Rate.ofCode 2 ≠ some (station.found.hear 18).rate) ∧
    (station.found.receive (mark 1 2160000) = .deliver 18 0 (.timemark 1 ⟨100, 2160000⟩) ∧
      (station.found.hear 18).rate.fpd ≤ 2160000) ∧
    ((marked 1 true).time.frameOpen = true ∧ (marked 1 true).time.pendingMark = some ⟨412, 1621601⟩ ∧
      Pos.diff .rate25 (marked 1 true).now ⟨412, 1621601⟩ = 1) ∧
    (Pos.diff .rate25 (marked 2 true).now ⟨412, 1621602⟩ = 2 ∧ ((marked 2 true).slot 2).state ≠ .free) ∧
    (∀ n, ((marked 5 false).slot n).state = .free) ∧
    ((opened station).time.frameOpen = true ∧ (opened station).time.pendingMark = none) ∧
    station.time.frameOpen = false := by decide +kernel

/-! ### Witnesses: resets, configuration and station states -/

theorem meets_ResetsEnterStart :
    State.reset.found.loader.resetHeld = true ∧ station.found.loader.resetHeld = false := by decide +kernel

/-- A station in START with the pin released, cold or at a soft restart. -/
def starting (cold : Bool) : State :=
  { station with loader := { station.loader with station := .start, cold := cold } }

theorem meets_ConfigurationReadEndsStart :
    ¬(station.found.loader.station = .start ∧ station.found.loader.resetHeld = false) ∧
    ((starting true).found.loader.station = .start ∧ (starting true).found.loader.resetHeld = false ∧
      (starting true).found.loader.cold = true) ∧
    (16 < (17#5).toNat ∧ 1 ≤ (1#5).toNat ∧ (16#5).toNat ≤ 16) ∧
    ((starting false).found.loader.station = .start ∧ (starting false).found.loader.resetHeld = false ∧
      (starting false).found.loader.cold = false ∧ (starting false).found.loader.address = some 3) := by decide +kernel

/-- A block of zeros with its check code. -/
def block : List Byte := List.replicate 28 0 ++ toBE 2 (crc (List.replicate 28 0)).toNat

theorem meets_ConfigurationValuesLieInTheirRanges :
    (none : Option (List Byte)).bind readBlock = none ∧
    (some (List.replicate 30 0)).bind readBlock = none ∧ ((some block).bind readBlock).isSome = true := by decide +kernel

/-- A station that listens, `n` frame events in, its frame event open. -/
def listening (n : Nat) (defaulted : Bool) : State :=
  { opened station with
      loader := { station.loader with station := .listening, listening := n, defaulted := defaulted } }

theorem meets_StationStatesFollowTheTable :
    ((listening 36 true).time.frameOpen = true ∧ (listening 36 true).atStep.loader.station = .listening ∧
      (listening 36 true).atStep.loader.releasePhase = none ∧ 36 ≤ (listening 36 true).atStep.loader.listening ∧
      (listening 36 true).atStep.loader.defaulted = true) ∧
    (36 ≤ (listening 36 false).atStep.loader.listening ∧ (listening 36 false).atStep.loader.defaulted = false ∧
      (listening 36 false).atStep.time.timeState = .set) ∧
    (listening 35 false).atStep.loader.listening < 36 ∧
    ({ station with loader := { station.loader with releasePhase := some 0 } } : State).loader.releasePhase.isSome = true ∧
    (station.loader.releasePhase = none ∧ station.loader.station = .ready) ∧
    ({ station.loader with station := .degraded } : Loader).station = .degraded ∧
    (starting true).loader.station = .start := by decide +kernel

/-- Channel 1 with the replica state given and one parked edit that has waited `age` frames, a frame event open. -/
def replica (r : ReplicaState) (age : Nat) : State :=
  (opened (inChan fun ch => { ch with replica := r })).setRepl fun q =>
    { q with parked := [⟨0, 4, 11, 17, 2, toBE 4 101, age⟩] }

/-- The RESTART command, and the station in the phase it begins, with the contest of channel 1 as given. -/
def phased (s : State) : State :=
  (((s.found).hear 21).answer 21 7 .done []).setLoader fun l => { l with releasePhase := some 0 }

def contest (x : Contest) : State := (inView fun v => { v with contest := x }).setClaims fun k => { k with current := some 0 }

/-- The release phase after `k` frame events, with slot 0 in the state given and a RELEASE of the phase waiting or not. -/
def phaseAt (k : Nat) (x : SlotState) (left : Bool) : State :=
  ((opened (inSlot fun y => { y with state := x })).setLoader fun l => { l with releasePhase := some k }).setLine fun l =>
    { l with outbox := if left then [.release 0 .restart ⟨100, 1000⟩ none true] else [] }

theorem meets_RestartRunsTheReleasePhase :
    (station.found.receive (asked 3 11 []) = .deliver 21 3 (.command 7 11 []) ∧ (3 : Addr) ≠ 0 ∧
      station.found.loader.releasePhase = none ∧ (phased station).claims.current = none) ∧
    ((contest .taking).found.receive (asked 3 11 []) = .deliver 21 3 (.command 7 11 []) ∧
      (phased (contest .taking)).claims.current = some 0 ∧ ((phased (contest .taking)).view 0).contest ≠ .claiming) ∧
    ((contest .claiming).found.receive (asked 3 11 []) = .deliver 21 3 (.command 7 11 []) ∧
      (phased (contest .claiming)).claims.current = some 0 ∧
      ((phased (contest .claiming)).view 0).contest = .claiming) ∧
    ((opened station).time.frameOpen = true ∧ (opened station).atStep.loader.releasePhase = none) ∧
    ((phaseAt 1 .free false).time.frameOpen = true ∧ (phaseAt 1 .free false).atStep.loader.releasePhase = some 1 ∧
      (∀ n, ((phaseAt 1 .free false).atStep.slot n).state.holds = false) ∧
      (phaseAt 1 .free false).atStep.phaseReleaseLeft = false) ∧
    (phaseAt 0 .free false).atStep.loader.releasePhase = some 0 ∧
    ((phaseAt 11 .onAir false).atStep.slot 0).state.holds = true ∧
    (phaseAt 11 .free true).atStep.phaseReleaseLeft = true ∧
    (phaseAt 11 .free true).atStep.loader.releasePhase = some 11 ∧
    (phaseAt 12 .onAir true).atStep.loader.releasePhase = some 12 ∧
    ((replica .loading 0).chan 0).replica = .loading ∧
    (((replica .current 0).chan 0).replica = .current ∧ ∃ e ∈ (replica .current 0).repl.parked, e.chan = 0) ∧
    ((station.chan 0).replica = .current ∧ ∀ e ∈ station.repl.parked, e.chan ≠ 0) ∧
    ((replica .stale 0).chan 0).replica = .stale ∧ ((replica .empty 0).chan 0).replica = .empty := by decide +kernel

/-! ### Witnesses: lists, replica timers, edits and images -/

theorem meets_WalksDeriveEachStartAndEnd :
    (event 1 (.live 1) .follow none (.timed 5) .joinable).stated.start = .follow ∧
    (event 1 (.live 1) .locked (some 9) (.timed 5) .joinable).stated.start = .locked ∧
    Pos.before .rate25 ⟨412, 9⟩ ⟨412, 10⟩ = true ∧ Pos.before .rate25 ⟨412, 10⟩ ⟨412, 10⟩ = false ∧
    Hard.soft ≠ .eclipsed ∧
    (walkOne .rate25 none (event 1 (.live 1) .locked (some 9) (.timed 5) .joinable) .soft none).1.derived.start = none ∧
    (walkOne .rate25 (some ⟨412, 10⟩) (event 1 (.live 1) .follow none (.timed 5) .joinable) .soft none).1.derived.start =
      some ⟨412, 10⟩ := by decide +kernel

/-- Channel 1 with an anchor on event 101 reported at frame `f`, a frame event open. -/
def anchoredAt (src : AnchorSource) (f : Nat) : State :=
  opened (inChan fun ch => { ch with anchor := some ⟨101, ⟨100, 700⟩, src, ⟨100, f⟩⟩ })

/-- Channel 1 loading an image of two segments, with no segment for `age` frames and its request in the stage given. -/
def loading (age : Nat) (stage : RequestStage) : State :=
  opened (inChan fun ch => { ch with
    replica := .loading, list := [], shadow := some ⟨6, 4, 9, 2, [(0, [record 0 101 900])], none, (.stale, some .gap), age⟩
    request := some ⟨[], some 17, 0, stage, .echoed⟩ })

theorem meets_ReplicaTimersExpire :
    ((anchoredAt .beat 749).time.frameOpen = true ∧
      ((anchoredAt .beat 749).atStep.chan 0).anchor = some ⟨101, ⟨100, 700⟩, .beat, ⟨100, 749⟩⟩ ∧
      ((anchoredAt .beat 749).atStep.cfg.ta : Int) <
        Pos.diff .rate25 ⟨100, 749⟩ (anchoredAt .beat 749).atStep.now) ∧
    (∀ a ∈ ((anchoredAt .beat 750).atStep.chan 0).anchor,
      a.source = .air ∨ Pos.diff (anchoredAt .beat 750).atStep.rate a.report (anchoredAt .beat 750).atStep.now ≤
        (anchoredAt .beat 750).atStep.cfg.ta) ∧
    (∀ a ∈ ((anchoredAt .air 1).atStep.chan 0).anchor, a.source = .air) ∧
    ((replica .current 49).time.frameOpen = true ∧
      ∀ e ∈ (replica .current 49).atStep.repl.parked, e.chan = 0 → e.age < 50) ∧
    ((∃ e ∈ (replica .current 50).atStep.repl.parked, e.chan = 0 ∧ 50 ≤ e.age) ∧
      ((replica .current 50).atStep.chan 0).replica = .current ∧
      ((replica .loading 50).atStep.chan 0).replica = .loading ∧
      ((replica .empty 50).atStep.chan 0).replica = .empty ∧ ((replica .stale 50).atStep.chan 0).replica = .stale) ∧
    ((loading 100 .loading).time.frameOpen = true ∧
      (((loading 100 .loading).atStep.chan 0).shadow.map Shadow.age) = some 100 ∧
      (∀ q ∈ ((loading 100 .loading).atStep.chan 0).request, q.stage = .loading) ∧
      (∀ q ∈ ((loading 100 .waiting).atStep.chan 0).request, q.stage ≠ .loading)) ∧
    (∀ sh ∈ ((loading 99 .loading).atStep.chan 0).shadow, sh.age < 100) := by decide +kernel

/-- An EDIT of channel `c` from `src`: a DELETE of event `id`, or an operation of its own. -/
def edit (src c epoch seq op id : Nat) : Reception :=
  heard src 0 .edit (toBE 1 c ++ toBE 4 epoch ++ toBE 4 seq ++ toBE 1 op ++ toBE 4 id)

/-- What an EDIT is delivered as. -/
def edited (src c epoch seq : Nat) (op : Byte) (id : Nat) : Received :=
  .deliver src 0 (.edit c epoch seq op (toBE 4 id))

/-- Channel 1 under SITE, held by station 5. -/
def siteHeld : State :=
  (inChan fun ch => { ch with authority := .site }).modView 0 fun v => { v with holder := some 5, holderEpoch := 4 }

/-- The station with its parked queue full. -/
def parkedFull : State :=
  station.setRepl fun q => { q with parked := List.replicate 16 ⟨1, 4, 11, 17, 2, toBE 4 101, 0⟩ }

theorem meets_EditsAreTakenInSequence :
    (station.found.receive (edit 17 2 4 9 2 101) = edited 17 (chanNo 1) 4 9 2 101 ∧
      ((station.found.hear 17).chan 1).watched = false) ∧
    (siteHeld.found.receive (edit 17 1 4 9 2 101) = edited 17 (chanNo 0) 4 9 2 101 ∧
      ((siteHeld.found.hear 17).chan 0).watched = true ∧ ((siteHeld.found.hear 17).chan 0).authority = .site ∧
      ((siteHeld.found.hear 17).view 0).holder ≠ some 17) ∧
    (station.found.receive (edit 16 1 4 9 2 101) = edited 16 (chanNo 0) 4 9 2 101 ∧
      ((station.found.hear 16).chan 0).authority = .main ∧ 4 ≤ ((station.found.hear 16).chan 0).epoch) ∧
    (station.found.receive (edit 20 1 3 9 2 101) = edited 20 (chanNo 0) 3 9 2 101 ∧
      3 < ((station.found.hear 20).chan 0).epoch) ∧
    (siteHeld.found.receive (edit 5 1 3 9 2 101) = edited 5 (chanNo 0) 3 9 2 101 ∧
      ((siteHeld.found.hear 5).view 0).holder = some 5 ∧ 3 < ((siteHeld.found.hear 5).chan 0).epoch) ∧
    (((station.found.hear 17).chan 0).watched = true ∧ (station.found.hear 17).holdsAuthority 0 17 = true ∧
      ((station.found.hear 17).chan 0).replica = .current ∧ ((station.found.hear 17).chan 0).epoch = 4 ∧
      ((station.found.hear 17).chan 0).nextSeq = 9) ∧
    (station.found.receive (edit 17 1 4 8 2 101) = edited 17 (chanNo 0) 4 8 2 101 ∧
      station.found.receive (edit 17 1 4 9 2 101) = edited 17 (chanNo 0) 4 9 2 101 ∧
      readEdit 2 (toBE 4 101) = some (.delete 101, []) ∧
      (station.found.hear 17).contentCheck 0 (.delete 101) = none) ∧
    (station.found.receive (edit 17 1 4 9 7 101) = edited 17 (chanNo 0) 4 9 7 101 ∧ readEdit 7 (toBE 4 101) = none) ∧
    (station.found.receive (edit 17 1 4 9 2 103) = edited 17 (chanNo 0) 4 9 2 103 ∧
      readEdit 2 (toBE 4 103) = some (.delete 103, []) ∧
      (station.found.hear 17).contentCheck 0 (.delete 103) = some .notFound) ∧
    (station.found.receive (edit 17 1 4 40 2 101) = edited 17 (chanNo 0) 4 40 2 101 ∧
      (station.found.hear 17).repl.parked.length < 16) ∧
    station.found.receive (edit 17 1 4 41 2 101) = edited 17 (chanNo 0) 4 41 2 101 ∧
    (parkedFull.found.receive (edit 17 1 4 10 2 101) = edited 17 (chanNo 0) 4 10 2 101 ∧
      16 ≤ (parkedFull.found.hear 17).repl.parked.length) := by decide +kernel

/-- A record as an INSERT carries it: LIVE, FOLLOW, TIMED to 500 frames. -/
def carried (id : Nat) : RawRecord := ⟨id, 2, 1, 1, 4, none, none, some 500, .live 7, []⟩

theorem meets_CheckedEditsKeepTheListSound :
    ((EditOp.insertAfter (some 102) (carried 103)).check .rate25 ⟨100, 1000⟩ true false channel.list = none ∧
      (EditOp.delete 101).check .rate25 ⟨100, 1000⟩ true false channel.list = none ∧
      (EditOp.setEnd 101 2160000).check .rate25 ⟨100, 1000⟩ true false channel.list = none ∧
      (channel.list.map fun x => x.stated.id).Nodup ∧ inOrder .rate25 channel.list = true) ∧
    (splitAt 101 channel.list = some ([], record 0 101 900, [record 1 102 1400]) ∧
      (record 0 101 900).stated.stop = .timed 500 ∧
      statedPos .rate25 (412, ⟨18, 0, 0, 0⟩) = some ⟨412, 1620000⟩) ∧
    (splitAt 103 channel7 = some (channel7.take 2, channel7.getD 2 (record 0 0 0), channel7.drop 3) ∧
      (channel7.getD 2 (record 0 0 0)).stated.stop = .openEnd (some 45000)) := by decide +kernel

/-- Channel 1 with an image request of target 17, its class 1 queue full or empty, a frame event open. -/
def requesting (stage : RequestStage) (ask : AskState) (timer : Nat) (full : Bool) : State :=
  (opened (inChan fun ch => { ch with replica := .stale, request := some ⟨[], some 17, timer, stage, ask⟩ })).setLine fun l =>
    { l with q1 := if full then full1 else [] }

/-- The station with `m` begun at the head of the class it is sent in, its other messages behind it. -/
def sending (s : State) (m : OutMsg) : State :=
  (s.setQueue m.cls (⟨m, true⟩ :: s.queue m.cls)).setLine fun l => { l with sending := some m.cls }

/-- The station with relay 17's link UP, so that it is a candidate for an image of channel 1, or already asked. -/
def relayUp (asked : List Addr) : State :=
  (inChan fun ch => { ch with request := some ⟨asked, none, 0, .asking, .unqueued⟩ }).modPeer 17 fun p =>
    { p with heard := true, link := .up }

theorem meets_ImageRequestsTryTheirTargets :
    ((requesting .asking .unqueued 0 false).time.frameOpen = true ∧
      ((requesting .asking .unqueued 0 false).atStep.chan 0).request = some ⟨[], some 17, 0, .asking, .unqueued⟩ ∧
      (requesting .asking .unqueued 0 false).atStep.hasRoom .one = true ∧
      (requesting .asking .unqueued 0 true).atStep.hasRoom .one = false) ∧
    (∀ q ∈ ((requesting .asking .echoed 99 false).atStep.chan 0).request,
      (q.stage ≠ .asking ∨ q.ask ≠ .unqueued ∨ q.target = none) ∧ (q.stage ≠ .asking ∨ q.ask ≠ .echoed ∨ q.timer < 100)) ∧
    ((requesting .asking .echoed 100 false).atStep.chan 0).request = some ⟨[], some 17, 100, .asking, .echoed⟩ ∧
    ((requesting .waiting .echoed 250 false).atStep.chan 0).request = some ⟨[], some 17, 250, .waiting, .echoed⟩ ∧
    (∀ q ∈ ((requesting .waiting .echoed 249 false).atStep.chan 0).request, q.stage ≠ .waiting ∨ q.timer < 250) ∧
    (sending station (.imagereq 0 17)).found.sendingHead (fun m => decide (m.kind = .imagereq)) =
      some (.imagereq 0 17) ∧
    (((relayUp [17]).chan 0).request = some ⟨[17], none, 0, .asking, .unqueued⟩ ∧
      ∀ a ∈ (relayUp [17]).candidates 0, a ∈ [17]) ∧
    ((relayUp []).candidates 0 = [] ++ 17 :: [] ∧ (17 : Addr) ∉ ([] : List Addr)) := by decide +kernel

/-- An IMAGE segment of channel 1, its body the station's default profile. -/
def segment (count index id epoch : Nat) : Segment := ⟨id, epoch, 9, index, count, 0, Profile.default.bytes⟩

def image (src : Addr) (g : Segment) : Reception :=
  heard src 3 .image (toBE 1 1 ++ toBE 4 g.epoch ++ toBE 4 g.imageId ++ toBE 4 g.base ++ toBE 2 g.index ++
    toBE 2 g.count ++ toBE 1 g.records ++ g.body)

def imaged (src : Addr) (g : Segment) : Received :=
  .deliver src 3 (.image (chanNo 0) g.epoch g.imageId g.base g.index g.count g.records g.body)

/-- Channel 1 asking 17 for an image, its replica in the state given. -/
def wanting (r : ReplicaState) : State :=
  inChan fun ch => { ch with replica := r, request := some ⟨[17], some 17, 3, .asking, .echoed⟩ }

/-- Channel 1 with segment 0 of 2 of image 6 received. -/
def halfLoaded : State := { loading 5 .loading with time := station.time }

theorem meets_SegmentsBuildTheInstalledImage :
    ((wanting .stale).found.receive (image 18 (segment 2 0 6 4)) = imaged 18 (segment 2 0 6 4) ∧
      (((wanting .stale).found.hear 18).chan 0).request.bind ImageRequest.target ≠ some 18) ∧
    ((wanting .stale).found.receive (image 17 (segment 0 0 6 4)) = imaged 17 (segment 0 0 6 4) ∧
      (((wanting .stale).found.hear 17).chan 0).watched = true ∧
      (((wanting .stale).found.hear 17).chan 0).request.bind ImageRequest.target = some 17) ∧
    ((wanting .stale).found.receive (image 17 (segment 2 2 6 4)) = imaged 17 (segment 2 2 6 4) ∧ ¬(2 < 2)) ∧
    ((wanting .stale).found.receive (image 17 (segment 2 1 6 3)) = imaged 17 (segment 2 1 6 3) ∧
      3 < (((wanting .stale).found.hear 17).chan 0).epoch) ∧
    ((wanting .current).found.receive (image 17 (segment 2 1 6 4)) = imaged 17 (segment 2 1 6 4) ∧
      (((wanting .current).found.hear 17).chan 0).replica = .current ∧
      (((wanting .current).found.hear 17).chan 0).epoch = 4 ∧
      (((wanting .current).found.hear 17).chan 0).nextSeq ≤ 9) ∧
    ((wanting .stale).found.receive (image 17 (segment 2 1 6 4)) = imaged 17 (segment 2 1 6 4) ∧
      (((wanting .stale).found.hear 17).chan 0).replica = .stale ∧
      (((wanting .stale).found.hear 17).chan 0).shadow = none) ∧
    (halfLoaded.found.receive (image 17 (segment 2 1 6 4)) = imaged 17 (segment 2 1 6 4) ∧
      halfLoaded.found.receive (image 17 (segment 2 1 7 4)) = imaged 17 (segment 2 1 7 4) ∧
      halfLoaded.found.receive (image 17 (segment 3 1 6 4)) = imaged 17 (segment 3 1 6 4) ∧
      halfLoaded.found.receive (image 17 (segment 2 0 6 4)) = imaged 17 (segment 2 0 6 4) ∧
      ((halfLoaded.found.hear 17).chan 0).replica = .loading ∧
      (∀ sh ∈ ((halfLoaded.found.hear 17).chan 0).shadow,
        sh.imageId = 6 ∧ sh.count = 2 ∧ (∀ x ∈ sh.segments, x.1 ≠ 1) ∧ ∃ x ∈ sh.segments, x.1 = 0) ∧
      ((halfLoaded.found.hear 17).chan 0).shadow.isSome = true) ∧
    (∀ e ∈ station.repl.parked, e.chan ≠ 0) := by decide +kernel

/-- The station with the requests given in its image service, and class 2 full or empty. -/
def serving (q : List (Addr × Chan)) (full : Bool) : State :=
  (station.setRepl fun r => { r with service := q }).setLine fun l =>
    { l with q2 := if full then List.replicate 16 ⟨.image 9 0 4 1 9 0 2 0 [], false⟩ else [] }

/-- The image of channel 1 being served to station 9, all its `count` segments queued but those from `next` on. -/
def midImage (count next : Nat) : State :=
  (serving [(9, 0)] false).setRepl fun r => { r with serving := some ⟨1, 4, 9, count, next⟩ }

theorem meets_ImagesAreServedWhole :
    (station.found.receive (heard 9 0 .imagereq [1]) = .deliver 9 0 (.imagereq 1) ∧
      station.found.receive (heard 9 3 .imagereq [33]) = .deliver 9 3 (.imagereq 33) ∧
      chanOf (33 : Byte).toNat = none ∧
      station.found.receive (heard 9 3 .imagereq [2]) = .deliver 9 3 (.imagereq 2) ∧
      chanOf (2 : Byte).toNat = some 1 ∧ ((station.found.hear 9).chan 1).watched = false ∧
      station.found.receive (heard 9 3 .imagereq [1]) = .deliver 9 3 (.imagereq 1) ∧
      chanOf (1 : Byte).toNat = some 0 ∧ ((station.found.hear 9).chan 0).watched = true ∧
      ((station.found.hear 9).chan 0).replica = .current) ∧
    (((serving [(9, 0)] false).found.hear 9).repl.service = [(9, 0)] ∧
      (serving [(9, 0)] false).found.receive (heard 9 3 .imagereq [1]) = .deliver 9 3 (.imagereq 1) ∧
      ((serving [(1, 0), (2, 0), (4, 0)] false).found.hear 9).repl.service.length = 3 ∧
      ((serving [(1, 0), (2, 0), (4, 0), (5, 0)] false).found.hear 9).repl.service.length = 4) ∧
    (serving [] true).found.hasRoom .two = false ∧
    (station.found.repl.zeroAnswers = [] ∧ station.found.repl.service = []) ∧
    ((station.setRepl fun r => { r with zeroAnswers := [(9, 33)] }).found.hasRoom .two = true ∧
      (station.setRepl fun r => { r with zeroAnswers := [(9, 33)] }).found.repl.zeroAnswers = [(9, 33)]) ∧
    (((serving [(9, 1)] false).found.chan 1).replica ≠ .current ∧
      (serving [(9, 1)] false).found.repl.service = [(9, 1)]) ∧
    ((midImage 1 0).found.hasRoom .two = true ∧ ((midImage 1 0).found.chan 0).replica = .current ∧
      (midImage 1 0).found.repl.serving = some ⟨1, 4, 9, 1, 0⟩ ∧
      (((midImage 1 0).found.chan 0).segments (midImage 1 0).found.rate)[0]? =
        some (2, channel.profile.bytes ++ channel.list.flatMap fun e => e.stated.bytes .rate25)) ∧
    ((serving [(9, 0)] false).found.repl.serving = none ∧
      ((serving [(9, 0)] false).found.chan 0).segments (serving [(9, 0)] false).found.rate =
        [(2, channel.profile.bytes ++ channel.list.flatMap fun e => e.stated.bytes .rate25)]) ∧
    ((sending (midImage 2 2) (.image 9 0 4 1 9 1 2 0 [])).found.sendingHead (fun m => decide (m.kind = .image)) =
        some (.image 9 0 4 1 9 1 2 0 []) ∧
      (sending (midImage 2 2) (.image 9 0 4 1 9 1 2 0 [])).found.repl.serving = some ⟨1, 4, 9, 2, 2⟩) ∧
    ((sending (midImage 2 1) (.image 9 0 4 1 9 0 2 0 [])).found.sendingHead (fun m => decide (m.kind = .image)) =
        some (.image 9 0 4 1 9 0 2 0 []) ∧
      ∀ sv ∈ (sending (midImage 2 1) (.image 9 0 4 1 9 0 2 0 [])).found.repl.serving,
        (1 : Nat) ≠ sv.imageId ∨ (0 : Nat) + 1 ≠ 2 ∨ sv.next ≠ sv.count) ∧
    (channel.profile.bytes.length ≤ 222 ∧ ∀ e ∈ channel.list, (e.stated.bytes .rate25).length ≤ 222) := by decide +kernel

/-! ### Witnesses: watching, probes and peers -/

/-- One AIRBEAT entry of channel 1, event 101 on air at offset 100, reported at frame `f` of day 100. -/
def beatEntry (main f : Nat) : RawBeat := ⟨1, 4, main, 101, 100, ⟨100, f⟩, 0, 0, ⟨0, 0⟩⟩

def airbeat (main f : Nat) : Reception :=
  heard 17 0 .airbeat (toBE 1 1 ++ toBE 1 1 ++ toBE 4 4 ++ toBE 1 main ++ toBE 4 101 ++ toBE 4 100 ++
    toBE 2 100 ++ toBE 3 f ++ toBE 1 0 ++ toBE 4 0 ++ toBE 5 0)

theorem meets_BeatsAreRecordedAndAnchored :
    station.found.receive (airbeat 1 950) = .deliver 17 0 (.airbeat [beatEntry 1 950]) ∧
    (beatEntry 4 950).entry station.rate = none ∧
    (beatEntry 1 950).entry station.rate = some (0, ⟨4, .onAir, 101, 100, ⟨100, 950⟩, none⟩) ∧
    ((inChan fun ch => { ch with watched := false }).chan 0).watched = false ∧
    (station.time.timeState = .set ∧ (station.cfg.tb : Int) < Pos.diff .rate25 ⟨100, 949⟩ station.now ∧
      Pos.diff .rate25 ⟨100, 950⟩ station.now ≤ station.cfg.tb) ∧
    ((station.chan 0).watched = true ∧ station.watchRec 0 = some (WatchRec.opened ⟨100, 900⟩) ∧ 0 < station.cfg.tb) ∧
    ((station.chan 0).authority = .main ∧ (station.chan 0).epoch = 4 ∧ (station.chan 0).anchor = none ∧
      (findEvent 101 (station.chan 0).list).isSome = true) := by decide +kernel

/-- The station with relay 17 silent for `n` frames, a frame event open. -/
def relayQuiet (n : Nat) : State := opened (station.modPeer 17 fun p => { p with heard := true, link := .up, count := n })

theorem meets_RelayLinksDecideLinkDown :
    (station.found.receive (heard 20 0 .relaystate [2]) = .deliver 20 0 (.relaystate 2) ∧
      LinkState.ofCode 2 = some .down) ∧
    (station.found.receive (heard 20 0 .relaystate [3]) = .deliver 20 0 (.relaystate 3) ∧ LinkState.ofCode 3 = none) ∧
    ((relayQuiet 75).time.frameOpen = true ∧ 75 ≤ ((relayQuiet 75).atStep.peer 17).count) ∧
    ((relayQuiet 74).atStep.peer 17).count < 75 ∧
    station.watchRec 0 = some (WatchRec.opened ⟨100, 900⟩) := by decide +kernel

theorem meets_EvidenceFollowsBeatsAndVerdicts :
    (opened station).time.frameOpen = true ∧
    (station.found.receive (heard 16 0 .verdict [1, 6]) = .deliver 16 0 (.verdict 1 6) ∧ chanOf 1 = some 0 ∧
      Verdict.ofCode 6 = some .unknown ∧ ((station.found.hear 16).chan 0).watched = true) ∧
    (station.found.receive (heard 16 0 .verdict [33, 7]) = .deliver 16 0 (.verdict 33 7) ∧ chanOf 33 = none ∧
      Verdict.ofCode 7 = none) ∧
    (([⟨1, .dark, ⟨100, 900⟩⟩, ⟨2, .flat, ⟨100, 900⟩⟩, ⟨4, .nominal, ⟨100, 900⟩⟩, ⟨5, .unknown, ⟨100, 900⟩⟩] :
        List VerdictSource).length ≤ 4 ∧
      (([⟨1, .dark, ⟨100, 900⟩⟩, ⟨2, .flat, ⟨100, 900⟩⟩, ⟨4, .nominal, ⟨100, 900⟩⟩, ⟨5, .unknown, ⟨100, 900⟩⟩] :
        List VerdictSource).map VerdictSource.addr).Nodup) := by decide +kernel

/-- Evidence with the flags given, each held for `n` frames. -/
def evidence (lost fault bad unknown down siteHeld beating : Bool) (n : Nat) : Evidence :=
  { beatLost := ⟨lost, ⟨0, 0⟩, n⟩, mainFault := ⟨fault, ⟨0, 0⟩, n⟩, pictureBad := ⟨bad, ⟨0, 0⟩, n⟩,
    pictureUnknown := unknown, linkDown := down, nominal := false, siteHeld := siteHeld, beating := beating }

/-- The failure condition (d) holds from Tu = 125 frames on and not at 124, (c) from Tp = 250 on; link loss; no evidence;
and a recovery from Tr = 250 on. -/
theorem meets_HealthFollowsItsTables :
    (Settings.default.tu ≤ (evidence true false false true false false false 125).beatLost.duration ∧
      ¬(Settings.default.tu ≤ (evidence true false false true false false false 124).beatLost.duration)) ∧
    (Settings.default.tp ≤ (evidence false false true false false false false 250).pictureBad.duration ∧
      ¬(Settings.default.tp ≤ (evidence false false true false false false false 249).pictureBad.duration)) ∧
    ((evidence true false false true true false false 9).beatLost.value = true ∧
      (evidence true false false true true false false 9).linkDown = true ∧
      (evidence true false false true true false false 9).pictureBad.value = false) ∧
    ((evidence false false false true true true true 250).beatLost.value = false ∧
      Settings.default.tr ≤ (evidence false false false true true true true 250).mainFault.duration ∧
      (evidence false false false true true true true 250).siteHeld = true ∧
      (evidence false false false true true true true 250).beating = true) := by decide

/-- The station with probe 0 mapped to channel 1. -/
def probing (f : Probe → Probe) : State := station.modProbe 0 fun x => f { x with chan := some 0 }

/-- A profile that leaves the first `n` cells active. -/
def showing (n : Nat) : State :=
  (probing id).modChan 0 fun ch => { ch with profile := { ch.profile with mask := BitVec.ofNat 144 (2 ^ (144 - n) - 1) } }

theorem meets_GridsAreJudgedByTheRules :
    (State.reset.found.active = false ∧ (4 : Nat) ≤ 4 ∧ (List.replicate 143 (0 : Byte)).length ≠ 144 ∧
      (station.found.probe 3).chan = none) ∧
    ((probing id).found.active = true ∧ (List.replicate 144 (0 : Byte)).length = 144 ∧
      ((probing id).found.probe 0).chan = some 0) ∧
    (min 255 (((probing fun x => { x with lockLoss := 1 }).found.probe 0).lockLoss + 1) < 3 ∧
      3 ≤ min 255 (((probing fun x => { x with lockLoss := 2 }).found.probe 0).lockLoss + 1)) ∧
    ((activeCells ((showing 15).found.chan 0).profile (List.replicate 144 9)).length < 16 ∧
      16 ≤ (activeCells ((showing 16).found.chan 0).profile (List.replicate 144 9)).length) ∧
    (Probe.reset.reference = none ∧ { Probe.reset with reference := some logoCells }.reference = some logoCells ∧
      Profile.default.k ≤ 3 + 1 ∧ 2 + 1 < Profile.default.k) ∧
    (activeCells logoProfile logoCells ≠ [] ∧ ∀ v ∈ activeCells logoProfile logoCells, 16 ≤ v ∧ v ≤ 40) := by
  decide +kernel

/-- The station at an open frame event with probe 0 in the context given and class 1 holding `q`. -/
def probed (f : Probe → Probe) (q : List QEntry) : State := (opened (probing f)).setLine fun l => { l with q1 := q }

theorem meets_ProbesRepeatAndFallSilent :
    ((probed (fun x => { x with silence := 12 }) []).time.frameOpen = true ∧
      ((probed (fun x => { x with silence := 12 }) []).atStep.probe 0).chan = some 0 ∧
      12 ≤ ((probed (fun x => { x with silence := 12 }) []).atStep.probe 0).silence) ∧
    ((probed (fun x => { x with silence := 11 }) []).atStep.probe 0).silence < 12 ∧
    50 ≤ ((probed (fun x => { x with repeatTimer := 50 }) []).atStep.probe 0).repeatTimer ∧
    ((probed (fun x => { x with repeatTimer := 49 }) []).atStep.probe 0).repeatTimer < 50 ∧
    (((probed (fun x => { x with sendPending := true }) [⟨.verdict 0 .dark, false⟩]).atStep.probe 0).sendPending = true ∧
      (probed (fun x => { x with sendPending := true }) [⟨.verdict 0 .dark, false⟩]).atStep.waiting (State.isVerdictOf 0) =
        true) ∧
    ((probed (fun x => { x with sendPending := true }) []).atStep.waiting (State.isVerdictOf 0) = false ∧
      (probed (fun x => { x with sendPending := true }) []).atStep.hasRoom .one = true) ∧
    ((probed (fun x => { x with sendPending := true }) full1).atStep.waiting (State.isVerdictOf 0) = false ∧
      (probed (fun x => { x with sendPending := true }) full1).atStep.hasRoom .one = false) ∧
    ((probed id []).atStep.probe 0).sendPending = false := by decide +kernel

/-- The station at an open frame event, its BEACON `n` frames old and held or not. -/
def beaconing (n : Nat) (held : Bool) : State :=
  (opened station).setLine fun l => { l with beaconTimer := n, beaconHeld := held }

/-- A BEACON of station `src` with the state, time and reference codes given and no on-air entries. -/
def beaconOf (src st t r : Nat) : Reception := heard src 0 .beacon (toBE 1 st ++ toBE 1 t ++ toBE 1 r ++ toBE 8 0)

theorem meets_BeaconsAreOfferedAndJudged :
    ((beaconing 12 true).time.frameOpen = true ∧ (beaconing 12 true).atStep.active = true ∧
      12 ≤ (beaconing 12 true).atStep.line.beaconTimer ∧ (beaconing 12 true).atStep.line.beaconHeld = true) ∧
    ((beaconing 11 false).atStep.line.beaconTimer < 12 ∧ (beaconing 11 false).atStep.line.beaconHeld = false) ∧
    station.found.receive (beaconOf 16 4 2 1) = .deliver 16 0 (.beacon ⟨4, 2, 1, 0, 0, 0, 0, []⟩) ∧
    (station.found.receive (beaconOf 16 1 4 3) = .deliver 16 0 (.beacon ⟨1, 4, 3, 0, 0, 0, 0, []⟩) ∧
      TimeState.ofCode 4 = none ∧ RefState.ofCode 3 = none) ∧
    station.offerBeacon.line.beaconHeld = false ∧
    (siteHeld.view 0).holder = some 5 ∧
    ((station.view 0).holder = none ∧ 3 < (station.chan 0).epoch ∧ (station.chan 0).epoch ≤ 4) ∧
    ((5 : Addr) ≠ 6 ∧ (5 : Addr) ≠ siteHeld.me ∧ 4 ≤ (siteHeld.view 0).holderEpoch ∧
      (siteHeld.view 0).holderEpoch < 5) := by decide +kernel

/-! ### Witnesses: claims -/

/-- The station at an open frame event with station 5 silent for `n` frames and holding channel 1. -/
def peerQuiet (n : Nat) : State := opened (siteHeld.modPeer 5 fun p => { p with heard := true, present := true, count := n })

/-- Channel 1 DEFERRED to station 2, heard at frame `f`, a frame event open. -/
def deferred (f : Nat) : State :=
  opened (inView fun v => { v with contest := .deferred, rival := some ⟨2, ⟨false, 9⟩, ⟨100, f⟩⟩,
                                   ineligible := some ⟨100, f⟩ })

theorem meets_SilentPeersAndExclusionsRunOut :
    ((peerQuiet 36).time.frameOpen = true ∧ ((peerQuiet 36).atStep.peer 5).present = true ∧
      36 ≤ ((peerQuiet 36).atStep.peer 5).count ∧ ((peerQuiet 36).atStep.view 0).holder = some 5) ∧
    (((peerQuiet 35).atStep.peer 5).count < 36 ∧ ((peerQuiet 35).atStep.peer 16).present = false) ∧
    ((deferred 982).time.frameOpen = true ∧ ((deferred 982).atStep.view 0).contest = .deferred ∧
      ((deferred 982).atStep.view 0).holder = none ∧
      ((deferred 982).atStep.view 0).rival = some ⟨2, ⟨false, 9⟩, ⟨100, 982⟩⟩ ∧
      (((deferred 982).atStep.cfg.tw + 12 : Nat) : Int) ≤ Pos.diff .rate25 ⟨100, 982⟩ (deferred 982).atStep.now) ∧
    Pos.diff .rate25 ⟨100, 983⟩ (deferred 983).atStep.now < (((deferred 983).atStep.cfg.tw + 12 : Nat) : Int) ∧
    ((opened station).atStep.view 0).contest ≠ .deferred ∧
    (((deferred 1000).atStep.view 0).ineligible = some ⟨100, 1000⟩ ∧
      0 ≤ Pos.diff .rate25 ⟨100, 1000⟩ (deferred 1000).atStep.now) ∧
    (∀ p ∈ ((deferred 1001).atStep.view 0).ineligible, Pos.diff .rate25 p (deferred 1001).atStep.now < 0) := by
  decide +kernel

theorem meets_ClaimsAreComparedWhole :
    ((2 : Addr) ≠ 9 ∧ (1102 : Nat) ≠ 409) ∧ (WholeClaim.better ⟨9, ⟨false, 409⟩⟩ ⟨2, ⟨false, 1102⟩⟩ = true) ∧
    (WholeClaim.better ⟨9, ⟨true, 409⟩⟩ ⟨2, ⟨true, 1⟩⟩ = false) := by decide

/-- The FORCE TAKE of channel 1, or of channel 2. -/
def force (c : Nat) : Reception := asked 3 5 (toBE 1 c)

/-- The station as it hears a console's FORCE TAKE with a contest of channel 1 current and no slot FREE, or one. -/
def crowded (k : Nat) (current : Option Chan) : State :=
  { (inView fun v => { v with contest := .claiming, own := some ⟨false, 3⟩ }) with
      slots := Vector.ofFn fun n => { Slot.reset false with state := if n.val < k then .onAir else .free }
      claims := ⟨current, none, 0⟩ }

/-- The state in which a FORCE TAKE is judged. -/
def judged (s : State) : State := s.found.hear 21

theorem meets_ForceTakeStartsAForcedClaim :
    (station.found.receive (force 1) = .deliver 21 3 (.command 7 5 [1]) ∧
      readCommand 5 [1] = some (.forceTake 0) ∧ (3 : Addr) ≠ 0 ∧ (judged station).loader.releasePhase = none) ∧
    (station.found.receive (force 2) = .deliver 21 3 (.command 7 5 [2]) ∧
      readCommand 5 [2] = some (.forceTake 1) ∧ ¬((judged station).chan 1).watched = true) ∧
    (((judged station).chan 0).watched = true ∧ ¬((judged siteHeld).view 0).holder = none) ∧
    (((judged station).view 0).holder = none ∧ ¬((judged (wanting .stale)).chan 0).replica = .current) ∧
    (((judged station).chan 0).replica = .current ∧
      ¬(judged (station.setTime fun t => { t with timeState := .disputed })).time.timeState = .set) ∧
    ((judged station).time.timeState = .set ∧
      ¬(judged (station.setLoader fun l => { l with station := .degraded })).loader.station = .ready) ∧
    ((judged station).loader.station = .ready ∧ (judged station).firstFree ≠ none ∧
      (judged station).claims.current = none ∧ (judged station).hasRoom .zero = true) ∧
    ((judged (crowded 8 none)).firstFree = none ∧ (judged (crowded 8 none)).claims.current ≠ some 0) ∧
    ((judged (crowded 7 (some 1))).firstFree ≠ none ∧ (judged (crowded 7 (some 1))).claims.current = some 1 ∧
      (judged (crowded 7 (some 1))).claims.latch = none) ∧
    (judged (station.setLine fun l => { l with q0 := full0 })).hasRoom .zero = false ∧
    ((judged (crowded 1 (some 0))).claims.current = some 0 ∧
      ((judged (crowded 1 (some 0))).view 0).contest = .claiming ∧
      ((judged (crowded 1 (some 0))).view 0).own = some ⟨false, 3⟩) ∧
    ((judged (contest .taking)).claims.current = some 0 ∧ ((judged (contest .taking)).view 0).contest ≠ .claiming) ∧
    (station.firstFree = some 0 ∧ (crowded 7 none).firstFree = some 7) ∧
    ((contender 5 2).chan 10).profile.preference[0]? = some (contender 5 2).me ∧
    (contender 9 0).me ∉ ((contender 9 0).chan 10).profile.preference ∧
    (1 ≤ (contender 16 7).me ∧ (contender 16 7).me ≤ 16 ∧ ((contender 16 7).slot 7).state = .free) := by decide +kernel

/-- A TAKE of channel number `c` by station `src`. -/
def take (src c weight forced epoch : Nat) : Reception :=
  heard src 0 .take (toBE 1 c ++ toBE 2 weight ++ toBE 1 forced ++ toBE 4 epoch)

theorem meets_TakesAreJudgedAgainstTheView :
    (station.found.receive (take 5 33 9 2 5) = .deliver 5 0 (.take 33 9 2 5) ∧ chanOf 33 = none ∧ flagOf 2 = none) ∧
    (station.found.receive (take 5 1 9 0 4) = .deliver 5 0 (.take 1 9 0 4) ∧ chanOf 1 = some 0 ∧
      flagOf 0 = some false ∧
      judgeTake (station.found.hear 5).me ((station.found.hear 5).view 0) ((station.found.hear 5).chan 0).epoch 5 4
        ⟨false, 9⟩ = .accepted) ∧
    (station.found.receive (take 5 1 9 0 3) = .deliver 5 0 (.take 1 9 0 3) ∧
      judgeTake (station.found.hear 5).me ((station.found.hear 5).view 0) ((station.found.hear 5).chan 0).epoch 5 3
        ⟨false, 9⟩ = .notAccepted) ∧
    ((onAir id).found.receive (take 5 1 2 0 4) = .deliver 5 0 (.take 1 2 0 4) ∧
      judgeTake ((onAir id).found.hear 5).me (((onAir id).found.hear 5).view 0) (((onAir id).found.hear 5).chan 0).epoch
        5 4 ⟨false, 2⟩ = .duplicate) ∧
    ((station.view 0).holder = none ∧ (siteHeld.view 0).holder = some 5 ∧ (5 : Addr) ≠ 6) ∧
    ((station.chan 0).replica = .current ∧ (station.chan 0).shadow = none ∧ (station.chan 0).epoch = 4 ∧
      (station.chan 0).nextSeq ≠ 0 ∧ (5 : Nat) ≠ (station.chan 0).epoch) := by decide +kernel

/-- A CLAIM of channel number `c` by station `src`. -/
def claim (src c weight forced : Nat) : Reception := heard src 0 .claim (toBE 1 c ++ toBE 2 weight ++ toBE 1 forced)

/-- Channel 1 in the contest given, claimed by this station at weight 403 and, when DEFERRED, with rival 5 at 205. -/
def contested (x : Contest) : State :=
  (inView fun v => { v with contest := x, own := some ⟨false, 403⟩, serial := 6,
                            rival := some ⟨5, ⟨false, 205⟩, ⟨100, 990⟩⟩ }).setClaims fun k => { k with current := some 0 }

theorem meets_ClaimsHeardAndEchoedMoveTheContest :
    (station.found.receive (claim 5 0 205 2) = .deliver 5 0 (.claim 0 205 2) ∧ chanOf 0 = none ∧ flagOf 2 = none) ∧
    (station.found.receive (claim 5 2 205 0) = .deliver 5 0 (.claim 2 205 0) ∧ chanOf 2 = some 1 ∧
      ((station.found.hear 5).chan 1).watched = false) ∧
    (station.found.receive (claim 5 1 205 0) = .deliver 5 0 (.claim 1 205 0) ∧ chanOf 1 = some 0 ∧
      flagOf 0 = some false ∧ ((station.found.hear 5).chan 0).watched = true ∧
      (∀ x ∈ ((station.found.hear 5).view 0).exclusions, x.1 ≠ 5) ∧ ((station.found.hear 5).view 0).contest = .idle ∧
      ((station.found.hear 5).view 0).holder = none ∧ ((siteHeld.found.hear 5).view 0).holder ≠ none) ∧
    ((contested .claiming).found.receive (claim 5 1 205 0) = .deliver 5 0 (.claim 1 205 0) ∧
      (((contested .claiming).found.hear 5).view 0).contest = .claiming ∧
      (((contested .claiming).found.hear 5).view 0).own = some ⟨false, 403⟩ ∧
      WholeClaim.better ⟨5, ⟨false, 205⟩⟩ ⟨((contested .claiming).found.hear 5).me, ⟨false, 403⟩⟩ = true ∧
      WholeClaim.better ⟨5, ⟨false, 405⟩⟩ ⟨((contested .claiming).found.hear 5).me, ⟨false, 403⟩⟩ = false) ∧
    ((contested .deferred).found.receive (claim 2 1 202 0) = .deliver 2 0 (.claim 1 202 0) ∧
      (((contested .deferred).found.hear 2).view 0).contest = .deferred ∧
      (∀ old ∈ (((contested .deferred).found.hear 2).view 0).rival,
        WholeClaim.better ⟨2, ⟨false, 202⟩⟩ ⟨old.addr, old.claim⟩ = true ∧
          WholeClaim.better ⟨2, ⟨false, 302⟩⟩ ⟨old.addr, old.claim⟩ = false)) ∧
    (((contested .taking).found.hear 2).view 0).contest = .taking ∧
    ((sending (contested .claiming) (.claim 0 ⟨false, 403⟩ 6)).found.sendingHead (fun m => decide (m.kind = .claim)) =
        some (.claim 0 ⟨false, 403⟩ 6) ∧
      ((sending (contested .claiming) (.claim 0 ⟨false, 403⟩ 6)).found.leaveHead.view 0).contest = .claiming ∧
      ((sending (contested .claiming) (.claim 0 ⟨false, 403⟩ 6)).found.leaveHead.view 0).serial = 6) ∧
    ((sending (contested .claiming) (.claim 0 ⟨false, 403⟩ 5)).found.sendingHead (fun m => decide (m.kind = .claim)) =
        some (.claim 0 ⟨false, 403⟩ 5) ∧
      ((sending (contested .claiming) (.claim 0 ⟨false, 403⟩ 5)).found.leaveHead.view 0).serial ≠ 5) := by
  decide +kernel

/-- Channel 1 CLAIMING with its window at `w`, a frame event open, class 0 full or not. -/
def windowed (w : Nat) (full : Bool) : State :=
  ((opened (contested .claiming)).modView 0 fun v => { v with window := some w }).setLine fun l =>
    { l with q0 := if full then full0 else [] }

/-- The station with a latch on channel `c`, a frame event open, class 0 full or not. -/
def latched (c : Chan) (full : Bool) : State :=
  ((opened station).setClaims fun k => { k with latch := some c }).setLine fun l =>
    { l with q0 := if full then full0 else [] }

theorem meets_WindowsAndLatchRunOut :
    ((windowed 6 false).time.frameOpen = true ∧ (windowed 6 false).atStep.claims.current = some 0 ∧
      ((windowed 6 false).atStep.view 0).contest = .claiming ∧ ((windowed 6 false).atStep.view 0).window = some 6 ∧
      ((windowed 6 false).atStep.view 0).own = some ⟨false, 403⟩ ∧ (windowed 6 false).atStep.cfg.tw ≤ 6 ∧
      (windowed 6 false).atStep.offerCancels.hasRoom .zero = true) ∧
    (windowed 6 true).atStep.offerCancels.hasRoom .zero = false ∧
    5 < (windowed 5 false).atStep.cfg.tw ∧
    (opened station).atStep.claims.current = none ∧
    ((latched 0 false).atStep.claims.current = none ∧ (latched 0 false).atStep.loader.releasePhase = none ∧
      (latched 0 false).atStep.claims.latch = some 0 ∧ (latched 0 false).atStep.mayClaim 0 = true ∧
      (latched 0 false).atStep.hasRoom .zero = true) ∧
    ((latched 0 true).atStep.mayClaim 0 = true ∧ (latched 0 true).atStep.hasRoom .zero = false) ∧
    (latched 1 false).atStep.mayClaim 1 = false := by decide +kernel

/-- The station with the TAKE of channel 1 under `epoch` being sent, slot 0 reserved, in the contest given. -/
def takingAt (x : Contest) (epoch : Nat) : State :=
  sending ((contested x).modSlot 0 fun y => { y with state := .reserved, chan := some 0 }) (.take 0 ⟨false, 403⟩ epoch)

theorem meets_TakeEchoMakesTheHolder :
    ((takingAt .taking 5).found.sendingHead (fun m => decide (m.kind = .take)) = some (.take 0 ⟨false, 403⟩ 5) ∧
      ((takingAt .taking 5).found.leaveHead.view 0).contest = .taking ∧
      judgeTake (takingAt .taking 5).found.leaveHead.me ((takingAt .taking 5).found.leaveHead.view 0)
        ((takingAt .taking 5).found.leaveHead.chan 0).epoch (takingAt .taking 5).found.leaveHead.me 5 ⟨false, 403⟩ =
          .accepted ∧
      ((takingAt .taking 5).found.leaveHead.slot 0).state = .reserved ∧
      ((takingAt .taking 5).found.leaveHead.slot 0).chan = some 0) ∧
    ((takingAt .taking 3).found.sendingHead (fun m => decide (m.kind = .take)) = some (.take 0 ⟨false, 403⟩ 3) ∧
      judgeTake (takingAt .taking 3).found.leaveHead.me ((takingAt .taking 3).found.leaveHead.view 0)
        ((takingAt .taking 3).found.leaveHead.chan 0).epoch (takingAt .taking 3).found.leaveHead.me 3 ⟨false, 403⟩ ≠
          .accepted) ∧
    ((takingAt .deferred 5).found.leaveHead.view 0).contest ≠ .taking := by decide +kernel

/-! ### Witnesses: joins and cues -/

theorem meets_JoinPlansFollowTheTable :
    ((unanchored.find? (Rec.covers .rate25 ⟨412, 1620000⟩)).map (fun e => e.derived.start) = some (some ⟨412, 1620000⟩) ∧
      (Pos.diff .rate25 ⟨412, 1620000⟩ ⟨412, 1620000⟩).toNat = 0) ∧
    ((unanchored.find? (Rec.covers .rate25 ⟨412, 1620003⟩)).map (fun e => e.derived.start) = some (some ⟨412, 1620000⟩) ∧
      (Pos.diff .rate25 ⟨412, 1620000⟩ ⟨412, 1620003⟩).toNat ≤ Settings.default.grace) ∧
    (Settings.default.grace < (Pos.diff .rate25 ⟨412, 1620000⟩ ⟨412, 1620004⟩).toNat ∧
      Pos.diff .rate25 ⟨412, 1621451⟩ ⟨412, 1621500⟩ < Settings.default.tailMargin ∧
      ¬(Pos.diff .rate25 ⟨412, 1621450⟩ ⟨412, 1621500⟩ < Settings.default.tailMargin)) ∧
    ((unanchored.find? (Rec.covers .rate25 ⟨412, 1621600⟩)).map (fun e => e.stated.join) = some .whole) ∧
    (unanchored.find? (Rec.covers .rate25 ⟨412, 1619999⟩) = none ∧
      (unanchored.find? (Rec.startsAfter .rate25 ⟨412, 1619999⟩)).isSome = true) ∧
    (unanchored.find? (Rec.covers .rate25 ⟨412, 1666500⟩) = none ∧
      unanchored.find? (Rec.startsAfter .rate25 ⟨412, 1666500⟩) = none) := by decide +kernel

/-- A plan of event 101 at join point `j`. -/
def planAt (j : Nat) (source : Source) (material : Option Nat) : Plan :=
  ⟨.mid, .unanchored, ⟨100, j⟩, some 101, 100, source, material, some ⟨100, 900⟩, none⟩

/-- Slot 0 JOINING channel 1 with that plan, its first two steps done, a frame event open. -/
def joining (p : Plan) (owed : Bool) : State :=
  opened (inSlot fun x => { x with state := .joining, chan := some 0, epoch := some 5, join := some p, joinOwed := owed,
                                   stepsDone := 2 })

theorem meets_JoinCuesAreIssuedAndFired :
    ((joining (planAt 1001 (.live 7) none) false).time.frameOpen = true ∧
      ((joining (planAt 1001 (.live 7) none) false).atStep.slot 0).stepsDone = 2 ∧
      ((joining (planAt 1001 (.live 7) none) false).atStep.slot 0).state = .joining ∧
      ((joining (planAt 1001 (.live 7) none) false).atStep.slot 0).chan = some 0 ∧
      ((joining (planAt 1001 (.live 7) none) false).atStep.slot 0).join = some (planAt 1001 (.live 7) none) ∧
      (joining (planAt 1001 (.live 7) none) false).atStep.reached ⟨100, 1001⟩ = false ∧
      ((joining (planAt 1001 (.live 7) none) false).atStep.slot 0).joinOwed = false) ∧
    ((joining (planAt 1001 (.clip [65] 0) (some 100)) true).atStep.reached ⟨100, 1001⟩ = false ∧
      ((joining (planAt 1001 (.clip [65] 0) (some 100)) true).atStep.slot 0).joinOwed = true) ∧
    (((joining (planAt 1001 (.live 7) none) true).atStep.slot 0).joinOwed = true ∧
      (planAt 1001 (.live 7) none).material = none) ∧
    ((joining (planAt 1000 (.live 7) none) true).atStep.reached ⟨100, 1000⟩ = true) ∧
    (((onAir id).slot 0).chan = some 0 ∧ (planAt 1000 (.live 7) none).event = some (record 0 101 900).stated.id ∧
      findEvent (record 0 101 900).stated.id ((onAir id).chan 0).list = some (record 0 101 900) ∧
      (planAt 1000 (.live 7) none).actual = some ⟨100, 900⟩ ∧ (record 0 101 900).stated.lockKey = none) ∧
    (none : Option Nat).bind (fun k => findEvent k ((onAir id).chan 0).list) = none := by decide +kernel

/-- Slot 0 ON AIR with an armed cue of event `e` due at frame `f`, `k` of its steps done, a frame event open. -/
def armedAt (e f k : Nat) : State :=
  opened (onAir fun x => { x with armed := some ⟨e, ⟨100, f⟩, ⟨100, 950⟩, 0, false, [], false⟩, stepsDone := k })

/-- Slot 0 ON AIR with nothing armed, `k` of its steps done, a frame event open. -/
def bare (k : Nat) (f : Slot → Slot) : State := opened (onAir fun x => f { x with stepsDone := k })

theorem meets_ArmedCuesFire :
    ((bare 2 id).time.frameOpen = true ∧ ((bare 2 id).atStep.slot 0).stepsDone = 2 ∧
      ((bare 2 id).atStep.slot 0).state = .onAir ∧ ((bare 2 id).atStep.slot 0).chan = some 0 ∧
      ((bare 2 id).atStep.slot 0).handback = none ∧ ((bare 2 id).atStep.slot 0).armed = none) ∧
    (((armedAt 102 1001 2).atStep.slot 0).armed = some ⟨102, ⟨100, 1001⟩, ⟨100, 950⟩, 0, false, [], false⟩ ∧
      (armedAt 102 1001 2).atStep.reached ⟨100, 1001⟩ = false) ∧
    (((armedAt 102 1000 2).atStep.slot 0).armed = some ⟨102, ⟨100, 1000⟩, ⟨100, 950⟩, 0, false, [], false⟩ ∧
      (armedAt 102 1000 2).atStep.reached ⟨100, 1000⟩ = true ∧
      findEvent 102 ((armedAt 102 1000 2).atStep.chan 0).list = some (record 1 102 1400) ∧
      (record 1 102 1400).stated.lockKey = none) ∧
    ((armedAt 103 1000 2).atStep.reached ⟨100, 1000⟩ = true ∧
      findEvent 103 ((armedAt 103 1000 2).atStep.chan 0).list = none) ∧
    ((onAir id).slot 0).chan = some 0 := by decide +kernel

/-- The current cue ending at frame `f`. -/
def ending (f : Nat) : Slot → Slot := fun x => { x with cur := some { cue with cueEnd := some ⟨100, f⟩ } }

/-- The slot at step 9 with the next event `d` frames ahead. -/
def nextIn (d : Nat) : State :=
  (bare 8 id).modChan 0 fun ch => { ch with list := [record 0 101 900, record 1 102 (1000 + d)] }

theorem meets_CuesAreArmedLockedAndFilled :
    ((bare 1 id).time.frameOpen = true ∧ ((bare 1 id).atStep.slot 0).state.holds = true ∧
      ((bare 1 id).atStep.slot 0).stepsDone = 1 ∧ ((bare 1 id).atStep.slot 0).armed = none) ∧
    (((armedAt 102 1009 1).atStep.slot 0).armed = some ⟨102, ⟨100, 1009⟩, ⟨100, 950⟩, 0, false, [], false⟩ ∧
      (armedAt 102 1009 1).atStep.reached (Pos.sub .rate25 ⟨100, 1009⟩ (armedAt 102 1009 1).atStep.cfg.lockLead) = false ∧
      (armedAt 102 1008 1).atStep.reached (Pos.sub .rate25 ⟨100, 1008⟩ (armedAt 102 1008 1).atStep.cfg.lockLead) = true) ∧
    (((bare 5 (ending 1000)).atStep.slot 0).cur = some { cue with cueEnd := some ⟨100, 1000⟩ } ∧
      ((bare 5 (ending 1000)).atStep.slot 0).owedFill = none ∧ ((bare 5 (ending 1000)).atStep.slot 0).fired = false ∧
      ((bare 5 (ending 1000)).atStep.slot 0).armed = none ∧ (bare 5 (ending 1000)).atStep.reached ⟨100, 1000⟩ = true) ∧
    (bare 5 (ending 1001)).atStep.reached ⟨100, 1001⟩ = false ∧
    ((nextIn 51).atStep.candidate 0 = some (record 1 102 1051, ⟨100, 1051⟩, []) ∧
      (nextIn 51).atStep.withinArmLead ⟨100, 1051⟩ = false) ∧
    ((nextIn 50).atStep.candidate 0 = some (record 1 102 1050, ⟨100, 1050⟩, []) ∧
      ((nextIn 50).atStep.slot 0).stepsDone = 8 ∧ ((nextIn 50).atStep.slot 0).armed = none ∧
      findEvent 102 ((nextIn 50).atStep.chan 0).list = some (record 1 102 1050) ∧
      (nextIn 50).atStep.withinArmLead ⟨100, 1050⟩ = true ∧
      Pos.before .rate25 ⟨100, 1050⟩ (Pos.add .rate25 (nextIn 50).atStep.now (nextIn 50).atStep.cfg.lockLead) = false) ∧
    ((nextIn 7).atStep.candidate 0 = some (record 1 102 1007, ⟨100, 1007⟩, []) ∧
      Pos.before .rate25 ⟨100, 1007⟩ (Pos.add .rate25 (nextIn 7).atStep.now (nextIn 7).atStep.cfg.lockLead) = true) := by
  decide +kernel

/-- An occurrence due at frame `f`. -/
def occ (f : Nat) (a : SecAction) : Occ := ⟨⟨100, f⟩, 2, a, 0, 0⟩

theorem meets_LinesFollowTheirOccurrences :
    ((bare 0 id).time.frameOpen = true ∧ ((bare 0 id).atStep.slot 0).state.holds = true ∧
      ((bare 0 id).atStep.slot 0).stepsDone = 0) ∧
    (((bare 7 fun x => { x with pending := [occ 1000 .pulse] }).atStep.slot 0).stepsDone = 7 ∧
      ((bare 7 fun x => { x with pending := [occ 1000 .pulse] }).atStep.slot 0).pending = [occ 1000 .pulse] ∧
      (bare 7 fun x => { x with pending := [occ 1000 .pulse] }).atStep.reached (occ 1000 .pulse).due = true) ∧
    (((bare 7 fun x => { x with pending := [occ 1001 .toggle] }).atStep.slot 0).pending = [occ 1001 .toggle] ∧
      (bare 7 fun x => { x with pending := [occ 1001 .toggle] }).atStep.reached (occ 1001 .toggle).due = false) := by
  decide +kernel

/-- A CLIP cue, its material at position 5, with the end given. -/
def clip (e : Option Pos) : Cue := ⟨some 101, .clip [65] 5, ⟨100, 900⟩, ⟨100, 900⟩, some 5, e, ⟨100, 900⟩, []⟩

/-- Slot 0 with a CLIP on air and `k` steps done. -/
def clipAt (k : Nat) (e : Option Pos) (f : Slot → Slot) : State := bare k fun x => f { x with cur := some (clip e) }

/-- A server fault found before the open frame event. -/
def faulty (restarts : Nat) (e : Option Pos) : State :=
  clipAt 4 e fun x => { x with faultPending := true, faultDue := true, restarts := restarts }

/-- A CLIP on air with a confirm window of W = 4 open to frame `f`, `k` frame events after its PLAY, the tally as
given. -/
def watching (f k : Nat) (high : Bool) : State :=
  clipAt 6 none fun x =>
    { x with expectedBy := some ⟨100, f⟩, sincePlay := k, tally := high, highSincePlay := high }

/-- Section 8.10.2 with no mark inside the window: at the W-th frame event after the PLAY, which carries the expected-by
position, the window is over, and one frame event before it is not. -/
theorem test_confirm_window_runs_out :
    (watching 1000 4 false).windowOver 0 ⟨100, 1000⟩ = true ∧ (watching 1001 3 false).windowOver 0 ⟨100, 1001⟩ = false :=
  by decide +kernel

/-- With a position skipped inside the window the expected-by position is reached one frame event early, and which of
R13 and R159 holds then is free (log 28). -/
theorem test_confirm_window_is_free_after_a_skip :
    (watching 1000 3 false).windowOver 0 ⟨100, 1000⟩ = !Config.confirmByCount := by
  have count : decide ((watching 1000 3 false).cfg.confirm ≤ ((watching 1000 3 false).slot 0).sincePlay) = false := by
    decide +kernel
  have position : (watching 1000 3 false).reached ⟨100, 1000⟩ = true := by decide +kernel
  rw [State.windowOver_eq, count, position]
  cases Config.confirmByCount <;> rfl

theorem meets_ServerFaultsRestartOrFallBack :
    (((bare 3 fun x => { x with restartPlay := some ⟨100, 1000⟩ }).atStep.slot 0).restartPlay = some ⟨100, 1000⟩ ∧
      (bare 3 fun x => { x with restartPlay := some ⟨100, 1000⟩ }).atStep.reached ⟨100, 1000⟩ = true ∧
      (bare 3 fun x => { x with restartPlay := some ⟨100, 1001⟩ }).atStep.reached ⟨100, 1001⟩ = false) ∧
    (((bare 3 id).atStep.slot 0).stepsDone = 3 ∧ ((bare 3 id).atStep.slot 0).restartPlay = none) ∧
    (((bare 4 id).atStep.slot 0).stepsDone = 4 ∧ ((bare 4 id).atStep.slot 0).faultPending = false) ∧
    (((faulty 0 (some ⟨100, 1009⟩)).atStep.slot 0).faultPending = true ∧
      ((faulty 0 (some ⟨100, 1009⟩)).atStep.slot 0).faultDue = true ∧
      ((faulty 0 (some ⟨100, 1009⟩)).atStep.slot 0).chan = some 0 ∧
      ((faulty 0 (some ⟨100, 1009⟩)).atStep.slot 0).cur = some (clip (some ⟨100, 1009⟩)) ∧
      Pos.before .rate25 (Pos.add .rate25 (faulty 0 (some ⟨100, 1009⟩)).atStep.now 8) ⟨100, 1009⟩ = true ∧
      ((faulty 0 (some ⟨100, 1009⟩)).atStep.slot 0).armed = none) ∧
    (Pos.before .rate25 (Pos.add .rate25 (faulty 0 (some ⟨100, 1008⟩)).atStep.now 8) ⟨100, 1008⟩ = false ∧
      ((faulty 1 none).atStep.slot 0).restarts ≠ 0) ∧
    (((watching 1000 4 true).atStep.slot 0).expectedBy = some ⟨100, 1000⟩ ∧
      ((watching 1000 4 true).atStep.slot 0).highSincePlay = true ∧ ((watching 1000 4 true).atStep.slot 0).tally = true ∧
      ((watching 1000 4 false).atStep.slot 0).tally = false ∧
      (watching 1000 4 true).atStep.windowOver 0 ⟨100, 1000⟩ = true ∧
      (watching 1001 3 true).atStep.windowOver 0 ⟨100, 1001⟩ = false ∧
      ((clipAt 6 none id).atStep.slot 0).state ≠ .fallback) ∧
    (((bare 6 fun x => { x with state := .fallback, fallbackSince := some ⟨100, 750⟩ }).atStep.slot 0).state = .fallback ∧
      ((bare 6 fun x => { x with state := .fallback, fallbackSince := some ⟨100, 750⟩ }).atStep.slot 0).fallbackSince =
        some ⟨100, 750⟩ ∧
      ((bare 6 fun x => { x with state := .fallback }).atStep.slot 0).expectedBy = none ∧
      (((bare 6 id).atStep.cfg.tp : Int) ≤ Pos.diff .rate25 ⟨100, 750⟩ (bare 6 id).atStep.now) ∧
      Pos.diff .rate25 ⟨100, 751⟩ (bare 6 id).atStep.now < (bare 6 id).atStep.cfg.tp) := by decide +kernel

/-- A handback plan of event 102 with its boundary at frame `f`. -/
def plan (f : Nat) (sent committed : Bool) : HandbackPlan := ⟨102, ⟨100, f⟩, 5, sent, committed⟩

/-- Slot 0 with that plan, the main site prepared for it or not. -/
def handingBack (h : HandbackPlan) (prepared : Bool) : State :=
  (bare 2 fun x => { x with handback := some h }).modWatch 0 fun w =>
    { w with lastBeat := some ⟨4, .standby, 101, 0, ⟨100, 990⟩,
      if prepared then some (h.event, h.boundary) else none⟩ }

theorem meets_HandbacksCommitOrAbort :
    ((handingBack (plan 1009 true false) true).time.frameOpen = true ∧
      ((handingBack (plan 1009 true false) true).atStep.slot 0).stepsDone = 2 ∧
      ((handingBack (plan 1009 true false) true).atStep.slot 0).state = .onAir ∧
      ((handingBack (plan 1009 true false) true).atStep.slot 0).chan = some 0 ∧
      ((handingBack (plan 1009 true false) true).atStep.slot 0).handback = some (plan 1009 true false) ∧
      ((handingBack (plan 1009 true false) true).atStep.slot 0).armed = none ∧
      (handingBack (plan 1009 true false) true).atStep.reached (Pos.sub .rate25 ⟨100, 1009⟩ 8) = false) ∧
    (((handingBack (plan 1008 true false) true).atStep.slot 0).handback = some (plan 1008 true false) ∧
      (handingBack (plan 1008 true false) true).atStep.reached (Pos.sub .rate25 ⟨100, 1008⟩ 8) = true ∧
      (handingBack (plan 1008 true false) true).atStep.reached ⟨100, 1008⟩ = false ∧
      (handingBack (plan 1008 true false) true).atStep.beatsFresh 0 = true ∧
      ((handingBack (plan 1008 true false) true).atStep.watchRec 0).bind (fun w => w.lastBeat.map BeatEntry.prepared) =
        some (some (102, ⟨100, 1008⟩))) ∧
    (((handingBack (plan 1008 true false) false).atStep.watchRec 0).bind (fun w => w.lastBeat.map BeatEntry.prepared) =
        some none ∧ (plan 1008 false false).noticeSent = false) ∧
    (((handingBack (plan 1000 true true) true).atStep.slot 0).handback = some (plan 1000 true true) ∧
      (handingBack (plan 1000 true true) true).atStep.reached ⟨100, 1000⟩ = true) ∧
    ((plan 1001 true true).committed = true ∧
      (handingBack (plan 1001 true true) true).atStep.reached ⟨100, 1001⟩ = false) := by decide +kernel

/-- A CLIP on air between frame events. -/
def playing (f : Slot → Slot) : State := onAir fun x => f { x with cur := some (clip (some ⟨100, 1002⟩)), firedSeq := some 0 }

theorem meets_TallyEdgesConfirmOrFault :
    (((playing fun x => { x with expectedBy := some ⟨100, 1003⟩ }).found.slot 0).cur = some (clip (some ⟨100, 1002⟩)) ∧
      ((playing fun x => { x with expectedBy := some ⟨100, 1003⟩ }).found.slot 0).tally = false ∧
      (clip none).source.isClip = true ∧ (clip none).event.isSome = true ∧
      ((playing fun x => { x with expectedBy := some ⟨100, 1003⟩ }).found.slot 0).expectedBy.isSome = true) ∧
    (((playing id).found.slot 0).expectedBy = none ∧ (station.found.slot 0).cur = none) ∧
    (((playing fun x => { x with tally := true, confirmed := true }).found.slot 0).tally = true ∧
      ((playing fun x => { x with tally := true, confirmed := true }).found.slot 0).confirmed = true ∧
      ((playing fun x => { x with tally := true, confirmed := true }).found.slot 0).restartPlay = none ∧
      Pos.before .rate25 (playing id).found.now (Pos.sub .rate25 ⟨100, 1002⟩ 1) = true ∧
      Pos.before .rate25 (playing id).found.now (Pos.sub .rate25 ⟨100, 1001⟩ 1) = false) ∧
    ((playing id).found.slot 0).tally = false ∧ ((playing id).found.slot 0).firedSeq = some 0 ∧
    (((playing fun x => { x with state := .fallback }).found.slot 0).state = .fallback ∧
      ((playing id).found.slot 0).state ≠ .fallback) := by decide +kernel

/-- Slot 0 ON AIR with an operator's release handed to it. -/
def releasing (k : Nat) : State := bare k fun x => { x with releasePending := some .operator }

/-- Slot 0 ON AIR with a pending duplicate for its channel. -/
def duplicated : State := (onAir id).modView 0 fun v => { v with duplicate := some ⟨5, 5, none⟩ }

theorem meets_ReleasesAreTakenWhole :
    ((bare 0 id).time.frameOpen = true ∧ (bare 0 id).atStep.dueRelease 0 = none) ∧
    ((releasing 0).atStep.dueRelease 0 = some .operator ∧ ((releasing 0).atStep.slot 0).stepsDone = 0) ∧
    ((releasing 1).atStep.dueRelease 0 = some .operator ∧ ((releasing 1).atStep.slot 0).stepsDone ≠ 0) ∧
    (station.slot 0).state.holds = false ∧
    (((releasing 0).slot 0).state.holds = true ∧ ((releasing 0).slot 0).releasePending = some .operator) ∧
    ((duplicated.slot 0).state.holds = true ∧ (duplicated.slot 0).releasePending = none ∧
      (duplicated.slot 0).chan = some 0 ∧ (duplicated.view 0).duplicate = some ⟨5, 5, none⟩) ∧
    ((handingBack (plan 1000 true true) true).slot 0).handback = some (plan 1000 true true) := by decide +kernel

/-! ### Witnesses: the line -/

/-- The station holding channel 1 whose HANDOVER `m` is being sent, with the handback plan given. -/
def noticing (m : OutMsg) : State := sending (onAir fun x => { x with handback := some (plan 1400 false false) }) m

theorem meets_ReleasesAndHandoversWaitForRoom :
    (opened station).time.frameOpen = true ∧
    (∀ m ∈ (phaseAt 1 .free true).line.outbox, m.cls = .zero) ∧ (∀ m ∈ station.line.cancels, m.cls = .zero) ∧
    (sending station (.release 0 .operator ⟨100, 900⟩ none false)).found.sendingHead
      (fun m => decide (m.kind = .release)) = some (.release 0 .operator ⟨100, 900⟩ none false) ∧
    ((noticing (.handover 0 102 ⟨100, 1400⟩ 5 false)).found.sendingHead (fun m => decide (m.kind = .handover)) =
        some (.handover 0 102 ⟨100, 1400⟩ 5 false) ∧
      (noticing (.handover 0 102 ⟨100, 1400⟩ 5 false)).found.leaveHead.holdingSlot 0 = some 0 ∧
      ((noticing (.handover 0 102 ⟨100, 1400⟩ 5 false)).found.leaveHead.slot 0).handback = some (plan 1400 false false)) ∧
    ((noticing (.handover 0 102 ⟨100, 1500⟩ 5 false)).found.sendingHead (fun m => decide (m.kind = .handover)) =
        some (.handover 0 102 ⟨100, 1500⟩ 5 false) ∧ (plan 1400 false false).boundary ≠ ⟨100, 1500⟩) ∧
    ((noticing (.handover 0 102 ⟨100, 1400⟩ 5 true)).found.sendingHead (fun m => decide (m.kind = .handover)) =
        some (.handover 0 102 ⟨100, 1400⟩ 5 true) ∧
      (sending station (.handover 0 102 ⟨100, 1400⟩ 5 false)).found.leaveHead.holdingSlot 0 = none) ∧
    station.found.receive (heard 5 0 .handover (toBE 1 1 ++ toBE 4 102 ++ toBE 2 100 ++ toBE 3 1400 ++ toBE 4 5 ++ toBE 1 0)) =
      .deliver 5 0 (.handover 1 102 ⟨100, 1400⟩ 5 0) := by decide +kernel

/-- A RELEASE of channel number `c` by station `src`. -/
def release (src c reason present ret : Nat) : Reception :=
  heard src 0 .release (toBE 1 c ++ toBE 1 reason ++ toBE 2 100 ++ toBE 3 990 ++ toBE 1 present ++ toBE 4 ret)

theorem meets_ReleasesHeardAreJudged :
    (station.found.receive (release 5 33 6 2 5) = .deliver 5 0 (.release 33 6 ⟨100, 990⟩ 2 5) ∧ chanOf 33 = none ∧
      ReleaseReason.ofCode 6 = none ∧ flagOf 2 = none) ∧
    (station.found.receive (release 5 1 1 0 0) = .deliver 5 0 (.release 1 1 ⟨100, 990⟩ 0 0) ∧
      ReleaseReason.ofCode 1 = some .handback ∧ flagOf 0 = some false) ∧
    (siteHeld.found.receive (release 5 1 3 0 0) = .deliver 5 0 (.release 1 3 ⟨100, 990⟩ 0 0) ∧ chanOf 1 = some 0 ∧
      ReleaseReason.ofCode 3 = some .operator ∧ ((siteHeld.found.hear 5).view 0).holder = some 5) ∧
    (siteHeld.found.receive (release 5 1 1 1 5) = .deliver 5 0 (.release 1 1 ⟨100, 990⟩ 1 5) ∧
      flagOf 1 = some true ∧ ((siteHeld.found.hear 5).chan 0).epoch < 5) ∧
    (station.found.receive (release 5 1 1 1 5) = .deliver 5 0 (.release 1 1 ⟨100, 990⟩ 1 5) ∧
      ((station.found.hear 5).view 0).holder = none ∧ ((station.found.hear 5).chan 0).epoch < 5) ∧
    (siteHeld.found.receive (release 6 1 1 1 5) = .deliver 6 0 (.release 1 1 ⟨100, 990⟩ 1 5) ∧
      ((siteHeld.found.hear 6).view 0).holder ≠ some 6 ∧ ((siteHeld.found.hear 6).view 0).holder ≠ none) ∧
    ((station.chan 0).replica ≠ .empty ∧ (station.chan 1).replica = .empty ∧ (1 : Chan) ≠ 0) ∧
    station.watchRec 0 = some (WatchRec.opened ⟨100, 900⟩) := by decide +kernel

/-- The station with the three queues given, the line idle, and the wait given. -/
def queued (a b c : List QEntry) (w : Option Wait) : State :=
  station.setLine fun l => { l with q0 := a, q1 := b, q2 := c, idle := true, wait := w }

theorem meets_TheLineIsGainedByWaits :
    ((queued full0 full1 [] none).found.offered = some .zero ∧ (queued [] full1 full1 none).found.offered = some .one ∧
      (queued [] [] full1 none).found.offered = some .two ∧ (queued [] [] [] none).found.offered = none) ∧
    ((queued [] full1 [] none).found.active = true ∧ (queued [] full1 [] none).found.line.wait = none ∧
      (queued [] full1 [] none).found.line.sending = none) ∧
    (State.reset.found.active = false ∧ State.reset.found.line.idle = false) ∧
    ((queued full0 [] [] (some ⟨.zero, 11⟩)).found.active = true ∧
      (queued full0 [] [] (some ⟨.zero, 11⟩)).found.line.idle = true ∧
      (queued full0 [] [] (some ⟨.zero, 11⟩)).found.line.wait = some ⟨.zero, 11⟩ ∧
      (queued full0 [] [] (some ⟨.zero, 11⟩)).found.queue .zero = ⟨.take 1 ⟨false, 3⟩ 1, false⟩ :: full0.drop 1) ∧
    ((sending station .beacon).found.sendingHead (fun m => m.kind ∈ [.edit, .beacon, .verdict, .reply]) = some .beacon ∧
      (sending station .beacon).found.line.sending = some .one) := by decide +kernel

theorem meets_MessagesSentAreReadBack :
    ((station.payload (.claim 0 ⟨false, 403⟩ 1)).length ≤ 240 ∧ station.me < 256 ∧
      (OutMsg.claim 0 ⟨false, 403⟩ 1).dst < 256) ∧
    ((station.payload (.reply 21 7 .done 0 1 (List.replicate 235 0))).length = 240 ∧
      (OutMsg.reply 21 7 .done 0 1 (List.replicate 235 0)).dst < 256) := by decide +kernel

/-! ### Witnesses: console commands -/

/-- The log of 9 entries whose numbers end at the top of the ring, and the next sequence number. -/
def logged : State :=
  { station with
      log := (List.range 9).map fun i =>
        ⟨4294967287 + i, ⟨100, i⟩, .fired, none, none, none, none, none, none⟩
      logNext := 0 }

/-- A read of `s` from `start`: its distance below the next sequence number. -/
def back (s : State) (start : Nat) : Nat := (s.logNext + (4294967296 - start)) % 4294967296

theorem meets_QueriesAnswerWithTheirItems :
    ((3 : Addr) ≠ 0 ∧ (judged station).loader.releasePhase = none) ∧
    (station.found.receive (asked 3 1 []) = .deliver 21 3 (.command 7 1 []) ∧
      readCommand 1 [] = some .queryStation) ∧
    (station.found.receive (asked 3 2 [1]) = .deliver 21 3 (.command 7 2 [1]) ∧
      readCommand 2 [1] = some (.queryChannel 0) ∧ ((judged station).chan 0).watched = true ∧
      readCommand 2 [32] = some (.queryChannel 31) ∧ ((judged station).chan 31).watched = false) ∧
    (station.found.receive (asked 3 3 (toBE 1 1 ++ toBE 4 101 ++ toBE 1 6)) =
        .deliver 21 3 (.command 7 3 (toBE 1 1 ++ toBE 4 101 ++ toBE 1 6)) ∧
      readCommand 3 (toBE 1 1 ++ toBE 4 101 ++ toBE 1 6) = some (.queryList 0 101 6) ∧
      (findEvent 101 ((judged station).chan 0).list).isSome = true ∧
      findEvent 103 ((judged station).chan 0).list = none) ∧
    (station.found.receive (asked 3 4 (toBE 4 0 ++ toBE 1 8)) = .deliver 21 3 (.command 7 4 (toBE 4 0 ++ toBE 1 8)) ∧
      readCommand 4 (toBE 4 0 ++ toBE 1 8) = some (.queryAsrun 0 8)) ∧
    (∀ x ∈ [station.stationItem, station.probeItem 0], x.length ≤ 235) ∧
    (back logged 0 = 0 ∧ back logged 4294967295 = 1 ∧ back logged 4294967287 = logged.log.length ∧
      logged.log.length < back logged 4294967286) := by decide +kernel

/-- The log of the last clause is in its form. -/
theorem meets_QueriesAnswerWithTheirItems_log : logged.LogSound where
  short := by decide +kernel
  next := by decide +kernel
  fits := by decide +kernel
  rising := ⟨rfl, rfl, rfl, rfl, rfl, rfl, rfl, rfl, trivial⟩
  last := by rintro e ⟨⟩; rfl

theorem meets_CommandsAreJudgedInOrder :
    station.found.receive (heard 21 3 .command (toBE 2 7)) = .badLength 21 7 ∧
    (station.found.receive (asked 3 12 []) = .deliver 21 3 (.command 7 12 []) ∧ readCommand 12 [] = none) ∧
    (station.found.receive (asked 0 7 [1, 2]) = .deliver 21 0 (.command 7 7 [1, 2]) ∧ readCommand 7 [1, 2] = none) ∧
    (station.found.receive (asked 0 5 [33]) = .deliver 21 0 (.command 7 5 [33]) ∧ readCommand 5 [33] = none) ∧
    (station.found.receive (asked 0 5 [1]) = .deliver 21 0 (.command 7 5 [1]) ∧
      (readCommand 5 [1]).isSome = true) ∧
    ((phased station).found.receive (asked 0 7 [1, 1]) = .deliver 21 0 (.command 7 7 [1, 1]) ∧
      (readCommand 7 [1, 1]).isSome = true ∧ (judged (phased station)).loader.releasePhase ≠ none) ∧
    ((phased station).found.receive (asked 3 11 []) = .deliver 21 3 (.command 7 11 []) ∧
      (readCommand 11 []).isSome = true) := by decide +kernel

theorem meets_OperatorsReleaseAndInhibit :
    ((onAir id).found.receive (asked 3 6 [1]) = .deliver 21 3 (.command 7 6 [1]) ∧
      readCommand 6 [1] = some (.forceRelease 0) ∧ (judged (onAir id)).loader.releasePhase = none ∧
      ((judged (onAir id)).chan 0).watched = true ∧
      ((judged (onAir id)).view 0).holder = some (judged (onAir id)).me ∧
      (judged (onAir id)).holdingSlot 0 = some 0) ∧
    (station.found.receive (asked 3 6 [2]) = .deliver 21 3 (.command 7 6 [2]) ∧
      readCommand 6 [2] = some (.forceRelease 1) ∧ ((judged station).chan 1).watched = false) ∧
    (station.found.receive (asked 3 6 [1]) = .deliver 21 3 (.command 7 6 [1]) ∧
      (judged station).holdingSlot 0 = none) ∧
    (station.found.receive (asked 0 7 [1, 1]) = .deliver 21 0 (.command 7 7 [1, 1]) ∧
      readCommand 7 [1, 1] = some (.inhibit 0 true)) ∧
    (station.found.receive (asked 3 7 [32, 0]) = .deliver 21 3 (.command 7 7 [32, 0]) ∧
      station.found.receive (asked 0 7 [32, 0]) = .deliver 21 0 (.command 7 7 [32, 0]) ∧
      readCommand 7 [32, 0] = some (.inhibit 31 false) ∧ ((judged station).chan 31).watched = false) := by
  decide +kernel

/-- The station on air with its second event starting 250 or 249 frames ahead, and the operands of HANDBACK. -/
def nextAt (d : Nat) : State :=
  (onAir id).modChan 0 fun ch => { ch with list := [record 0 101 900, record 1 102 (1000 + d)] }

def boundary (mode id : Nat) : List Byte := toBE 1 1 ++ toBE 1 mode ++ toBE 4 id

/-- The station on air whose main site beats. -/
def beaten (s : State) : State :=
  s.modWatch 0 fun w => { w with lastBeat := some ⟨4, .standby, 101, 0, ⟨100, 990⟩, none⟩ }

theorem meets_NextAndHandbackAreJudgedInOrder :
    ((onAir id).found.receive (asked 3 8 [1]) = .deliver 21 3 (.command 7 8 [1]) ∧ (3 : Addr) ≠ 0 ∧
      readCommand 8 [1] = some (.next 0) ∧ (judged (onAir id)).holdingSlot 0 = some 0 ∧
      ((judged (onAir id)).view 0).holder = some (judged (onAir id)).me ∧
      ((judged (onAir id)).slot 0).state ≠ .joining ∧ ((judged (onAir id)).slot 0).handback = none ∧
      ((judged (onAir id)).slot 0).armed = none ∧
      (judged (onAir id)).nextEvent 0 = some (record 1 102 1400, [])) ∧
    (station.found.receive (asked 3 8 [2]) = .deliver 21 3 (.command 7 8 [2]) ∧
      readCommand 8 [2] = some (.next 1) ∧ ((judged station).chan 1).watched = false ∧
      (judged station).holdingSlot 0 = none) ∧
    ((judged (onAir fun x => { x with state := .joining })).slot 0).state = .joining ∧
    ((judged (onAir fun x => { x with handback := some (plan 1400 false false) })).slot 0).handback ≠ none ∧
    (((judged (onAir fun x => { x with armed := some ⟨102, ⟨100, 1005⟩, ⟨100, 950⟩, 0, true, [], false⟩ })).slot 0).armed.map
      Armed.locked) = some true ∧
    (judged ((onAir id).modChan 0 fun ch => { ch with list := [record 0 101 900] })).nextEvent 0 = none ∧
    ((beaten (nextAt 250)).found.receive (asked 3 9 (boundary 1 0)) = .deliver 21 3 (.command 7 9 (boundary 1 0)) ∧
      readCommand 9 (boundary 1 0) = some (.handback 0 none) ∧
      (judged (beaten (nextAt 250))).beatsFresh 0 = true ∧
      (judged (beaten (nextAt 250))).findBoundary 0 0 none = some (record 1 102 1250, ⟨100, 1250⟩) ∧
      (judged (beaten (nextAt 250))).hasRoom .zero = true) ∧
    ((judged (beaten (nextAt 249))).findBoundary 0 0 none = none ∧ (judged (nextAt 249)).beatsFresh 0 = false) ∧
    (readCommand 9 (boundary 2 102) = some (.handback 0 (some 102)) ∧
      (beaten (nextAt 250)).found.receive (asked 3 9 (boundary 2 102)) = .deliver 21 3 (.command 7 9 (boundary 2 102)) ∧
      (nextAt 250).findBoundary 0 0 (some 102) = some (record 1 102 1250, ⟨100, 1250⟩)) ∧
    (readCommand 9 (boundary 2 103) = some (.handback 0 (some 103)) ∧
      findEvent 103 ((judged (beaten (nextAt 250))).chan 0).list = none) ∧
    (judged ((beaten (nextAt 250)).setLine fun l => { l with q0 := full0 })).hasRoom .zero = false ∧
    ((record 1 102 1250).derived.eclipsed = false ∧ (record 1 102 1250).derived.past = false ∧
      (record 1 102 1250).derived.start = some ⟨100, 1250⟩ ∧
      Pos.atOrPast .rate25 ⟨100, 1250⟩ (Pos.add .rate25 (nextAt 250).now (nextAt 250).cfg.handbackLead) = true ∧
      Pos.atOrPast .rate25 ⟨100, 1249⟩ (Pos.add .rate25 (nextAt 249).now (nextAt 249).cfg.handbackLead) = false) := by
  decide +kernel

/-- The operands of an EDIT REQUEST of channel 1: operation `op` on event `id`. -/
def requested (op id : Nat) : List Byte := toBE 1 1 ++ toBE 1 op ++ toBE 4 id

/-- The station on air with event 102 locked as its next. -/
def lockedNext : State := onAir fun x => { x with armed := some ⟨102, ⟨100, 1005⟩, ⟨100, 950⟩, 0, true, [], false⟩ }

theorem meets_EditRequestsAreJudgedInOrder :
    ((onAir id).found.receive (asked 3 10 (requested 2 102)) = .deliver 21 3 (.command 7 10 (requested 2 102)) ∧
      (3 : Addr) ≠ 0 ∧ (judged (onAir id)).loader.releasePhase = none ∧
      readCommand 10 (requested 2 102) = some (.editRequest 0 2 (toBE 4 102)) ∧
      ((judged (onAir id)).chan 0).watched = true ∧
      ((judged (onAir id)).view 0).holder = some (judged (onAir id)).me ∧
      ((judged (onAir id)).chan 0).replica = .current ∧ readEdit 2 (toBE 4 102) = some (.delete 102, []) ∧
      (judged (onAir id)).contentCheck 0 (.delete 102) = none ∧ (judged (onAir id)).holdingSlot 0 = some 0 ∧
      (judged (onAir id)).lockRefuses 0 0 (.delete 102) = false ∧ (judged (onAir id)).hasRoom .one = true) ∧
    (readCommand 10 (toBE 1 2 ++ toBE 1 2) = some (.editRequest 1 2 []) ∧ ((judged station).chan 1).watched = false) ∧
    ((judged station).view 0).holder ≠ some (judged station).me ∧
    ((judged ((onAir id).modChan 0 fun ch => { ch with replica := .stale })).chan 0).replica ≠ .current ∧
    (readCommand 10 (requested 7 102) = some (.editRequest 0 7 (toBE 4 102)) ∧ readEdit 7 (toBE 4 102) = none) ∧
    (readCommand 10 (requested 2 103) = some (.editRequest 0 2 (toBE 4 103)) ∧
      (judged (onAir id)).contentCheck 0 (.delete 103) = some .notFound) ∧
    (lockedNext.found.receive (asked 3 10 (requested 2 102)) = .deliver 21 3 (.command 7 10 (requested 2 102)) ∧
      (judged lockedNext).contentCheck 0 (.delete 102) = none ∧ (judged lockedNext).holdingSlot 0 = some 0 ∧
      (judged lockedNext).lockRefuses 0 0 (.delete 102) = true) ∧
    (judged ((onAir id).setLine fun l => { l with q1 := full1 })).hasRoom .one = false ∧
    ((EditOp.delete 102).target = some 102 ∧
      ((lockedNext.slot 0).armed.map fun a => (a.locked, a.event)) = some (true, 102) ∧
      ((onAir fun x => { x with handback := some (plan 1400 false false) }).slot 0).handback.map HandbackPlan.event =
        some 102) := by decide +kernel

/-! ### Witnesses: further clauses -/

/-- A message of another station was under way as this one entered START. -/
theorem meets_DeliveryPassesTheReceiveChecks_spoilt :
    (station.setLine fun l => { l with receiving := true, spoilt := true }).found.line.spoilt = true ∧
    (station.setLine fun l => { l with receiving := true, spoilt := true }).found.receive (heard 17 0 .relaystate [1]) =
      .discard := by decide +kernel

/-- A block with the body given and its check code. -/
def checked (body : List Byte) : List Byte := body ++ toBE 2 (crc body).toNat

/-- A body: rate 1, watching channel 1, probes of channels 1, 2, 0 and 32, every value in its range but the leads as
given. -/
def inRange (arm lock : Nat) : List Byte :=
  toBE 1 1 ++ toBE 4 1 ++ [1, 2, 0, 32] ++ toBE 2 250 ++ toBE 2 25 ++ toBE 2 1500 ++ toBE 2 50 ++ toBE 2 1500 ++
    toBE 1 4 ++ toBE 1 100 ++ toBE 1 250 ++ toBE 1 0 ++ toBE 1 arm ++ toBE 1 lock ++ toBE 1 10 ++ toBE 2 3000

/-- The field of a block of `w` bytes from byte `o`. -/
def field (bs : List Byte) (o w : Nat) : Nat := beNat ((bs.drop o).take w)

/-- Whether a block is of 30 bytes with a good check code. -/
def goodBlock (bs : List Byte) : Bool := bs.length = 30 && decide ((crc (bs.take 28)).toNat = field bs 28 2)

theorem meets_ConfigurationReadEndsStart_values :
    ((starting true).found.loader.cold = true ∧ 1 ≤ (16#5).toNat ∧ (16#5).toNat ≤ 16) ∧
    ((starting false).found.loader.cold = false ∧ (starting false).found.loader.address ≠ none) ∧
    (((loadSettings true .rate25 (some (checked (inRange 10 9)))).1.watch.getLsbD 0 = true) ∧
      ((loadSettings true .rate25 (some (checked (inRange 10 9)))).1.watch.getLsbD 1 = false)) ∧
    ((((starting true).modChan 0 fun ch => { ch with replica := .stale }).configured 16#5 (some (checked (inRange 10 9)))).chan
      0).replica = .stale := by decide +kernel

/-- Blocks with every value in its range; with all of them below it, above it; and with a lock lead at the arm lead. -/
theorem meets_ConfigurationValuesLieInTheirRanges_fields :
    (goodBlock (checked (inRange 10 9)) = true ∧ goodBlock (inRange 10 9 ++ [0, 0]) = false) ∧
    ((readBlock (checked (inRange 10 9))).map (fun x => (x.rate, x.values, x.probes)) =
      some (1, [250, 25, 1500, 50, 1500, 4, 100, 250, 0, 10, 9, 10, 3000], [1, 2, 0, 32])) ∧
    ((readBlock block).map (fun x => x.values[1]?) = some (some 0) ∧
      (readBlock block).map (fun x => x.values[10]?) = some (some 0)) ∧
    ((readBlock (checked (List.replicate 28 255))).map (fun x => (x.rate, x.values[0]?, x.values[10]?, x.probes[3]?)) =
      some (255, some 65535, some 255, some 255)) ∧
    ((readBlock (checked (inRange 10 10))).map (fun x => x.values[10]?) = some (some 10) ∧
      (loadSettings true .rate25 (some (checked (inRange 10 10)))).1.armLead = 10) := by decide +kernel

/-- A release phase at its twelfth frame event with no slot holding a channel. -/
theorem meets_RestartRunsTheReleasePhase_timeout :
    (phaseAt 12 .free true).atStep.loader.releasePhase = some 12 ∧
    ∀ n, ((phaseAt 12 .free true).atStep.slot n).state.holds = false := by decide +kernel

/-- The list of 2.5.1 with an anchor it does not hold, its first event past; a leader start before and after the hard
start behind it; the AIR anchor's event ended, or not. -/
theorem meets_WalksDeriveEachStartAndEnd_lists :
    (∀ x ∈ some (⟨999, ⟨412, 0⟩, .beat, ⟨412, 0⟩⟩ : Anchor), splitAt x.event channel7 = none) ∧
    (splitAt 101 unanchored = some ([], unanchored.getD 0 (record 0 0 0), unanchored.drop 1)) ∧
    ((unanchored.map fun e => e.stated.id) = [101, 102, 103, 104] ∧
      (hards .rate25 (fun _ => none) none unanchored).map Prod.snd =
        [.hard ⟨412, 1620000⟩, .soft, .soft, .hard ⟨412, 1665000⟩]) ∧
    ((event 1 (.live 1) .locked (some 9) (.timed 5) .joinable).stated.start = .locked ∧
      (event 1 (.live 1) .locked (some 9) (.timed 5) .joinable).stated.lockKey = some 9) ∧
    (Pos.before .rate25 ⟨412, 9⟩ ⟨412, 10⟩ = true ∧ Pos.before .rate25 ⟨412, 10⟩ ⟨412, 10⟩ = false) ∧
    (((anchoredAt .air 950).chan 0).watched = true ∧ (anchoredAt .air 950).airRunOut 0 = false) ∧
    (((anchoredAt .air 950).modChan 0 fun ch => { ch with list := [record 0 101 500] }).airRunOut 0 = true) ∧
    ((station.chan 1).watched = false) ∧
    splitAt 102 channel.list = some ([record 0 101 900], record 1 102 1400, []) := by decide +kernel

/-- Channel 1 with its replica in the state given, under SITE and held by station 5, or under MAIN. -/
def replicaOf (r : ReplicaState) (site : Bool) : State :=
  (if site then siteHeld else station).modChan 0 fun ch => { ch with replica := r }

/-- Channel 1 loading image 6 of epoch 4 and base 9 from relay 17. -/
def loaderOf : State := halfLoaded

/-- Station 16 edits channel 1 of station 5 at and above its epoch; station 5 does so at a higher epoch, the replica
CURRENT or STALE. -/
theorem meets_EditsAreTakenInSequence_epochs :
    (siteHeld.found.receive (edit 16 1 4 9 2 101) = edited 16 (chanNo 0) 4 9 2 101 ∧
      siteHeld.found.receive (edit 16 1 5 9 2 101) = edited 16 (chanNo 0) 5 9 2 101 ∧
      ((siteHeld.found.hear 16).view 0).holder ≠ some 16 ∧ ((siteHeld.found.hear 16).chan 0).epoch = 4) ∧
    (siteHeld.found.receive (edit 5 1 5 0 2 101) = edited 5 (chanNo 0) 5 0 2 101 ∧
      (siteHeld.found.hear 5).holdsAuthority 0 5 = true ∧ ((siteHeld.found.hear 5).chan 0).replica = .current) ∧
    ((replicaOf .stale true).found.receive (edit 5 1 4 9 2 101) = edited 5 (chanNo 0) 4 9 2 101 ∧
      ((replicaOf .stale true).found.hear 5).holdsAuthority 0 5 = true ∧
      (((replicaOf .stale true).found.hear 5).chan 0).replica ≠ .current) := by decide +kernel

/-- A replica EMPTY, one STALE and one LOADING, at and beside the bounds of R40, and the parked queue full. -/
theorem meets_EditsAreTakenInSequence_rows :
    (((replicaOf .empty false).chan 0).replica = .empty ∧ ((replicaOf .stale false).chan 0).replica = .stale ∧
      ((replicaOf .stale false).chan 0).epoch = 4 ∧ ((replicaOf .stale false).chan 0).nextSeq = 9 ∧
      (replicaOf .stale false).active = true ∧ ((replicaOf .stale false).chan 0).watched = true) ∧
    ((loaderOf.chan 0).replica = .loading ∧
      (loaderOf.chan 0).shadow.map (fun sh => (sh.epoch, sh.base)) = some (4, 9)) ∧
    (parkedFull.repl.parked.length = 16 ∧ (replica .stale 0).repl.parked.length = 1) ∧
    ((station.chan 0).replica = .current ∧ station.repl.parked.length ≤ 16) ∧
    ((replica .current 0).repl.parked = [] ++ ⟨0, 4, 11, 17, 2, toBE 4 101, 0⟩ :: [] ∧
      (((replica .current 0).modChan 0 fun ch => { ch with nextSeq := 11 }).chan 0).nextSeq = 11) := by decide +kernel

/-- Behind what R183 puts first: with class 1 free, and with one entry free that the held BEACON takes. -/
theorem meets_ImageRequestsTryTheirTargets_order :
    (((requesting .asking .unqueued 0 false).atStep.beforeAsk 0).hasRoom .one = true ∧
      (((requesting .asking .unqueued 0 false).atStep.beforeAsk 0).chan 0).request =
        some ⟨[], some 17, 0, .asking, .unqueued⟩) ∧
    ((((requesting .asking .unqueued 0 true).setLine fun l => { l with q1 := full1.drop 1, beaconHeld := true }).atStep.beforeAsk
      0).hasRoom .one = false) ∧
    (((requesting .waiting .echoed 0 false).atStep.beforeAsk 0).chan 0).request =
      some ⟨[], some 17, 0, .waiting, .echoed⟩ := by decide +kernel

/-- The parts of the load of channel 1: its shadow, a segment with no record, one with a record cut short, and a profile
cut short. -/
theorem meets_SegmentsBuildTheInstalledImage_storing :
    ((halfLoaded.chan 0).shadow.isSome = true ∧ (halfLoaded.chan 0).replica = .loading) ∧
    ((segment 2 1 6 4).index ≠ 0 ∧ (segment 2 0 6 4).index = 0 ∧
      ((readProfile (segment 2 0 6 4).body).map Prod.snd = some []) ∧ readProfile [] = none) ∧
    ((storeRecs .rate25 0 [] [2] [101]).2.2 = .whole ∧ (storeRecs .rate25 1 [] [2] [101]).2.2 = .failed .diverged) ∧
    ((halfLoaded.chan 0).shadow.map (fun sh => (sh.segments.length, sh.count)) = some (1, 2)) ∧
    (∀ sh ∈ ((loading 5 .loading).chan 0).shadow, inOrder .rate25 (State.shadowRecs sh) = true ∧ sh.epoch = 4 ∧
      (halfLoaded.chan 0).nextSeq ≤ sh.base) ∧
    (∀ e ∈ [record 0 101 900], ({ e with derived := Derived.fresh } : Rec).derived = Derived.fresh) := by decide +kernel

/-- Records read off a segment: one of id 102 is whole, is a repeat, is the 513th, finds the pool empty; and one of id 0
fails its checks. -/
theorem meets_SegmentsBuildTheInstalledImage_records :
    ((readRecord ((record 1 102 1400).stated.bytes .rate25)).map (fun x => ((x.1.judge .rate25).toOption, x.2)) =
      some (some (record 1 102 1400).stated, [])) ∧
    ((102 ∈ [101, 102]) ∧ 102 ∉ [101] ∧ (List.range 512).length = 512 ∧ (List.range 511).length < 512) ∧
    ((readRecord ({ (record 1 102 1400).stated with id := 0 }.bytes .rate25)).map
      (fun x => (x.1.judge .rate25).toOption.isNone) = some true) := by decide +kernel

/-- Channel 1 anchored by a beat reported at frame 960, its replica in the state given. -/
def beatAnchored (r : ReplicaState) : State :=
  inChan fun ch => { ch with replica := r, anchor := some ⟨101, ⟨100, 900⟩, .beat, ⟨100, 960⟩⟩ }

/-- Beats of a higher epoch, of the channel's epoch for an event not held, and one older than the anchor. -/
theorem meets_BeatsAreRecordedAndAnchored_epochs :
    ((beatEntry 1 950).entry .rate25 = some (0, ⟨4, .onAir, 101, 100, ⟨100, 950⟩, none⟩)) ∧
    (({ beatEntry 1 950 with epoch := 5 } : RawBeat).entry .rate25 = some (0, ⟨5, .onAir, 101, 100, ⟨100, 950⟩, none⟩)) ∧
    (({ beatEntry 1 950 with event := 103 } : RawBeat).entry .rate25 = some (0, ⟨4, .onAir, 103, 100, ⟨100, 950⟩, none⟩)) ∧
    (((beatAnchored .current).chan 0).replica = .current ∧ ((beatAnchored .stale).chan 0).replica = .stale ∧
      ((beatAnchored .empty).chan 0).replica = .empty ∧ ((beatAnchored .loading).chan 0).replica = .loading) ∧
    (Pos.before .rate25 ⟨100, 950⟩ ⟨100, 960⟩ = true ∧ Pos.before .rate25 ⟨100, 960⟩ ⟨100, 960⟩ = false) ∧
    findEvent 103 ((beatAnchored .current).chan 0).list = none ∧
    (((inChan fun ch => { ch with authority := .site }).chan 0).authority ≠ .main) := by decide +kernel

theorem meets_GridsAreJudgedByTheRules_verdict :
    ((probing id).probe 0).chan = some 0 ∧ ((probing id).probe 0).verdict = .unknown ∧
    ((probing id).probe 0).verdict ≠ .dark := by decide +kernel

/-- Behind a held BEACON and no lower probe the offer finds class 1 as it stands; a repeat of a mapped probe. -/
theorem meets_ProbesRepeatAndFallSilent_order :
    ((probed (fun x => { x with repeatTimer := 50 }) []).atStep.probe 0).chan = some 0 ∧
    ((probed id []).atStep.line.beaconHeld = false ∧ ∀ q : ProbeId, q < 0 → ((probed id []).atStep.probe q).sendPending = false) ∧
    ((((probed id full1).atStep.setLine fun l => { l with q1 := full1.drop 1, beaconHeld := true }).offerBeacon).hasRoom .one =
      false) := by decide +kernel

/-- A BEACON of station 5 that lists channel 2 under epoch 3, and one of channel 33, which is dropped. -/
theorem meets_BeaconsAreOfferedAndJudged_entries :
    (StationState.ofCode 4 = some .degraded ∧ TimeState.ofCode 2 = some .set ∧ RefState.ofCode 1 = some .pulsed) ∧
    (([(2, 3), (33, 1)].filterMap fun x : Nat × Nat => (chanOf x.1).map fun c => (c, x.2)) = [((1 : Chan), 3)]) ∧
    ((siteHeld.view 0).holder = some 5 ∧ ((station.chan 0).authority = .main ∧ (station.chan 0).replica = .current ∧
      (station.chan 0).shadow = none ∧ (station.view 0).holder = none)) ∧
    (((onAir id).view 0).holder = some (onAir id).me ∧ ((onAir id).view 0).holderEpoch = 4 ∧
      ((onAir id).view 0).rival = none ∧ (2 : Addr) < (onAir id).me ∧ ¬((5 : Addr) < (onAir id).me)) ∧
    (((onAir id).modView 0 fun v => { v with rival := some ⟨5, ⟨false, 2⟩, ⟨100, 990⟩⟩ }).view 0).rival =
      some ⟨5, ⟨false, 2⟩, ⟨100, 990⟩⟩ := by decide +kernel

theorem meets_ClaimsAreComparedWhole_weights :
    (2 : Addr) ≠ 9 ∧ (1102 : Nat) % 100 = 2 ∧ (409 : Nat) % 100 = 9 := by decide

/-- The contests that a TAKE moves or leaves, a channel not watched, and a duplicate that a better one replaces. -/
theorem meets_TakesAreJudgedAgainstTheView_contests :
    ((station.chan 1).watched = false ∧ (station.chan 0).watched = true) ∧
    ((station.view 0).contest = .idle ∧ ((contested .deferred).view 0).contest = .deferred ∧
      ((contested .claiming).view 0).contest = .claiming ∧ ((contested .taking).view 0).contest = .taking ∧
      ((onAir id).view 0).contest = .taken) ∧
    ((crowded 1 (some 0)).modSlot 2 fun x => { x with state := .reserved, chan := some 0 }).slot 2 =
      { Slot.reset false with state := .reserved, chan := some 0 } ∧
    ((station.view 0).duplicate = none ∧ (duplicated.view 0).duplicate = some ⟨5, 5, none⟩) := by decide +kernel

theorem meets_WindowsAndLatchRunOut_order :
    (latched 0 false).atStep.offerCancels.hasRoom .zero = true ∧
    (latched 0 true).atStep.offerCancels.hasRoom .zero = false := by decide +kernel

/-- A JOINING slot whose join point lay one frame back, with a cue armed, and locked, for frame `f` of the day. -/
def skippedJoin (f : Nat) : State :=
  (joining (planAt 999 (.live 7) none) false).modSlot 0 fun x =>
    { x with armed := some ⟨102, ⟨100, f⟩, ⟨100, 950⟩, 0, true, [], false⟩ }

theorem meets_JoinCuesAreIssuedAndFired_skipped :
    ((skippedJoin 1000).atStep.reached ⟨100, 999⟩ = true ∧ Pos.after .rate25 ⟨100, 1000⟩ ⟨100, 999⟩ = true ∧
      ((((skippedJoin 1000).atStep.issueJoinCue 0).fireJoin 0 0 (planAt 999 (.live 7) none)).slot 0).armed =
        some ⟨102, ⟨100, 1000⟩, ⟨100, 950⟩, 0, true, [], false⟩ ∧
      (((skippedJoin 1000).atStep.issueJoinCue 0).fireJoin 0 0 (planAt 999 (.live 7) none)).reached ⟨100, 1000⟩ = true) ∧
    Pos.after .rate25 ⟨100, 999⟩ ⟨100, 999⟩ = false ∧
    (((skippedJoin 1001).atStep.issueJoinCue 0).fireJoin 0 0 (planAt 999 (.live 7) none)).reached ⟨100, 1001⟩ = false ∧
    (findEvent 101 ((skippedJoin 1000).chan 0).list = some (record 0 101 900) ∧
      (planAt 999 (.live 7) none).kind ≠ .skip ∧ (planAt 999 (.live 7) none).actual = some ⟨100, 900⟩) := by decide +kernel

/-- Slot 1 holds channel 2, which follows channel 1: its current event 201, its LOCKED event 202 behind it. -/
def follower (f : Slot → Slot) : State :=
  let locked : Rec := { record 3 202 1400 with stated := { (record 3 202 1400).stated with start := .locked, lockKey := some 9 } }
  ((onAir id).modChan 1 fun ch =>
    { ch with watched := true, replica := .current, list := [record 2 201 900, locked],
              profile := { ch.profile with leader := some 0 } }).modSlot 1 fun x =>
    f { x with state := .onAir, chan := some 1, epoch := some 4, cur := some { cue with event := some 201 } }

/-- The hand-off of key 9 by channel 1: the follower seeks event 202, armed since long or since now, or not armed; is
joining; has no event of the key; has it as its plan's event; and has it as its current one. -/
theorem meets_ArmedCuesFire_lockstep :
    (((follower id).slot 1).chan = some 1 ∧ ((follower id).slot 1).state = .onAir ∧ ((follower id).slot 1).cur ≠ none ∧
      (follower id).leaderOf 1 = some 0 ∧ (follower id).lockedNow 1 1 9 = false ∧ (follower id).atBoundary 1 = false) ∧
    ((follower id).afterCurrent 1 1).map (fun e => (e.stated.id, e.stated.start, e.stated.lockKey, e.derived.past)) =
      [(202, .locked, some 9, false)] ∧
    ((follower id).reached (Pos.add .rate25 ⟨100, 992⟩ (follower id).cfg.lockLead) = true ∧
      (follower id).reached (Pos.add .rate25 ⟨100, 993⟩ (follower id).cfg.lockLead) = false) ∧
    (∀ e ∈ (follower id).afterCurrent 1 1, e.stated.lockKey ≠ some 8) ∧
    ((follower fun x => { x with state := .joining }).slot 1).state = .joining ∧
    ((follower fun x => { x with handback := some ⟨202, ⟨100, 1400⟩, 5, false, false⟩ }).slot 1).handback.map
      HandbackPlan.event = some 202 ∧
    (follower fun x => { x with cur := some { cue with event := some 202 } }).lockedNow 1 1 9 = true ∧
    (((follower id).slot 1).state.holds = true ∧ ((follower id).slot 1).stepsDone = 0) := by decide +kernel

/-- Re-arming: a locked cue, one that is not, none, with the candidate inside or outside the arm lead; and a current event
that has left the list. -/
theorem meets_CuesAreArmedLockedAndFilled_rearm :
    ((lockedNext.slot 0).armed.map Armed.locked = some true) ∧
    (((armedAt 102 1009 8).slot 0).armed.map Armed.locked = some false ∧
      (armedAt 102 1009 8).candidate 0 = some (record 1 102 1400, ⟨100, 1400⟩, []) ∧
      (armedAt 102 1009 8).withinArmLead ⟨100, 1400⟩ = false) ∧
    (((nextIn 50).slot 0).armed = none ∧ ((nextIn 50).slot 0).state.holds = true ∧
      (nextIn 50).candidate 0 = some (record 1 102 1050, ⟨100, 1050⟩, []) ∧ (nextIn 50).withinArmLead ⟨100, 1050⟩ = true) ∧
    ((onAir id).holdingSlot 0 = some 0 ∧ (onAir id).lostEvent 0 0 = none) ∧
    (((onAir id).modChan 0 fun ch => { ch with list := [record 1 102 1400] }).lostEvent 0 0 = some 101 ∧
      ((armedAt 102 1009 8).modChan 0 fun ch => { ch with list := [record 1 102 1400] }).holdingSlot 0 = some 0) ∧
    (((bare 5 fun x => { x with owedFill := some 101 }).atLater 0).slot 0).owedFill = some 101 ∧
    ((((bare 5 (ending 1000)).atLater 0).slot 0).stepsDone = 5 ∧ (((bare 8 id).atLater 0).slot 0).stepsDone = 8) := by
  decide +kernel

/-- The steps after the third: no leader's slot goes first for a channel without one. -/
theorem meets_LinesFollowTheirOccurrences_later :
    (((bare 7 fun x => { x with pending := [occ 1000 .pulse] }).atLater 0).slot 0).stepsDone = 7 ∧
    (((bare 7 fun x => { x with pending := [occ 1000 .pulse] }).atLater 0).slot 0).pending = [occ 1000 .pulse] ∧
    (((bare 7 fun x => { x with pending := [occ 1001 .toggle] }).atLater 0).slot 0).pending = [occ 1001 .toggle] := by
  decide +kernel

/-- Slot 0 in FALLBACK at its seventh step, a confirm window of W = 4 open to frame `f`, the tally as given. -/
def fallingBack (f : Nat) (high : Bool) (since : Nat) : State :=
  clipAt 6 none fun x => { x with
    state := .fallback, fallbackSince := some ⟨100, since⟩, expectedBy := some ⟨100, f⟩, sincePlay := 1004 - f,
    tally := high, highSincePlay := high }

theorem meets_ServerFaultsRestartOrFallBack_fallback :
    (((fallingBack 1000 true 750).atLater 0).slot 0).state = .fallback ∧
    (((fallingBack 1000 true 750).atLater 0).slot 0).expectedBy = some ⟨100, 1000⟩ ∧
    ((fallingBack 1000 true 750).atLater 0).windowOver 0 ⟨100, 1000⟩ = true ∧
    ((fallingBack 1001 true 750).atLater 0).windowOver 0 ⟨100, 1001⟩ = false ∧
    (((fallingBack 1000 false 751).atLater 0).slot 0).tally = false ∧
    (((fallingBack 1000 false 751).atLater 0).slot 0).fallbackSince = some ⟨100, 751⟩ ∧
    ¬(Pos.diff .rate25 ⟨100, 750⟩ ⟨100, 1000⟩ < (250 : Int)) ∧ Pos.diff .rate25 ⟨100, 751⟩ ⟨100, 1000⟩ < (250 : Int) ∧
    ((fallingBack 1000 false 751).atLater 0).cfg.tp = 250 ∧
    (((clipAt 6 none id).atLater 0).slot 0).expectedBy = none ∧
    ((((faulty 0 (some ⟨100, 1009⟩)).atLater 0).slot 0).stepsDone = 4 ∧ (((bare 3 id).atLater 0).slot 0).stepsDone = 3) := by
  decide +kernel

/-- The handback event armed at its boundary as the commit check falls, as the boundary is reached, and with a cue due
when the check fails. -/
theorem meets_HandbacksCommitOrAbort_armed :
    ((((handingBack (plan 1008 true false) true).modSlot 0 fun x =>
        { x with armed := some ⟨102, ⟨100, 1008⟩, ⟨100, 958⟩, 0, true, [], false⟩ }).atStep.slot 0).armed.map Armed.firePos =
      some ⟨100, 1008⟩) ∧
    ((handingBack (plan 1000 true false) true).atStep.reached ⟨100, 1000⟩ = true ∧
      (handingBack (plan 1000 true false) true).atStep.beatsFresh 0 = true) ∧
    (((armedAt 102 1000 2).slot 0).armed.map Armed.firePos = some ⟨100, 1000⟩ ∧
      findEvent 102 ((armedAt 102 1000 2).chan 0).list = some (record 1 102 1400) ∧
      findEvent 103 ((armedAt 103 1000 2).chan 0).list = none ∧ (armedAt 102 1001 2).reached ⟨100, 1001⟩ = false) := by
  decide +kernel

theorem meets_TheLineIsGainedByWaits_spoilt :
    (station.setLine fun l => { l with spoilt := true }).found.line.spoilt = true := by decide +kernel

/-- Fields at the top of their widths. -/
theorem meets_MessagesSentAreReadBack_fields :
    (65535 < 65536 ∧ 4294967295 < 4294967296) ∧ ((⟨65535, 2589407⟩ : Pos).day < 65536 ∧ (⟨65535, 2589407⟩ : Pos).frame < 16777216) ∧
    ((onAir id).onAirList = [(0, 4)] ∧ ∀ x ∈ (onAir id).onAirList, x.2 < 4294967296) ∧
    ((List.replicate 8 (beatEntry 1 950)).length = 8 ∧ (beatEntry 1 950).chan < 256 ∧ (beatEntry 1 950).report.frame < 16777216) := by
  decide +kernel

theorem meets_QueriesAnswerWithTheirItems_peers : (30 : Addr) ≠ station.me ∧ (3 : Addr) = station.me := by decide +kernel

/-- The event in front of the current one, the current one, and what stands behind it, while JOINING and while not. -/
theorem meets_EditRequestsAreJudgedInOrder_places :
    ((onAir fun x => { x with cur := some { cue with event := some 102 } }).lockPlace 0 0 = some 102 ∧
      splitAt 102 ((onAir id).chan 0).list = some ([record 0 101 900], record 1 102 1400, [])) ∧
    ((onAir id).lockPlace 0 0 = some 101 ∧
      splitAt 101 ((onAir id).chan 0).list = some ([], record 0 101 900, [record 1 102 1400])) ∧
    ((onAir id).slot 0).cur = some cue ∧ cue.event = some 101 ∧ ((onAir id).slot 0).armed = none ∧
    ((EditOp.setEnd 101 108).duration = some 108 ∧ (EditOp.delete 101).duration = none ∧
      Pos.atOrPast .rate25 (Pos.add .rate25 cue.anchored 108) (Pos.add .rate25 ⟨100, 1000⟩ 8) = true ∧
      Pos.atOrPast .rate25 (Pos.add .rate25 cue.anchored 107) (Pos.add .rate25 ⟨100, 1000⟩ 8) = false) ∧
    (((joining (planAt 1001 (.live 7) none) false).slot 0).state = .joining ∧
      (joining (planAt 1001 (.live 7) none) false).lockPlace 0 0 = some 101) ∧
    (((bare 0 fun x => { x with cur := none }).slot 0).cur.bind Cue.event = none ∧
      ((anchoredAt .air 950).chan 0).anchor = some ⟨101, ⟨100, 700⟩, .air, ⟨100, 950⟩⟩ ∧
      ((anchoredAt .beat 950).chan 0).anchor = some ⟨101, ⟨100, 700⟩, .beat, ⟨100, 950⟩⟩) := by decide +kernel

/-- Channel 1 FAILED for an automatic claim, its picture bad; the same with the orphan flag. -/
def failed (orphan bad : Bool) : State :=
  inWatch fun w => { w with health := .failed, orphan := orphan, pictureBad := ⟨bad, ⟨100, 900⟩, 9⟩ }

/-- The judgement: a health that enters NOMINAL and one that stays; the test of R81; a channel that may be claimed and one
that may not; a look with room and without; a contest that lapses and one that stands. -/
theorem meets_FrameWorkJudgesAndClaims :
    (station.time.frameOpen = false ∧ (opened station).time.frameOpen = true) ∧
    (station.watchRec 0 = some (WatchRec.opened ⟨100, 900⟩) ∧ (station.view 0).holder.isSome = false ∧
      (siteHeld.view 0).holder.isSome = true) ∧
    ((WatchRec.opened ⟨100, 900⟩).health = .nominal ∧
      healthChain Settings.default ((WatchRec.opened ⟨100, 900⟩).evidence .rate25 ⟨100, 1000⟩ false) 6 .suspect = .nominal) ∧
    (station.loader.station = .ready ∧ ((inChan fun ch => { ch with authority := .site }).chan 0).authority = .site ∧
      (station.view 0).holder = none ∧ (station.chan 0).authority ≠ .site) ∧
    ((failed true true).autoClaim 0 = true ∧ (failed true false).autoClaim 0 = false ∧
      (failed true true).bestCandidate = some 0 ∧ station.bestCandidate = none) ∧
    ((failed false true).claims.current = none ∧ (failed false true).claims.latch = none ∧
      (failed false true).hasRoom .zero = true ∧
      ((failed false true).setLine fun l => { l with q0 := full0 }).hasRoom .zero = false) ∧
    ((contest .claiming).claims.current = some 0 ∧ ((contest .claiming).view 0).contest = .claiming ∧
      ((contest .claiming).view 0).own.elim false Claim.forced = false ∧
      ((contest .claiming).watchRec 0).map WatchRec.health ≠ some .failed ∧
      ((contest .taking).view 0).contest ≠ .claiming) := by decide +kernel

/-! ### Witnesses: further clauses -/

/-- The pin released while another station's message is on the line. -/
theorem meets_ResetsEnterStart_receiving :
    (State.reset.setLine fun l => { l with receiving := true }).found.loader.resetHeld = true ∧
    (State.reset.setLine fun l => { l with receiving := true }).found.line.receiving = true := by decide +kernel

/-- An image all queued, whose list an edit may have made longer; an answer of count 0 on the line; an image half queued
and touched; the channel's own epoch and another. -/
theorem meets_ImagesAreServedWhole_queued :
    ((midImage 2 2).found.hasRoom .two = true ∧ (midImage 2 2).found.repl.zeroAnswers = [] ∧
      (midImage 2 2).found.repl.service = [(9, 0)] ∧ ((midImage 2 2).found.chan 0).replica = .current ∧
      (midImage 2 2).found.repl.serving = some ⟨1, 4, 9, 2, 2⟩) ∧
    ((sending station (.imageNone 9 33 0)).found.sendingHead (fun m => decide (m.kind = .image)) =
      some (.imageNone 9 33 0)) ∧
    ((midImage 2 1).repl.serving = some ⟨1, 4, 9, 2, 1⟩ ∧ (midImage 2 1).repl.service = [(9, 0)]) ∧
    (∀ sv ∈ (midImage 2 2).repl.serving, sv.count ≤ sv.next) ∧
    (((midImage 2 1).chan 0).epoch = 4 ∧ (5 : Nat) ≠ 4) := by decide +kernel

/-- The sources of stations 1, 2, 4 and 5: three of other addresses than 5, and four than 6. -/
def fourSources : List VerdictSource :=
  [⟨1, .dark, ⟨100, 900⟩⟩, ⟨2, .flat, ⟨100, 900⟩⟩, ⟨4, .nominal, ⟨100, 900⟩⟩, ⟨5, .unknown, ⟨100, 900⟩⟩]

theorem meets_EvidenceFollowsBeatsAndVerdicts_others :
    (fourSources.filter fun x => decide (x.addr ≠ 5)).length < 4 ∧
    4 ≤ (fourSources.filter fun x => decide (x.addr ≠ 6)).length := by
  decide +kernel

/-- A channel with an anchor whose event its list holds, with one whose event is gone, and with none. -/
theorem meets_TakeEchoMakesTheHolder_start :
    (((anchoredAt .air 950).chan 0).anchor = some ⟨101, ⟨100, 700⟩, .air, ⟨100, 950⟩⟩ ∧
      splitAt 101 ((anchoredAt .air 950).chan 0).list = some ([], record 0 101 900, [record 1 102 1400])) ∧
    splitAt 101 (((anchoredAt .air 950).modChan 0 fun ch => { ch with list := [record 1 102 1400] }).chan 0).list = none ∧
    (station.chan 0).anchor = none := by decide +kernel

/-- A slot with its first two steps done, and one with none. -/
theorem meets_JoinCuesAreIssuedAndFired_steps :
    2 ≤ ((bare 2 id).slot 0).stepsDone ∧ ((bare 2 id).slot 0).stepsDone ≤ 2 ∧
    ((bare 0 id).slot 0).stepsDone ≤ 2 := by decide +kernel

/-- Slot 0 JOINING channel 1 with a GAP SLATE to event 102 at join point `j`. -/
def joiningFill (j : Nat) : State :=
  joining ⟨.gapSlate, .unanchored, ⟨100, j⟩, some 102, 0, .slate 1, none, none, some ⟨100, 1400⟩⟩ false

/-- The search for the next event: behind the current event, with nothing open there, and with an eclipsed event passed
over; under a fill with an AIR anchor and with none; and while JOINING with a fill, before and after an event that is over
at the join point. -/
theorem meets_CuesAreArmedLockedAndFilled_candidate :
    (((onAir id).slot 0).chan = some 0 ∧ ((onAir id).slot 0).state ≠ .joining ∧
      ((onAir id).slot 0).curEvent = some 101 ∧
      splitAt 101 ((onAir id).chan 0).list = some ([], record 0 101 900, [record 1 102 1400]) ∧
      (record 1 102 1400).derived.eclipsed = false ∧ (record 1 102 1400).derived.past = false) ∧
    ((bare 0 fun x => { x with cur := none }).slot 0).curEvent = none ∧
    (((joining (planAt 1001 (.live 7) none) false).slot 0).state = .joining ∧
      ((joining (planAt 1001 (.live 7) none) false).slot 0).curEvent = some 101) ∧
    (((joiningFill 1400).slot 0).chan = some 0 ∧ ((joiningFill 1400).slot 0).state = .joining ∧
      ((joiningFill 1400).slot 0).curEvent = none ∧
      ((joiningFill 1400).chan 0).fillSearch = [record 0 101 900, record 1 102 1400] ∧
      Pos.after .rate25 ⟨100, 1400⟩ (joiningFill 1400).now = true ∧
      (joiningFill 1400).nextEvent 0 = some (record 1 102 1400, [])) ∧
    (((joiningFill 1600).modChan 0 fun ch => { ch with list := [record 0 103 1050, record 1 102 1400] }).nextEvent 0 =
      some (record 1 102 1400, [])) ∧
    (((bare 0 fun x => { x with cur := none }).chan 0).anchor = none ∧
      ((anchoredAt .air 950).chan 0).anchor = some ⟨101, ⟨100, 700⟩, .air, ⟨100, 950⟩⟩ ∧
      ((anchoredAt .air 950).chan 0).fillSearch = [record 1 102 1400]) ∧
    ((bare 0 fun x => { x with handback := some (plan 1400 false false) }).nextEvent 0 = some (record 1 102 1400, []) ∧
      (plan 1400 false false).event = 102) := by decide +kernel

theorem meets_ReleasesHeardAreJudged_others :
    station.time.frameOpen = false ∧ (opened station).time.frameOpen = true ∧ (1 : Chan) ≠ 0 := by decide +kernel

/-- The line goes busy in START, with no wait running, and in READY. -/
theorem meets_TheLineIsGainedByWaits_inert :
    (starting true).found.active = false ∧ (starting true).found.line.wait = none ∧ station.found.active = true := by
  decide +kernel

/-- Class 1 full with a REPLY waiting in it. -/
def replying : List QEntry := full1.take 3 ++ ⟨.reply 21 7 .done 0 1 [], false⟩ :: full1.take 4

/-- Class 1 full with a REPLY waiting in it, full with none, and with room. -/
theorem meets_QueriesAnswerWithTheirItems_room :
    (queued [] replying [] none).hasRoom .one = false ∧ (queued [] full1 [] none).hasRoom .one = false ∧
    (∀ y ∈ full1, y.begun = true ∨ State.isReply y.msg = false) ∧ (queued [] full1 [] none).waiting State.isReply = false ∧
    State.isReply (.reply 21 7 .done 0 1 []) = true ∧ (OutMsg.reply 21 7 .done 0 1 []).cls = .one ∧
    station.hasRoom .one = true := by decide +kernel

/-- AT finds the event behind the current one, and none for the current one; under a fill the search begins behind the
AIR anchor's event, or at the first that is not past. -/
theorem meets_NextAndHandbackAreJudgedInOrder_found :
    (((nextAt 250).slot 0).state ≠ .joining ∧ ((nextAt 250).slot 0).cur.bind Cue.event = some 101 ∧
      findEvent 102 ((nextAt 250).afterCurrent 0 0) = some (record 1 102 1250)) ∧
    (∀ e ∈ (nextAt 250).afterCurrent 0 0, e.stated.id ≠ 101) ∧
    ((bare 0 fun x => { x with cur := none }).afterCurrent 0 0 = [record 0 101 900, record 1 102 1400] ∧
      ((bare 0 fun x => { x with cur := none }).chan 0).anchor = none) ∧
    (((bare 0 fun x => { x with cur := none }).modChan 0 fun ch =>
        { ch with anchor := some ⟨101, ⟨100, 900⟩, .air, ⟨100, 950⟩⟩ }).afterCurrent 0 0 = [record 1 102 1400]) := by
  decide +kernel

/-- What passes all the receive checks, at 240 bytes and at none; and, only the length amiss, a COMMAND of this station
with and without its tag, a COMMAND to all, and another kind. -/
theorem meets_DeliveryPassesTheReceiveChecks_converse :
    (station.found.active = true ∧ station.found.line.spoilt = false ∧ station.found.me = 3 ∧
      (heard 17 0 .relaystate [1]).delimiter = true ∧ (heard 17 0 .relaystate [1]).bytes.length = 7 ∧
      lengthFits .relaystate [1] = true ∧ readMsg .relaystate [1] = some (.relaystate 1)) ∧
    (Kind.ofCode Kind.command.code = some .command ∧ roleSends 21 .command = true ∧
      lengthFits .command [0, 7] = false ∧ lengthFits .command [7] = false ∧ (240#8).toNat ≤ 240 ∧ ¬(241#8).toNat ≤ 240) ∧
    (station.found.receive (heard 21 3 .command [0, 7]) = .badLength 21 7 ∧
      station.found.receive (heard 21 3 .command [7]) = .badLength 21 0 ∧
      station.found.receive (heard 21 0 .command [0, 7]) = .discard ∧
      station.found.receive (heard 17 0 .relaystate [1, 1]) = .discard) := by decide +kernel

/-- An event with a lock key. -/
def withKey (k : Nat) (e : Rec) : Rec := { e with stated := { e.stated with lockKey := some k } }

/-- Channel 2's leader channel 1 with key 9 on its second event, eclipsed or not. -/
def keyed (eclipsed : Bool) : State :=
  let second := withKey 9 (record 1 102 1400)
  (follower id).modChan 0 fun ch =>
    { ch with list := [record 0 101 900, { second with derived := { second.derived with eclipsed := eclipsed } }] }

/-- A watched channel and one that is not; a leader, none, a channel that names itself, and one whose leader has a leader;
a leader with an event of the key, and with none. -/
theorem meets_WalksDeriveEachStartAndEnd_walk :
    ((station.chan 0).watched = true ∧ (station.chan 1).watched = false) ∧
    ((follower id).leaderOf 1 = some 0 ∧ (follower id).leaderOf 0 = none ∧
      ((follower id).modChan 0 fun ch => { ch with profile := { ch.profile with leader := some 0 } }).leaderOf 0 = none ∧
      ((follower id).modChan 0 fun ch => { ch with profile := { ch.profile with leader := some 1 } }).leaderOf 1 = none) ∧
    ((keyed false).leaderOf 1 = some 0 ∧
      (((keyed false).chan 0).list.map fun e => (e.stated.lockKey, e.derived.eclipsed)) =
        [(none, false), (some 9, false)] ∧
      (keyed false).leaderStart 1 9 = some ⟨100, 1400⟩) ∧
    ((((keyed true).chan 0).list.map fun e => (e.stated.lockKey, e.derived.eclipsed)) =
        [(none, false), (some 9, true)] ∧ (keyed true).leaderStart 1 9 = none) := by decide +kernel

/-- Each result code of the content checks, and none, on the list of events 101 and 102, with 512 events and with the
pool empty. -/
theorem meets_CheckedEditsKeepTheListSound_codes :
    ((EditOp.delete 0).formed = false ∧ (EditOp.delete 101).formed = true) ∧
    ((EditOp.setEnd 101 0).timely .rate25 = false ∧ (EditOp.setEnd 101 2160000).timely .rate25 = true ∧
      (EditOp.setEnd 101 2160001).timely .rate25 = false) ∧
    (statedPos .rate25 (114, ⟨0, 0, 40, 0⟩) = some ⟨114, 1000⟩ ∧ Pos.inHorizon .rate25 ⟨100, 1000⟩ ⟨114, 1000⟩ = true ∧
      statedPos .rate25 (114, ⟨0, 0, 40, 1⟩) = some ⟨114, 1001⟩ ∧ Pos.inHorizon .rate25 ⟨100, 1000⟩ ⟨114, 1001⟩ = false) ∧
    ((EditOp.delete 103).placed channel.list = some .notFound ∧
      (EditOp.insertAfter (some 103) (carried 104)).placed channel.list = some .noAnchor ∧
      (EditOp.retimeStart 101 (100, ⟨0, 0, 40, 0⟩)).placed channel.list = some .badCommand ∧
      findEvent 101 channel.list = some (record 0 101 900) ∧ (record 0 101 900).stated.start = .follow) ∧
    ((EditOp.insertAfter none (carried 102)).check .rate25 ⟨100, 1000⟩ true false channel.list = some .duplicateId ∧
      (EditOp.replace 101 (carried 102)).check .rate25 ⟨100, 1000⟩ true false channel.list = some .duplicateId ∧
      (EditOp.replace 101 (carried 101)).check .rate25 ⟨100, 1000⟩ true false channel.list = none) ∧
    ((EditOp.retimeStart 104 (412, ⟨17, 0, 0, 0⟩)).check .rate25 ⟨412, 1600000⟩ true false channel7 = some .badOrder ∧
      (EditOp.retimeStart 104 (412, ⟨17, 0, 0, 0⟩)).timely .rate25 = true ∧
      (EditOp.retimeStart 104 (412, ⟨17, 0, 0, 0⟩)).placed channel7 = none ∧
      inOrder .rate25 ((EditOp.retimeStart 104 (412, ⟨17, 0, 0, 0⟩)).onList .rate25 0 channel7) = false) ∧
    (512 ≤ (List.replicate 512 (record 0 101 900)).length ∧
      (EditOp.insertAfter none (carried 103)).check .rate25 ⟨100, 1000⟩ true false (List.replicate 512 (record 0 101 900)) =
        some .listFull ∧
      (EditOp.insertAfter none (carried 103)).check .rate25 ⟨100, 1000⟩ true true channel.list = some .poolFull ∧
      (EditOp.insertAfter none (carried 103)).check .rate25 ⟨100, 1000⟩ true false channel.list = none) := by
  decide +kernel

/-- Event 101, past. -/
def passed : Rec := { record 0 101 900 with derived := { (record 0 101 900).derived with past := true } }

/-- An anchor's event that is past, one that is not, and one that the list does not hold. -/
theorem meets_BeatsAreRecordedAndAnchored_past :
    (splitAt 101 [passed] = some ([], passed, []) ∧ passed.derived.past = true ∧
      clearPastFrom 101 [passed] = [record 0 101 900]) ∧
    (splitAt 102 channel.list = some ([record 0 101 900], record 1 102 1400, []) ∧
      (record 1 102 1400).derived.past = false) ∧ splitAt 103 channel.list = none := by decide +kernel

/-- Three and four exclusions of other rivals, the new one in front, between and behind; a station heard that is present,
and one that was absent and is the source of an orphan flag. -/
theorem meets_SilentPeersAndExclusionsRunOut_heard :
    ((([(1, ⟨100, 1100⟩), (2, ⟨100, 1200⟩), (4, ⟨100, 1250⟩), (5, ⟨100, 1250⟩)] : List (Addr × Pos)).filter
        fun y => decide (y.1 ≠ 5)).length < 4 ∧
      ¬(([(1, ⟨100, 1100⟩), (2, ⟨100, 1200⟩), (4, ⟨100, 1250⟩), (5, ⟨100, 1250⟩)] : List (Addr × Pos)).filter
        fun y => decide (y.1 ≠ 6)).length < 4) ∧
    (addExclusion .rate25 [(1, ⟨100, 1100⟩), (2, ⟨100, 1200⟩)] (6, ⟨100, 1100⟩) =
        [(1, ⟨100, 1100⟩), (6, ⟨100, 1100⟩), (2, ⟨100, 1200⟩)] ∧
      addExclusion .rate25 [(1, ⟨100, 1100⟩)] (1, ⟨100, 1050⟩) = [(1, ⟨100, 1050⟩)]) ∧
    (1 ≤ (5 : Addr) ∧ (5 : Addr) ≤ 30 ∧ ((peerQuiet 1).peer 5).present = true ∧ (station.peer 5).present = false ∧
      ((inView fun v => { v with orphanSource := some 5 }).view 0).orphanSource = some 5 ∧
      ((inView fun v => { v with orphanSource := some 5 }).peer 5).present = false ∧
      (station.view 0).orphanSource ≠ some 5) := by decide +kernel

/-- Slot 0 JOINING channel 1 with a SKIP of event 101, which carries a lock key. -/
def skipping : State :=
  (joining { planAt 1000 (.slate 1) none with kind := .skip } false).modChan 0 fun ch =>
    { ch with list := [withKey 9 (record 0 101 900), record 1 102 1400] }

theorem meets_JoinCuesAreIssuedAndFired_skip :
    (skipping.slot 0).chan = some 0 ∧ findEvent 101 (skipping.chan 0).list = some (withKey 9 (record 0 101 900)) ∧
    (withKey 9 (record 0 101 900)).stated.lockKey = some 9 ∧ (skipping.slot 0).join.map Plan.kind = some .skip ∧
    (skipping.slot 0).join.bind Plan.actual = some ⟨100, 900⟩ := by decide +kernel

/-- The outgoing event: none; gone from the list; its natural end later than now, and not; and unresolved. -/
theorem meets_ArmedCuesFire_cut :
    ((bare 0 fun x => { x with cur := none }).slot 0).cur.bind Cue.event = none ∧
    (((onAir id).slot 0).cur.bind Cue.event = some 101 ∧
      findEvent 101 (((onAir id).modChan 0 fun ch => { ch with list := [record 1 102 1400] }).chan 0).list = none) ∧
    (findEvent 101 ((onAir id).chan 0).list = some (record 0 101 900) ∧ ((onAir id).chan 0).anchor = none ∧
      (record 0 101 900).stated.stop = .timed 500 ∧ (record 0 101 900).derived.start = some ⟨100, 900⟩ ∧
      Pos.after .rate25 (Pos.add .rate25 ⟨100, 900⟩ 500) (onAir id).now = true) ∧
    (((anchoredAt .air 950).chan 0).anchor.map Anchor.actual = some ⟨100, 700⟩ ∧
      Pos.after .rate25 (Pos.add .rate25 ⟨100, 500⟩ 500) (onAir id).now = false) ∧
    (event 101 (.live 7) .follow none (.openEnd none) .joinable).stated.stop = .openEnd none := by decide +kernel

/-- A cue armed between frame events with its CUE owed, as its slot comes to step 9. -/
def owing : State :=
  bare 8 fun x => { x with armed := some ⟨102, ⟨100, 1009⟩, ⟨100, 1000⟩, 0, false, [], true⟩ }

theorem meets_CuesAreArmedLockedAndFilled_owed :
    ((owing.atLater 0).slot 0).state.holds = true ∧ ((owing.atLater 0).slot 0).stepsDone = 8 ∧
    ((owing.atLater 0).slot 0).chan = some 0 ∧
    (((owing.atLater 0).slot 0).armed.map fun a => (a.event, a.cueOwed)) = some (102, true) ∧
    (Pos.before .rate25 ⟨100, 1007⟩ (Pos.add .rate25 ⟨100, 1000⟩ station.cfg.lockLead) = true ∧
      (Pos.diff .rate25 ⟨100, 1007⟩ (Pos.add .rate25 ⟨100, 1000⟩ station.cfg.lockLead)).toNat = 1) := by decide +kernel

/-- A PULSE of line 2 at offset 50 from frame 900, 16 times at 20 frames; the cue on air from frame 960 to its end at the
frame given. -/
def repeated (e : Nat) : Cue :=
  { cue with actual := ⟨100, 960⟩, cueEnd := some ⟨100, e⟩, cues := [⟨50, 2, .pulse, 16, 20⟩] }

/-- Occurrences before the actual start, at it and behind it; at the cue end and in front of it; sixteen at most; and
places alike in due position told apart by the cue and the repeat index. -/
theorem meets_LinesFollowTheirOccurrences_generated :
    ((occsFrom .rate25 (repeated 1011) 0 ⟨50, 2, .pulse, 16, 20⟩ 0 16).map fun o => (o.due.frame, o.rep)) =
      [(970, 1), (990, 2), (1010, 3)] ∧
    ((occsFrom .rate25 (repeated 1010) 0 ⟨50, 2, .pulse, 16, 20⟩ 0 16).map fun o => (o.due.frame, o.rep)) =
      [(970, 1), (990, 2)] ∧
    ((refillList .rate25 (repeated 1400) [] [0]).length = 15 ∧
      generated (repeated 1400) [] [0] (refillList .rate25 (repeated 1400) [] [0]) = [16]) ∧
    (baseIndex [⟨⟨100, 990⟩, 2, .pulse, 0, 2⟩] 0 5 = 2 ∧ baseIndex [] 0 5 = 5) ∧
    (occBefore .rate25 ⟨⟨100, 990⟩, 2, .pulse, 0, 2⟩ ⟨⟨100, 990⟩, 1, .set, 1, 0⟩ = true ∧
      occBefore .rate25 ⟨⟨100, 990⟩, 1, .set, 1, 0⟩ ⟨⟨100, 990⟩, 2, .pulse, 0, 2⟩ = false) ∧
    (∀ a ∈ occsFrom .rate25 (repeated 1011) 0 ⟨50, 2, .pulse, 16, 20⟩ 0 16,
      ∀ b ∈ occsFrom .rate25 (repeated 1011) 0 ⟨50, 2, .pulse, 16, 20⟩ 0 16,
        occBefore .rate25 a b = true → occBefore .rate25 b a = false) ∧
    (((onAir id).slot 0).cur = some cue ∧ (station.slot 0).cur = none) := by decide +kernel

/-- A plan that an operator's release ends, and one that a HANDBACK ends, the channel with an AIR anchor and without. -/
theorem meets_ReleasesAreTakenWhole_plan :
    (((handingBack (plan 1400 true false) true).slot 0).chan = some 0 ∧
      ((handingBack (plan 1400 true false) true).slot 0).handback = some (plan 1400 true false) ∧
      ReleaseReason.operator ≠ .handback) ∧
    (((handingBack (plan 1000 true true) true).chan 0).replica = .current ∧
      (handingBack (plan 1000 true true) true).active = true ∧
      ((handingBack (plan 1000 true true) true).chan 0).watched = true ∧
      ((handingBack (plan 1000 true true) true).modChan 0 fun ch => { ch with replica := .empty }).chan 0 =
        { (handingBack (plan 1000 true true) true).chan 0 with replica := .empty }) ∧
    (((anchoredAt .air 950).chan 0).anchor.map Anchor.source = some .air ∧
      ((anchoredAt .beat 950).chan 0).anchor.map Anchor.source = some .beat ∧
      ((onAir id).chan 0).anchor = none) := by decide +kernel

/-- A message queued on an idle line, on a busy one, and with a wait running; and a wait whose class has emptied. -/
theorem meets_TheLineIsGainedByWaits_queued :
    ((queued [] full1 [] none).active = true ∧ (queued [] full1 [] none).line.idle = true ∧
      (queued [] full1 [] none).line.wait = none ∧ (queued [] full1 [] none).line.sending = none ∧
      (queued [] full1 [] none).offered = some .one) ∧
    (station.line.idle = false ∧ (queued full0 [] [] (some ⟨.zero, 11⟩)).line.wait ≠ none ∧
      (queued [] [] [] none).offered = none) ∧
    ((queued [] full1 [] (some ⟨.zero, 11⟩)).found.active = true ∧
      (queued [] full1 [] (some ⟨.zero, 11⟩)).found.line.wait = some ⟨.zero, 11⟩ ∧
      (queued [] full1 [] (some ⟨.zero, 11⟩)).found.queue .zero = []) := by decide +kernel

/-- Channel 1 under SITE with nobody named its holder. -/
def unheld (r : ReplicaState) : State :=
  inChan fun ch => { ch with authority := .site, replica := r }

/-- A station about to become READY, with a channel the test of R81 returns and one it leaves. -/
theorem meets_StationStatesFollowTheTable_returning :
    let s := { unheld .current with loader := { station.loader with station := .listening, listening := 36 } }
    (s.loader.releasePhase = none ∧ s.loader.station = .listening ∧ 36 ≤ s.loader.listening ∧
      s.loader.defaulted = false ∧ s.time.timeState = .set) ∧
    ((s.chan 0).authority = .site ∧ (s.view 0).holder = none ∧
      (s.watchRec 0).map (fun w => (w.orphan, w.health)) = some (false, .nominal) ∧ (s.chan 0).watched = true) ∧
    ((s.chan 1).authority = .main ∧ (s.updateStation.chan 0).authority = .main ∧
      (s.updateStation.chan 0).replica = .stale ∧ (s.updateStation.chan 1).authority = .main) := by decide +kernel

/-- A list of four past events and one that is not, of a watched channel, and a channel that is not watched. -/
theorem meets_RestartRunsTheReleasePhase_lists :
    let s := inChan fun ch => { ch with list := List.replicate 4 passed ++ [record 1 102 1400] }
    ((s.chan 0).watched = true ∧ ((s.chan 0).list.filter fun e => e.derived.past).length ≤ 4 ∧
      ((s.enterStart.chan 0).list.map fun e => e.derived.start.map Pos.frame) =
        [some 900, some 900, some 900, some 900, none]) ∧ (s.chan 1).watched = false := by decide +kernel

/-- A past event behind one that is not: it keeps its times, and the event behind it follows the one in front of it. -/
theorem meets_WalksDeriveEachStartAndEnd_passed :
    passed.derived.past = true ∧
    times (walkList .rate25 ⟨100, 1500⟩ (fun _ => none) none
      [event 100 (.live 1) (.fixed ⟨100, 2000⟩) none (.timed 100) .joinable, passed,
        event 102 (.live 1) .follow none (.timed 50) .joinable]) =
      [(some 2000, some 2100, false, false, false), (some 900, some 1400, false, false, false),
        (some 2100, some 2150, false, false, false)] := by decide +kernel

/-- Station 5 named holder of a channel under MAIN; sequences below the top and at it. -/
theorem meets_EditsAreTakenInSequence_top :
    let s := station.modView 0 fun v => { v with holder := some 5, holderEpoch := 4 }
    (s.found.receive (edit 5 1 5 9 2 101) = edited 5 (chanNo 0) 5 9 2 101 ∧ ((s.found.hear 5).chan 0).watched = true ∧
      ((s.found.hear 5).chan 0).authority = .main ∧ ((s.found.hear 5).view 0).holder = some 5) ∧
    (((inChan fun ch => { ch with nextSeq := 4294967294 }).chan 0).nextSeq < 4294967295 ∧
      4294967295 ≤ ((inChan fun ch => { ch with nextSeq := 4294967295 }).chan 0).nextSeq) ∧
    (station.active = true ∧ (station.chan 0).replica ≠ .empty) := by decide +kernel

/-- A profile that masks `n` cells, all else at its default, its levels as given. -/
def masking (n : Nat) (levels : List Nat) : RawProfile := ⟨[], 1, 0, [], levels, 2 ^ n - 1⟩

/-- A probe of the channel and one of another, a mask other than before and the same; and values below, at, inside and
above their ranges, with a preference list that repeats an address and names one too high. -/
theorem meets_CheckedEditsKeepTheListSound_profile :
    (((probing id).probe 0).chan = some 0 ∧ ((probing id).probe 1).chan = none ∧
      (masking 8 []).store.mask ≠ ((probing id).chan 0).profile.mask ∧
      (masking 0 []).store.mask = ((probing id).chan 0).profile.mask) ∧
    (({ masking 0 [0, 0, 64, 4, 251, 0, 145, 65, 75] with slate := 17, leader := 33, preference := [5, 2, 5, 17] } :
        RawProfile).store =
      { Profile.default with slate := 16, preference := [5, 2], dl := 0, nd := 1, fl := 63, fp := 3, nf := 250,
                             cl := 1, cs := 144, k := 64, nz := 75 }) := by decide +kernel

/-- A load that fails with a candidate left, and with none. -/
theorem meets_SegmentsBuildTheInstalledImage_moving :
    let s := (halfLoaded.modPeer 17 fun p => { p with heard := true, link := .up }).modPeer 18 fun p =>
      { p with heard := true, link := .up }
    let asked := fun xs => s.modChan 0 fun ch => { ch with request := some ⟨xs, some 17, 3, .loading, .echoed⟩ }
    (((asked [17]).chan 0).replica = .loading ∧ ((asked [17]).chan 0).shadow.isSome = true ∧
      (asked [17]).candidates 0 = [17] ++ 18 :: [] ∧ (18 : Addr) ∉ [17]) ∧
    (∀ a ∈ (asked [17, 18]).candidates 0, a ∈ [17, 18]) ∧
    ((probing id).probe 0).chan = some 0 ∧
    (∀ e ∈ station.repl.parked, e.chan ≠ 0) := by decide +kernel

/-- The request at the head dropped with its image half queued and not started; one all queued; one of another channel;
and the answer of count 0 with room, without, and behind another. -/
theorem meets_ImagesAreServedWhole_dropped :
    (station.repl.service = [] ∧ (serving [(9, 1)] false).repl.service = [(9, 1)]) ∧
    ((midImage 2 1).repl.service = [(9, 0)] ∧ (midImage 2 1).repl.serving = some ⟨1, 4, 9, 2, 1⟩ ∧
      (midImage 2 2).repl.serving = some ⟨1, 4, 9, 2, 2⟩ ∧ (serving [(9, 0)] false).repl.serving = none) ∧
    (station.repl.zeroAnswers = [] ∧ station.hasRoom .two = true ∧ (serving [(9, 0)] true).hasRoom .two = false ∧
      (station.setRepl fun r => { r with zeroAnswers := [(9, 33)] }).repl.zeroAnswers ≠ []) := by decide +kernel

/-- A slot that holds a follower and one of neither channel; a duplicate; a release that the test of R81 follows, met and
not. -/
theorem meets_ReleasesAreTakenWhole_rest :
    (((follower id).slot 1).chan = some 1 ∧ (follower id).leaderOf 1 = some 0 ∧ ((follower id).slot 2).chan = none ∧
      (follower id).leaderOf 2 = none) ∧
    ((duplicated.slot 0).chan = some 0 ∧ (duplicated.watchRec 0).isSome = true ∧
      (duplicated.view 0).duplicate = some ⟨5, 5, none⟩) ∧
    (let s := (onAir id).modChan 0 (fun ch => { ch with authority := .site });
      ((s.releaseSlot 0 .operator).chan 0).authority = .main ∧
      (s.releaseSlot 0 .operator).watchRec 0 = (s.watchRec 0).map fun w =>
        { w with beatLost := ⟨false, ⟨100, 1000⟩, 0⟩, mainFault := ⟨false, ⟨100, 1000⟩, 0⟩,
                 pictureBad := ⟨false, ⟨100, 1000⟩, 0⟩, pictureUnknown := ⟨true, ⟨100, 1000⟩, 0⟩,
                 linkDown := ⟨true, ⟨100, 1000⟩, 0⟩ }) ∧
    (((onAir id).releaseSlot 0 .operator).chan 0).authority = .main := by decide +kernel

/-- The join point before an event, at its start, one frame before its end and at it; and an OPEN event with no end. -/
theorem meets_JoinPlansFollowTheTable_covers :
    ((record 0 101 900).covers .rate25 ⟨100, 899⟩, (record 0 101 900).covers .rate25 ⟨100, 900⟩,
      (record 0 101 900).covers .rate25 ⟨100, 1399⟩, (record 0 101 900).covers .rate25 ⟨100, 1400⟩) =
      (false, true, true, false) ∧
    ((record 0 101 900).startsAfter .rate25 ⟨100, 899⟩, (record 0 101 900).startsAfter .rate25 ⟨100, 900⟩) =
      (true, false) ∧
    ({ event 103 (.live 1) .follow none (.openEnd none) .joinable with
        derived := { Derived.fresh with start := some ⟨100, 900⟩ } } : Rec).covers .rate25 ⟨150, 0⟩ = true := by
  decide +kernel

/-- A replica that is EMPTY and one under load, in a station that is active. -/
theorem meets_ReleasesHeardAreJudged_round :
    station.active = true ∧ ((loading 5 .loading).chan 0).replica ≠ .empty ∧ (station.chan 1).replica = .empty ∧
    (((relayUp [17]).mainReturns 0 (some 9)).chan 0).request.map (fun q => (q.asked, q.target, q.stage)) =
      some ([], some 17, .asking) := by decide +kernel

/-! ### Witnesses of the clauses on watch, cue end, form and parked edits -/

theorem meets_WalksDeriveEachStartAndEnd_soft :
    (record 0 101 900).stated.start = .follow ∧
    (event 202 (.live 1) .locked (some 9) (.timed 50) .joinable).stated.start = .locked := by decide

/-- Parked edits of channel 1 under another epoch, below the image's base and at it; and one of another channel. -/
def parkedBehind : State :=
  halfLoaded.setRepl fun q => { q with parked :=
    [⟨0, 3, 12, 17, 2, [], 0⟩, ⟨0, 4, 8, 17, 2, [], 0⟩, ⟨0, 4, 9, 17, 2, toBE 4 101, 0⟩, ⟨1, 3, 8, 17, 2, [], 0⟩] }

/-- The install frees the first two, and the drain applies the third, a DELETE of event 101. -/
theorem meets_SegmentsBuildTheInstalledImage_parked :
    let sh : Shadow := ⟨6, 4, 9, 1, [(0, [{ record 0 101 900 with derived := Derived.fresh }])], none, (.stale, none), 0⟩
    (∀ e ∈ State.shadowRecs sh, e.derived = Derived.fresh) ∧
    parkedBehind.repl.parked.map (fun e =>
      !(decide (e.chan = 0) && (decide (e.epoch ≠ sh.epoch) || decide (e.seq < sh.base)))) = [false, false, true, true] ∧
    ((parkedBehind.install 0 sh).repl.parked.map fun e => (e.chan, e.seq)) = [(1, 8)] ∧
    ((parkedBehind.install 0 sh).chan 0).nextSeq = 10 ∧ ((parkedBehind.install 0 sh).chan 0).list = [] := by decide +kernel

/-- Entries at and outside the bounds of R65's form, and a prepared event in the day, outside it and absent. -/
theorem meets_BeatsAreRecordedAndAnchored_form :
    let b := beatEntry 3 2159999
    (({ b with chan := 32 } : RawBeat).entry .rate25 = some (31, ⟨4, .fault, 101, 100, ⟨100, 2159999⟩, none⟩)) ∧
    ([{ b with chan := 0 }, { b with chan := 33 }, { b with main := 0 }, { b with main := 4 }, { b with present := 2 },
        { b with report := ⟨100, 2160000⟩ }].map fun x : RawBeat => (x.entry .rate25).isNone) = List.replicate 6 true ∧
    ([(1, 2159999), (1, 2160000), (0, 0)].map fun x : Nat × Nat =>
        (({ b with present := x.1, preparedEvent := 7, preparedPos := ⟨5, x.2⟩ } : RawBeat).entry .rate25).bind fun y =>
          y.2.prepared) = [some (7, ⟨5, 2159999⟩), none, none] := by decide +kernel

/-- A holder learned in each contest, and in a channel not watched. -/
theorem meets_BeaconsAreOfferedAndJudged_contests :
    ([Contest.idle, .claiming, .deferred, .taking, .taken].map fun x =>
      ((contested x).chan 0).watched && decide (((contested x).view 0).holder = none) &&
        decide (((contested x).chan 0).epoch ≤ 4) && decide (((contested x).view 0).contest = x)) = List.replicate 5 true ∧
    ((station.chan 1).watched = false ∧ (station.view 1).holder = none ∧ (station.chan 1).epoch ≤ 4) := by decide +kernel

/-- The join fire of a CLIP and of a LIVE event, and of a SKIP, in the slot that holds the channel. -/
theorem meets_JoinCuesAreIssuedAndFired_watch :
    let s := joining (planAt 1000 (.clip [65] 0) (some 100)) false
    ((s.slot 0).chan = some 0 ∧ s.holdingSlot 0 = some 0 ∧ (s.chan 0).watched = true ∧
      findEvent 101 (s.chan 0).list = some (record 0 101 900)) ∧
    (((s.fireJoin 0 0 (planAt 1000 (.clip [65] 0) (some 100))).slot 0).expectedBy.isSome = true ∧
      ((s.fireJoin 0 0 (planAt 1000 (.live 7) none)).slot 0).expectedBy = none) ∧
    (skipping.holdingSlot 0 = some 0 ∧ (skipping.chan 0).watched = true) := by decide +kernel

/-- Channel 1 with the source given for its event 102, slot 0 in the state given. -/
def firing (src : Source) (st : SlotState) : State :=
  (onAir id).modChan 0 (fun ch => { ch with list :=
    [record 0 101 900, { record 1 102 1000 with stated := { (record 1 102 1000).stated with source := src } }] })
    |>.modSlot 0 fun x => { x with state := st, fallbackSince := some ⟨100, 990⟩, restarts := 1, tally := true }

/-- The watch and the state that the fire of event 102 at now leaves its slot. -/
def fired (src : Source) (st : SlotState) : Option (Option Pos × Option Pos × SlotState × Nat) :=
  (findEvent 102 ((firing src st).chan 0).list).map fun e =>
    let x := ((firing src st).fireFrom 0 0 e ⟨100, 1000⟩ 0 []).slot 0
    (x.expectedBy, x.fallbackSince, x.state, x.restarts)

/-- The fire of a CLIP and of a LIVE event, in an ON AIR and in a FALLBACK slot that holds the channel (R151 steps 8, 9). -/
theorem meets_ArmedCuesFire_watch :
    (((firing (.clip [65] 0) .fallback).slot 0).chan = some 0 ∧ (firing (.clip [65] 0) .fallback).holdingSlot 0 = some 0 ∧
      ((firing (.clip [65] 0) .fallback).chan 0).watched = true) ∧
    [fired (.clip [65] 0) .onAir, fired (.clip [65] 0) .fallback, fired (.live 7) .onAir, fired (.live 7) .fallback] =
      [some (some ⟨100, 1004⟩, some ⟨100, 990⟩, .onAir, 0), some (some ⟨100, 1004⟩, some ⟨100, 990⟩, .fallback, 0),
        some (none, some ⟨100, 990⟩, .onAir, 0), some (none, none, .onAir, 0)] := by decide +kernel

/-- The cue end: of the anchor event, of another event, of one gone from the list, and of a fill with a cue armed and with
none; and a slot without a cue. -/
theorem meets_CuesAreArmedLockedAndFilled_end :
    let fill : Cue := fillCue ⟨100, 1000⟩ 1
    (((onAir id).slot 0).cur = some cue ∧ (splitAt 101 ((onAir id).chan 0).list).isSome = true ∧
      ((onAir id).chan 0).anchor = none ∧ (onAir id).cueEndOf 0 0 cue = some ⟨100, 1400⟩) ∧
    (((anchoredAt .air 950).chan 0).anchor = some ⟨101, ⟨100, 700⟩, .air, ⟨100, 950⟩⟩ ∧
      (anchoredAt .air 950).cueEndOf 0 0 cue = some ⟨100, 1200⟩) ∧
    (splitAt 101 (((onAir id).modChan 0 fun ch => { ch with list := [record 1 102 1400] }).chan 0).list = none) ∧
    (((armedAt 102 1009 8).slot 0).armed.map Armed.firePos = some ⟨100, 1009⟩ ∧
      (armedAt 102 1009 8).cueEndOf 0 0 fill = some ⟨100, 1009⟩) ∧
    (((bare 8 fun x => { x with cur := some fill }).slot 0).cur = some fill ∧
      ((bare 8 fun x => { x with cur := some fill }).slot 0).armed = none ∧
      (bare 8 fun x => { x with cur := some fill }).cueEndOf 0 0 fill = some ⟨100, 1400⟩) ∧
    (station.slot 0).cur = none := by decide +kernel

/-! ### Witnesses: encodings and invariants -/

/-- A record with every optional field, its stated start at the last frame of the day. -/
def fullest : Stated :=
  ⟨4294967295, .clip (List.replicate 24 126) 2589407, .fixed ⟨65535, 2589407⟩, some 4294967295, .timed 2589408, .whole,
    List.replicate 4 ⟨2589407, 3, .toggle, 16, 65535⟩⟩

theorem meets_EventRecordsReadBack :
    (1 ≤ fullest.id ∧ fullest.id < 4294967296) ∧
    (1 ≤ (List.replicate 24 (126 : Byte)).length ∧ (List.replicate 24 (126 : Byte)).length ≤ 24 ∧
      (List.replicate 24 (126 : Byte)).all printable = true ∧ 2589407 < Rate.rate30df.fpd) ∧
    (∀ p, fullest.start = .fixed p → p.day < 65536 ∧ p.frame < Rate.rate30df.fpd) ∧
    (∀ k, fullest.lockKey = some k → k < 4294967296) ∧ (fullest.start = .locked → fullest.lockKey ≠ none) ∧
    (∀ d, fullest.stop.field = some d → 1 ≤ d ∧ d ≤ Rate.rate30df.fpd) ∧ fullest.cues.length ≤ 4 ∧
    (∀ c ∈ fullest.cues, c.offset < Rate.rate30df.fpd ∧ 1 ≤ c.count ∧ c.count ≤ 16 ∧ c.period < 65536 ∧
      (c.count ≠ 1 → 1 ≤ c.period)) := by
  refine ⟨by decide, by decide, ?_, ?_, by decide, ?_, by decide, by decide⟩
  · rintro p ⟨⟩; decide
  · rintro k ⟨⟩; decide
  · rintro d ⟨⟩; decide

/-- The station with a command waiting. -/
def waiting : State := { station with pending := [.lineGoesBusy] }

theorem test_waiting_command_runs : ∃ t, step waiting = .next t := ⟨_, rfl⟩

theorem meets_EveryStepKeepsTheClockSound : waiting.ClockSound ∧ ∃ t, step waiting = .next t :=
  ⟨⟨⟨by decide +kernel, by decide +kernel⟩, nofun, nofun, nofun⟩, test_waiting_command_runs⟩

theorem meets_EveryStepKeepsTheLogSound : logged.LogSound ∧ ∃ t, step logged = .next t :=
  ⟨meets_QueriesAnswerWithTheirItems_log, _, rfl⟩

theorem test_station_records : station.chans.toList.flatMap State.ChannelRec.indices = [0, 1] := by decide +kernel

theorem test_pool_split : [0, 1] ++ waiting.free = List.range 2048 := by decide +kernel

theorem meets_EveryStepKeepsThePoolWhole : waiting.PoolWhole ∧ ∃ t, step waiting = .next t := by
  have h : waiting.chans.toList.flatMap State.ChannelRec.indices = [0, 1] := test_station_records
  refine ⟨?_, test_waiting_command_runs⟩
  rw [State.PoolWhole, h, ← test_pool_split]
  exact List.perm_append_comm

/-- The station with the three queues, the parked queue and the image service full. -/
def brimful : State :=
  { parkedFull with
      repl := { parkedFull.repl with service := [(1, 0), (2, 0), (4, 0), (5, 0)] }
      line := { Line.reset with q0 := full0, q1 := full1, q2 := List.replicate 16 ⟨.imageNone 9 33 0, false⟩ } }

theorem meets_EveryStepKeepsTheQueuesShort : brimful.QueuesShort ∧ ∃ t, step brimful = .next t :=
  ⟨⟨by decide, by decide, by decide, by decide, by decide, nofun, nofun⟩, _, rfl⟩

end Sys2Proof.Tests
end

/-! ## Positions on the ring and labels (R4, R5, R7 to R9) -/

namespace Sys2Proof.Machine

/-! ### The day's length, the ring and the ranges of a position -/

@[simp] theorem Rate.fpd_rate25 : Rate.rate25.fpd = 2160000 := rfl
@[simp] theorem Rate.fpd_rate30df : Rate.rate30df.fpd = 2589408 := rfl
@[simp] theorem Rate.ring_rate25 : Rate.rate25.ring = 141557760000 := rfl
@[simp] theorem Rate.ring_rate30df : Rate.rate30df.ring = 169699442688 := rfl

theorem Rate.fpd_pos (r : Rate) : 0 < r.fpd := by cases r <;> simp

theorem Pos.valid_iff (r : Rate) (p : Pos) : p.valid r = true ↔ p.day < 65536 ∧ p.frame < r.fpd := by
  simp [Pos.valid]

theorem Pos.abs_lt_ring (r : Rate) {p : Pos} (h : p.valid r = true) : p.abs r < r.ring := by
  obtain ⟨hd, hf⟩ := (p.valid_iff r).mp h
  cases r <;> simp only [Pos.abs, Rate.fpd_rate25, Rate.fpd_rate30df, Rate.ring_rate25, Rate.ring_rate30df] at * <;> omega

/-! ### Positions made from absolute frames -/

theorem Pos.valid_ofAbs (r : Rate) (n : Nat) : (Pos.ofAbs r n).valid r = true :=
  (Pos.valid_iff r _).mpr ⟨Nat.mod_lt _ (by decide), Nat.mod_lt _ r.fpd_pos⟩

theorem Pos.abs_ofAbs (r : Rate) (n : Nat) : (Pos.ofAbs r n).abs r = n % r.ring := by
  rw [Rate.ring, Nat.mul_comm, Nat.mod_mul, Nat.add_comm, Nat.mul_comm]; rfl

theorem Pos.abs_add (r : Rate) (p : Pos) (n : Nat) : (p.add r n).abs r = (p.abs r + n) % r.ring :=
  Pos.abs_ofAbs r _

theorem Pos.abs_sub (r : Rate) (p : Pos) (n : Nat) :
    ((p.sub r n).abs r : Int) = ((p.abs r : Int) - n) % (r.ring : Int) := by
  have hr : (0 : Int) < r.ring := by cases r <;> simp
  rw [Pos.sub, Pos.abs_ofAbs, Int.natCast_emod, Int.toNat_of_nonneg (Int.emod_nonneg _ hr.ne'), Int.emod_emod]

/-! ### The one-frame advance -/

theorem Pos.valid_succ (r : Rate) {p : Pos} (h : p.valid r = true) : (p.succ r).valid r = true := by
  obtain ⟨hd, hf⟩ := (p.valid_iff r).mp h
  have hz := r.fpd_pos
  rw [Pos.valid_iff, Pos.succ]
  split
  · exact ⟨by dsimp only; split <;> omega, hz⟩
  · exact ⟨hd, by dsimp only; omega⟩

theorem Pos.abs_succ (r : Rate) {p : Pos} (h : p.valid r = true) : (p.succ r).abs r = (p.abs r + 1) % r.ring := by
  obtain ⟨hd, hf⟩ := (p.valid_iff r).mp h
  unfold Pos.succ
  split
  · split <;> cases r <;> simp [Pos.abs] at * <;> omega
  · cases r <;> simp [Pos.abs] at * <;> omega

/-! ### The difference of two positions -/

/-- The difference lies in the half-open interval of one ring around 0, and is the difference of the absolute frames on
the ring. -/
theorem Pos.diff_spec (r : Rate) (y x : Pos) :
    -(32768 * r.fpd : Int) ≤ Pos.diff r y x ∧ Pos.diff r y x < 32768 * r.fpd ∧
      (Pos.diff r y x - ((x.abs r : Int) - y.abs r)) % (r.ring : Int) = 0 := by
  unfold Pos.diff
  dsimp only
  split <;> cases r <;> simp at * <;> omega

/-- An integer of that interval that is the difference on the ring is the difference. -/
theorem Pos.diff_unique (r : Rate) {y x : Pos} {d : Int} (lo : -(32768 * r.fpd : Int) ≤ d) (hi : d < 32768 * r.fpd)
    (hd : (d - ((x.abs r : Int) - y.abs r)) % (r.ring : Int) = 0) : Pos.diff r y x = d := by
  obtain ⟨lo', hi', hd'⟩ := Pos.diff_spec r y x
  cases r <;> simp at * <;> omega

theorem Pos.diff_succ (r : Rate) {p : Pos} (h : p.valid r = true) : Pos.diff r p (p.succ r) = 1 := by
  refine Pos.diff_unique r ?_ ?_ ?_
  · cases r <;> simp
  · cases r <;> simp
  · rw [Pos.abs_succ r h]; cases r <;> simp <;> omega

theorem Pos.atOrPast_iff (r : Rate) (x y : Pos) : Pos.atOrPast r x y = true ↔ 0 ≤ Pos.diff r y x := by
  simp [Pos.atOrPast]

theorem Pos.after_iff (r : Rate) (x y : Pos) : Pos.after r x y = true ↔ 0 < Pos.diff r y x := by simp [Pos.after]

theorem Pos.before_iff (r : Rate) (x y : Pos) : Pos.before r x y = true ↔ Pos.diff r y x < 0 := by simp [Pos.before]

end Sys2Proof.Machine

namespace Sys2Proof.HouseTime
open Sys2Proof.Machine

/-- Settles O6: the advance and the sums are read off the absolute frame, the comparisons off the difference. -/
theorem positionsAreComparedOnTheRing : Obligations.PositionsAreComparedOnTheRing := by
  refine ⟨fun r p h => ⟨Pos.valid_succ r h, Pos.abs_succ r h, Pos.diff_succ r h⟩, fun r x y n hx _ => ?_⟩
  obtain ⟨lo, hi, onRing⟩ := Pos.diff_spec r y x
  have ring : (r.ring : Int) = 65536 * r.fpd := by cases r <;> rfl
  refine ⟨rfl, Pos.abs_lt_ring r hx, lo, hi, ring ▸ onRing, Pos.atOrPast_iff r x y, Pos.after_iff r x y,
    Pos.before_iff r x y, Pos.valid_ofAbs r _, Pos.abs_add r x n, Pos.valid_ofAbs r _, ring ▸ Pos.abs_sub r x n, ?_, ?_⟩
  · simp only [Pos.earlier, Pos.before_iff]
  · simp only [Pos.later, Pos.after_iff]

end Sys2Proof.HouseTime

/-! ## Labels (R7 to R9) -/

namespace Sys2Proof.Machine

/-! ### When a label is accepted -/

/-- R7: the frame of day at RATE25 and when there is one. -/
theorem Label.frame25_eq_some (l : Label) (f : Nat) : l.frame25 = some f ↔
    (l.hh ≤ 23 ∧ l.mm ≤ 59 ∧ l.ss ≤ 59 ∧ l.ff ≤ 24) ∧ ((l.hh * 60 + l.mm) * 60 + l.ss) * 25 + l.ff = f := by
  simp [Label.frame25, and_assoc]

/-- The frame of a ten-minute block that a RATE30DF label names (R8): its minute's digit, its second and its frame. -/
def Label.blockFrame (l : Label) : Nat :=
  if l.mm % 10 = 0 then l.ss * 30 + l.ff
  else 1800 + (l.mm % 10 - 1) * 1798 + l.ss * 30 + l.dropFF - 2

/-- R8: the frame of day at RATE30DF and when there is one. -/
theorem Label.frame30_eq_some (l : Label) (f : Nat) : l.frame30 = some f ↔
    (l.hh ≤ 23 ∧ l.mm ≤ 59 ∧ l.ss ≤ 59 ∧ l.ff ≤ 29) ∧
      107892 * l.hh + 17982 * (l.mm / 10) + l.blockFrame = f := by
  simp [Label.frame30, Label.blockFrame, and_assoc]

/-- A label whose fields lie in their ranges names a frame of its ten-minute block. -/
theorem Label.blockFrame_lt (l : Label) (hs : l.ss ≤ 59) (hf : l.ff ≤ 29) : l.blockFrame < 17982 := by
  unfold Label.blockFrame Label.dropFF
  split
  · omega
  · split <;> omega

theorem Label.toFrame_isSome (r : Rate) (l : Label) : (l.toFrame r).isSome = true ↔
    l.hh ≤ 23 ∧ l.mm ≤ 59 ∧ l.ss ≤ 59 ∧ l.ff ≤ (match r with | .rate25 => 24 | .rate30df => 29) := by
  cases r <;> simp [Option.isSome_iff_exists, Label.toFrame, Label.frame25_eq_some, Label.frame30_eq_some]

theorem Label.toFrame_lt (r : Rate) (l : Label) (f : Nat) (h : l.toFrame r = some f) : f < r.fpd := by
  cases r with
  | rate25 =>
    obtain ⟨⟨hh, hm, hs, hf⟩, rfl⟩ := (l.frame25_eq_some f).mp h
    rw [Rate.fpd_rate25]; omega
  | rate30df =>
    obtain ⟨⟨hh, hm, hs, hf⟩, rfl⟩ := (l.frame30_eq_some f).mp h
    have := l.blockFrame_lt hs hf
    rw [Rate.fpd_rate30df]; omega

/-! ### Labels made from frames -/

/-- R9 at RATE30DF in the first minute of a ten-minute block. -/
theorem Label.ofFrame_first_minute (f : Nat) (h : f % 107892 % 17982 < 1800) : Label.ofFrame .rate30df f =
    ⟨f / 107892, 10 * (f % 107892 / 17982), f % 107892 % 17982 / 30, f % 107892 % 17982 % 30⟩ := by
  simp only [Label.ofFrame, if_pos h]

/-- R9 at RATE30DF in the other nine minutes, each of which leaves two labels out. -/
theorem Label.ofFrame_later_minute (f : Nat) (h : 1800 ≤ f % 107892 % 17982) : Label.ofFrame .rate30df f =
    ⟨f / 107892, 10 * (f % 107892 / 17982) + 1 + (f % 107892 % 17982 - 1800) / 1798,
      ((f % 107892 % 17982 - 1800) % 1798 + 2) / 30, ((f % 107892 % 17982 - 1800) % 1798 + 2) % 30⟩ := by
  simp only [Label.ofFrame, if_neg (Nat.not_lt.mpr h)]

theorem Label.ofFrame25_toFrame (f : Nat) (h : f < 2160000) :
    (Label.ofFrame .rate25 f).toFrame .rate25 = some f := by
  refine (Label.frame25_eq_some _ f).mpr ?_
  dsimp only [Label.ofFrame]
  omega

/-- The label of a RATE30DF frame is never one that drop-frame timecode leaves out. -/
theorem Label.ofFrame30_dropFF (f : Nat) :
    (Label.ofFrame .rate30df f).dropFF = (Label.ofFrame .rate30df f).ff := by
  rcases Nat.lt_or_ge (f % 107892 % 17982) 1800 with first | later
  · rw [Label.ofFrame_first_minute f first]; simp [Label.dropFF]
  · rw [Label.ofFrame_later_minute f later, Label.dropFF]; dsimp only; split <;> omega

theorem Label.ofFrame30_toFrame (f : Nat) (h : f < 2589408) :
    (Label.ofFrame .rate30df f).toFrame .rate30df = some f := by
  refine (Label.frame30_eq_some _ f).mpr ?_
  rw [Label.blockFrame, Label.ofFrame30_dropFF]
  rcases Nat.lt_or_ge (f % 107892 % 17982) 1800 with first | later
  · rw [Label.ofFrame_first_minute f first]; dsimp only; rw [if_pos (by omega)]; omega
  · rw [Label.ofFrame_later_minute f later]; dsimp only; rw [if_neg (by omega)]; omega

theorem Label.ofFrame_toFrame (r : Rate) (f : Nat) (h : f < r.fpd) : (Label.ofFrame r f).toFrame r = some f := by
  cases r with
  | rate25 => exact Label.ofFrame25_toFrame f h
  | rate30df => exact Label.ofFrame30_toFrame f h

/-- A label the clamp of R8 reads stands for the one with FF 2, which is its frame's own label. -/
theorem Label.ofFrame_of_clamped (l : Label) (f : Nat) (clamped : l.dropFF ≠ l.ff)
    (h : l.toFrame .rate30df = some f) : Label.ofFrame .rate30df f = { l with ff := 2 } := by
  obtain ⟨⟨hh, hm, hs, hf⟩, rfl⟩ := (l.frame30_eq_some f).mp h
  have dropped : l.mm % 10 ≠ 0 ∧ l.ss = 0 ∧ l.ff < 2 := by
    by_contra g; exact clamped (if_neg g)
  obtain ⟨minute, second, low⟩ := dropped
  have block : l.blockFrame = 1800 + (l.mm % 10 - 1) * 1798 := by
    simp [Label.blockFrame, Label.dropFF, minute, second, low]
  have ten : (107892 * l.hh + 17982 * (l.mm / 10) + l.blockFrame) % 107892 = 17982 * (l.mm / 10) + l.blockFrame := by
    omega
  have within : (107892 * l.hh + 17982 * (l.mm / 10) + l.blockFrame) % 107892 % 17982 = l.blockFrame := by omega
  rw [Label.ofFrame_later_minute _ (by omega), within, ten, block, Label.mk.injEq]
  omega

end Sys2Proof.Machine

namespace Sys2Proof.HouseTime
open Sys2Proof.Machine

/-- Settles O7: each rate's label by its own divisions, and the RATE30DF frame within its ten-minute block. -/
theorem labelsConvertBack : Obligations.LabelsConvertBack :=
  ⟨⟨fun _ => rfl, Label.ofFrame_first_minute, Label.ofFrame_later_minute,
      fun r f h => ⟨Label.ofFrame_toFrame r f h, fun hr => hr ▸ Label.ofFrame30_dropFF f⟩, Label.ofFrame_of_clamped⟩,
    fun r l => ⟨l.toFrame_isSome r, l.toFrame_lt r⟩⟩

end Sys2Proof.HouseTime

/-! ## The machine's shape, its reset, and the frame event (R1 to R4, R10 to R12) -/

namespace Sys2Proof.Machine

theorem Slot.tick_eq (x : Slot) : x.tick = { x with
    fired := false, stepsDone := 0, faultDue := x.faultPending
    sincePlay := if x.expectedBy = none then x.sincePlay else min 10 (x.sincePlay + 1) } := by
  unfold Slot.tick
  cases x.expectedBy <;> rfl

namespace State

variable (s : State)

/-! ### Pulses, loss and the flywheel (R1 to R3) -/

theorem pulse_stopped (dt : Nat) (h : s.time.running = false) : s.pulse dt = s := by simp [pulse, h]

theorem pulse_pulsed (dt : Nat) (run : s.time.running = true) (ref : s.time.refState = .pulsed) :
    s.pulse dt = if s.rate.half ≤ s.time.sinceFrame + dt then s.openFrame else s.timePasses dt := by
  simp [pulse, run, ref]

theorem pulse_flywheel (dt : Nat) (run : s.time.running = true) (ref : s.time.refState = .flywheel) :
    let p := s.setTime fun t => { t with refState := .pulsed }
    s.pulse dt = if s.rate.half ≤ s.time.sinceFrame + dt then p.openFrame.referenceChanged
      else (p.setTime fun t => { t with sinceFrame := s.time.sinceFrame + dt, sinceMark := 0 }).referenceChanged := by
  simp [pulse, run, ref]

theorem loseReference_eq (dt : Nat) (run : s.time.running = true) :
    s.loseReference dt = if s.time.refState = .pulsed ∧ s.rate.loss ≤ s.time.sinceMark + dt then
      (s.setTime fun t => { t with refState := .flywheel }).openFrame.referenceChanged else s.timePasses dt := by
  simp [loseReference, run]

theorem loseReference_stopped (dt : Nat) (h : s.time.running = false) : s.loseReference dt = s := by
  simp [loseReference, h]

theorem substitute_eq (dt : Nat) (run : s.time.running = true) :
    s.substitute dt = if s.time.refState = .flywheel ∧ s.rate.period ≤ s.time.sinceFrame + dt then s.openFrame
      else s.timePasses dt := by
  simp [substitute, run]

theorem substitute_stopped (dt : Nat) (h : s.time.running = false) : s.substitute dt = s := by
  simp [substitute, h]

/-! ### The opening of a frame event, record by record (R1) -/

theorem openFrame_watchRec (c : Chan) : s.openFrame.watchRec c = (s.watchRec c).map WatchRec.tick := by
  simp [watchRec, openFrame, Vector.get_eq_getElem]

theorem openFrame_probe (p : ProbeId) : s.openFrame.probe p = (s.probe p).tick := by
  simp [probe, openFrame, Vector.get_eq_getElem]

theorem openFrame_view (c : Chan) : s.openFrame.view c = (s.view c).tick s.cfg.tw := by
  simp [view, openFrame, Vector.get_eq_getElem]

theorem openFrame_chan (c : Chan) : s.openFrame.chan c = (s.chan c).tick := by
  simp [chan, openFrame, Vector.get_eq_getElem]

theorem openFrame_slot (n : SlotId) : s.openFrame.slot n = (s.slot n).tick := by
  simp [slot, openFrame, Vector.get_eq_getElem]

/-- An address outside the peer table reads as never heard, and so does not count. -/
theorem openFrame_peer (a : Addr) : s.openFrame.peer a = (s.peer a).tick := by
  unfold peer
  cases peerIdx a with
  | none => rfl
  | some i => simp [openFrame, Vector.get_eq_getElem]

/-! ### The state after a full reset -/

theorem reset_time : reset.time = TimeBase.reset := by simp only [reset]
theorem reset_loader : reset.loader = Loader.reset := by simp only [reset]
theorem reset_repl : reset.repl = Replication.reset := by simp only [reset]
theorem reset_line : reset.line = Line.reset := by simp only [reset]
theorem reset_log : reset.log = [] := by simp only [reset]
theorem reset_logNext : reset.logNext = 0 := by simp only [reset]

theorem reset_free : reset.free = List.range 2048 := by simp only [reset]
theorem reset_chans : reset.chans = Vector.replicate 32 ChannelRec.reset := by simp only [reset]
theorem reset_chan (c : Chan) : reset.chan c = ChannelRec.reset := by simp [chan, reset, Vector.get_eq_getElem]
theorem reset_watchRec (c : Chan) : reset.watchRec c = none := by simp [watchRec, reset, Vector.get_eq_getElem]
theorem reset_probe (p : ProbeId) : reset.probe p = Probe.reset := by simp [probe, reset, Vector.get_eq_getElem]
theorem reset_view (c : Chan) : reset.view c = View.reset := by simp [view, reset, Vector.get_eq_getElem]
theorem reset_slot (n : SlotId) : reset.slot n = Slot.reset false := by simp [slot, reset, Vector.get_eq_getElem]
theorem reset_peer (a : Addr) : reset.peer a = Peer.reset := by
  unfold peer
  cases peerIdx a <;> simp [reset, Vector.get_eq_getElem]

/-- At reset no channel holds a record of the pool. -/
theorem reset_indices : reset.chans.toList.flatMap ChannelRec.indices = [] := by
  have empty : ChannelRec.indices Machine.ChannelRec.reset = [] := rfl
  rw [reset_chans, Vector.toList_replicate]
  exact List.flatMap_eq_nil_iff.mpr fun ch h => (List.eq_of_mem_replicate h) ▸ empty

theorem reset_clockSound : reset.ClockSound where
  position := by rw [posInRange, rate, reset_time, reset_loader]; exact ⟨by decide, by decide⟩
  mark m h := by rw [reset_time] at h; cases h
  held _ := by rw [reset_loader]; exact ⟨rfl, rfl, rfl⟩
  cold _ _ := by rw [reset_time]; exact ⟨rfl, rfl, rfl⟩

theorem reset_logSound : reset.LogSound where
  short := by rw [reset_log]; decide
  next := by rw [reset_logNext]; decide
  fits e h := by rw [reset_log] at h; cases h
  rising := by rw [reset_log]; trivial
  last e h := by rw [reset_log] at h; cases h

theorem reset_poolWhole : reset.PoolWhole := by
  rw [PoolWhole, reset_indices, List.append_nil, reset_free]

theorem reset_queuesShort : reset.QueuesShort := by
  constructor <;> simp [reset_line, reset_repl, Line.reset, Replication.reset]

end State

end Sys2Proof.Machine

namespace Sys2Proof.HouseTime
open Sys2Proof.Machine

/-- Settles O1: the queue's front decides the command, and the empty queue is the tick of log 1. -/
theorem stepTakesTheQueueInOrder : Obligations.StepTakesTheQueueInOrder := by
  refine ⟨fun _ _ _ => rfl, fun s empty => ⟨fun closed => ?_, fun opened => ?_⟩⟩
  · simp [step, empty, closed]
  · simp [step, empty, opened, State.found]

/-- Settles O4: each reference command is its meaning on the found state, by the equations of `pulse`, `loseReference`
and `substitute`. -/
theorem pulsesAndLossMakeFrameEvents : Obligations.PulsesAndLossMakeFrameEvents := by
  have onPulse (dt s) : exec (.framePulse dt) s = .next (s.found.pulse dt) := rfl
  have onLoss (dt s) : exec (.flywheelEntry dt) s = .next (s.found.loseReference dt) := rfl
  have onSubstitute (dt s) : exec (.substituteFrameEvent dt) s = .next (s.found.substitute dt) := rfl
  refine ⟨fun dt s => ?_, fun dt s => ?_⟩
  · simp only [onPulse]
    refine ⟨fun stop => ?_, fun run ref whole => ?_, fun run ref runt => ?_, fun run ref whole => ?_, fun run ref runt => ?_⟩
    · rw [State.pulse_stopped _ _ stop]
    · rw [State.pulse_pulsed _ _ run ref, if_pos whole]
    · rw [State.pulse_pulsed _ _ run ref, if_neg (Nat.not_le.mpr runt)]; rfl
    · rw [State.pulse_flywheel _ _ run ref, if_pos whole]; rfl
    · rw [State.pulse_flywheel _ _ run ref, if_neg (Nat.not_le.mpr runt)]; rfl
  · simp only [onLoss, onSubstitute]
    refine ⟨fun stop => ?_, fun run ref lost => ?_, fun run early => ?_, fun run ref due => ?_, fun run early => ?_⟩
    · rw [State.loseReference_stopped _ _ stop, State.substitute_stopped _ _ stop]; exact ⟨rfl, rfl⟩
    · rw [State.loseReference_eq _ _ run, if_pos ⟨ref, lost⟩]; rfl
    · rw [State.loseReference_eq _ _ run, if_neg]; · rfl
      rintro ⟨ref, lost⟩
      rcases early with other | sooner
      · rw [ref] at other; contradiction
      · omega
    · rw [State.substitute_eq _ _ run, if_pos ⟨ref, due⟩]
    · rw [State.substitute_eq _ _ run, if_neg]; · rfl
      rintro ⟨ref, due⟩
      rcases early with other | sooner
      · rw [ref] at other; contradiction
      · omega

/-- Settles O5: every record of the state after the opening is the tick of the record before it. -/
theorem frameEventCountsEveryTimer : Obligations.FrameEventCountsEveryTimer := by
  intro s
  refine ⟨rfl, fun c => ?_, fun p => ?_, fun a => ?_, fun c => ?_, fun c => ?_, rfl, fun n => ?_, rfl, rfl, rfl, rfl, rfl,
    rfl, rfl, rfl, rfl⟩
  · exact s.openFrame_watchRec c
  · exact s.openFrame_probe p
  · exact s.openFrame_peer a
  · exact s.openFrame_view c
  · exact s.openFrame_chan c
  · rw [s.openFrame_slot n, Slot.tick_eq]

/-- Settles O10: every block's reset value, entry by entry. -/
theorem resetLeavesTheStatedValues : Obligations.ResetLeavesTheStatedValues := by
  refine ⟨rfl, rfl, rfl, rfl, rfl, rfl, rfl, rfl, State.reset_free, rfl, rfl, State.reset_chan, State.reset_watchRec,
    fun p => ?_, fun a => ?_, fun c => ?_, fun n => ?_, rfl, rfl, rfl, rfl, rfl, rfl, rfl, rfl⟩
  · rw [State.reset_probe]; exact ⟨rfl, rfl, rfl⟩
  · rw [State.reset_peer]; exact ⟨rfl, rfl, rfl⟩
  · rw [State.reset_view]; exact ⟨rfl, rfl, rfl⟩
  · rw [State.reset_slot]; exact ⟨rfl, rfl, rfl⟩

/-- Settles O11: the four invariants, each by the reset values of the blocks it speaks of. -/
theorem resetIsSound : Obligations.ResetIsSound :=
  ⟨State.reset_clockSound, State.reset_logSound, State.reset_poolWhole, State.reset_queuesShort⟩

end Sys2Proof.HouseTime

/-! ## The station state and the time mark (R10 to R12, R202) -/

namespace Sys2Proof.Machine.State

variable {s t u : State}

/-! ### Moves of the station state -/

theorem time_of_base {x : TimeBase × Loader × List Instr} (h : t.base = x) : t.time = x.1 := congrArg Prod.fst h
theorem loader_of_base {x : TimeBase × Loader × List Instr} (h : t.base = x) : t.loader = x.2.1 :=
  congrArg (fun x => x.2.1) h
theorem pending_of_base {x : TimeBase × Loader × List Instr} (h : t.base = x) : t.pending = x.2.2 :=
  congrArg (fun x => x.2.2) h

/-- The time base, the loader and the queue of `t` are those of `s`, but that the station state may have moved between
two states after START (R202). -/
def MovesStation (s t : State) : Prop :=
  t.base = s.base ∨
    ∃ st, s.loader.station ≠ .start ∧ st ≠ .start ∧ t.base = (s.time, { s.loader with station := st }, s.pending)

theorem MovesStation.of_base (h : t.base = s.base) : s.MovesStation t := .inl h

theorem MovesStation.to_base (h : s.MovesStation t) (e : u.base = t.base) : s.MovesStation u := by
  rcases h with same | ⟨st, awake, later, eq⟩
  · exact .inl (e.trans same)
  · exact .inr ⟨st, awake, later, e.trans eq⟩

theorem MovesStation.setStation {st : StationState} (awake : s.loader.station ≠ .start) (later : st ≠ .start) :
    s.MovesStation (s.setStation st) := .inr ⟨st, awake, later, rfl⟩

theorem MovesStation.time (h : s.MovesStation t) : t.time = s.time := by
  rcases h with same | ⟨st, _, _, eq⟩
  · exact base_time same
  · exact time_of_base eq

theorem MovesStation.loader (h : s.MovesStation t) :
    t.loader = s.loader ∨ ∃ st, s.loader.station ≠ .start ∧ st ≠ .start ∧ t.loader = { s.loader with station := st } := by
  rcases h with same | ⟨st, awake, later, eq⟩
  · exact .inl (base_loader same)
  · exact .inr ⟨st, awake, later, loader_of_base eq⟩

theorem MovesStation.rate (h : s.MovesStation t) : t.rate = s.rate := by
  unfold State.rate
  rcases h.loader with same | ⟨st, _, _, eq⟩
  · rw [same]
  · rw [eq]

theorem MovesStation.trans (h : s.MovesStation t) (g : t.MovesStation u) : s.MovesStation u := by
  rcases g with same | ⟨st, _, later, eq⟩
  · exact h.to_base same
  · rcases h with same | ⟨st', awake, _, eq'⟩
    · refine .inr ⟨st, ?_, later, ?_⟩
      · rwa [← base_loader same]
      · rw [eq, base_time same, base_loader same, base_pending same]
    · exact .inr ⟨st, awake, later, by rw [eq, time_of_base eq', loader_of_base eq', pending_of_base eq']⟩

/-- The judgement of READY and DEGRADED moves between those two or leaves the state (R202). -/
theorem judgeReady_cases (s : State) : s.judgeReady = s ∨
    ∃ st, s.loader.station ≠ .start ∧ st ≠ .start ∧ s.judgeReady = s.setStation st := by
  unfold judgeReady
  dsimp only
  split
  next ready =>
    split
    · exact .inr ⟨.degraded, by simp [ready], by simp, rfl⟩
    · exact .inl rfl
  next degraded =>
    split
    · exact .inr ⟨.ready, by simp [degraded], by simp, rfl⟩
    · exact .inl rfl
  next => exact .inl rfl

theorem judgeReady_moves (s : State) : s.MovesStation s.judgeReady := by
  rcases s.judgeReady_cases with same | ⟨st, awake, later, eq⟩
  · exact .of_base (by rw [same])
  · rw [eq]; exact .setStation awake later

@[simp] theorem judgeReady_told (s : State) : s.judgeReady.told = s.told := by
  rcases s.judgeReady_cases with same | ⟨st, _, _, eq⟩
  · rw [same]
  · rw [eq]; rfl

theorem updateStation_moves (s : State) : s.MovesStation s.updateStation := by
  unfold updateStation
  split
  · exact .of_base rfl
  · split
    next listening =>
      have awake : s.loader.station ≠ .start := by simp [listening]
      split
      · split
        · exact .setStation awake (by simp)
        · split
          · exact ((MovesStation.setStation (st := .ready) awake (by simp)).to_base
              (base_forChans _ (fun c t => base_authorityTest t c) _)).trans (judgeReady_moves _)
          · exact .of_base rfl
      · exact .of_base rfl
    next => exact s.judgeReady_moves

@[simp] theorem updateStation_told (s : State) : s.updateStation.told = s.told := by
  have tests (t : State) : (forChans (fun c t => t.authorityTest c) t).told = t.told :=
    foldl_keeps told (fun t c => authorityTest_told t c) _ _
  unfold updateStation
  split
  · rfl
  · split
    · split
      · split
        · rfl
        · split
          · rw [judgeReady_told, tests]; rfl
          · rfl
      · rfl
    · exact s.judgeReady_told

theorem referenceChanged_moves (s : State) : s.MovesStation s.referenceChanged := by
  unfold referenceChanged
  split
  · exact .of_base rfl
  · exact s.judgeReady_moves.to_base (base_review _)

/-! ### The mark's judgement -/

theorem anyActive_eq_false (s : State) : s.anyActive = false ↔ ∀ n, (s.slot n).state = .free := by
  simp [anyActive]

/-- When a pending mark is adopted (R11): the time is UNSET, the mark is near, or no slot is active. -/
def adopts (s : State) (m : Pos) : Prop :=
  s.time.timeState = .unset ∨ (-1 ≤ Pos.diff s.rate s.now m ∧ Pos.diff s.rate s.now m ≤ 1) ∨
    ∀ n, (s.slot n).state = .free

theorem judgeMark_adopts (m : Pos) (h : s.time.pendingMark = some m) (adopted : s.adopts m) :
    s.judgeMark =
      (s.adoptMark m (Pos.diff s.rate s.now m) (decide (s.time.timeState ≠ .unset))).updateStation.review := by
  unfold adopts at adopted
  rw [← anyActive_eq_false] at adopted
  by_cases unset : s.time.timeState = .unset
  · simp only [judgeMark, h, unset]; rfl
  · have moves : (decide (-1 ≤ Pos.diff s.rate s.now m) && decide (Pos.diff s.rate s.now m ≤ 1) || !s.anyActive) = true := by
      simpa [unset] using adopted
    cases state : s.time.timeState with
    | unset => exact absurd state unset
    | set => simp only [judgeMark, h, state, moves]; rfl
    | disputed => simp only [judgeMark, h, state, moves]; rfl

theorem judgeMark_disputes (m : Pos) (h : s.time.pendingMark = some m) (refused : ¬s.adopts m) :
    s.judgeMark =
      (s.setTime fun b => { b with timeState := .disputed, pendingMark := none }).updateStation.review := by
  unfold adopts at refused
  rw [← anyActive_eq_false, not_or, not_or] at refused
  obtain ⟨known, far, busy⟩ := refused
  have stays : (decide (-1 ≤ Pos.diff s.rate s.now m) && decide (Pos.diff s.rate s.now m ≤ 1) || !s.anyActive) = false := by
    simp [busy, ← Bool.decide_and, far]
  cases state : s.time.timeState with
  | unset => exact absurd state known
  | set => simp only [judgeMark, h, state, stays]; rfl
  | disputed => simp only [judgeMark, h, state, stays]; rfl

@[simp] theorem adoptMark_time (m : Pos) (d : Int) (entry : Bool) :
    (s.adoptMark m d entry).time = { s.time with pos := m, timeState := .set, pendingMark := none } := by
  unfold adoptMark; dsimp only; split <;> rfl

@[simp] theorem adoptMark_loader (m : Pos) (d : Int) (entry : Bool) : (s.adoptMark m d entry).loader = s.loader := by
  unfold adoptMark; dsimp only; split <;> rfl

theorem adoptMark_log_quiet (m : Pos) (d : Int) (entry : Bool) (quiet : entry = false ∨ d = 0) :
    (s.adoptMark m d entry).log = s.log := by
  rcases quiet with rfl | rfl <;> simp [adoptMark]

theorem adoptMark_log_entry (m : Pos) (d : Int) (moved : d ≠ 0) : (s.adoptMark m d true).log =
    (if s.log.length < 512 then s.log else s.log.drop 1) ++
      [{ seq := s.logNext, pos := m, kind := .timeStep, slot := none, chan := none, event := none,
         lateness := some d, tally := none, reason := none }] := by
  simp [adoptMark, moved, writeEntry_spec, now]

/-- Once a mark is judged, none is pending: a second judgement at the same frame event does nothing. -/
theorem judgeMark_pendingMark (s : State) : s.judgeMark.time.pendingMark = none := by
  cases h : s.time.pendingMark with
  | none => rw [judgeMark_none s h, h]
  | some m =>
    by_cases adopted : s.adopts m
    · rw [judgeMark_adopts m h adopted, base_time (base_review _), (updateStation_moves _).time, adoptMark_time]
    · rw [judgeMark_disputes m h adopted, base_time (base_review _), (updateStation_moves _).time]; rfl

/-- TIME_MARK_JUDGEMENT at an open frame event is the judgement and the review. -/
theorem exec_timeMarkJudgement (h : s.time.frameOpen = true) :
    exec .timeMarkJudgement s = .next s.clearOut.judgeMark.review := by
  have once : s.clearOut.judgeMark.judgeMark = s.clearOut.judgeMark := judgeMark_none _ (judgeMark_pendingMark _)
  exact congrArg Host.Outcome.next ((atFrame_open s _ h).trans (by rw [once]))

/-- What follows the judgement of a mark leaves the time, the rate and the log. -/
theorem afterMark (s : State) :
    s.updateStation.review.review.time = s.time ∧ s.updateStation.review.review.rate = s.rate ∧
      s.updateStation.review.review.log = s.log := by
  have moves : s.MovesStation s.updateStation.review.review :=
    (updateStation_moves s).to_base ((base_review _).trans (base_review _))
  exact ⟨moves.time, moves.rate, told_log (by simp)⟩

/-- A mark adopted is what the frame event carries, the time SET and the mark spent (R11). -/
theorem judgeMark_adopted_review (m : Pos) (h : s.time.pendingMark = some m) (adopted : s.adopts m) :
    s.judgeMark.review.time = { s.time with pos := m, timeState := .set, pendingMark := none } ∧
      s.judgeMark.review.rate = s.rate ∧
      s.judgeMark.review.log =
        (s.adoptMark m (Pos.diff s.rate s.now m) (decide (s.time.timeState ≠ .unset))).log := by
  rw [judgeMark_adopts m h adopted]
  obtain ⟨time, rate, log⟩ :=
    afterMark (s.adoptMark m (Pos.diff s.rate s.now m) (decide (s.time.timeState ≠ .unset)))
  exact ⟨time.trans (adoptMark_time ..), rate.trans (by rw [State.rate, adoptMark_loader]; rfl), log⟩

/-- A mark refused leaves the position and the log, the time DISPUTED and the mark spent (R12). -/
theorem judgeMark_disputed_review (m : Pos) (h : s.time.pendingMark = some m) (refused : ¬s.adopts m) :
    s.judgeMark.review.time = { s.time with timeState := .disputed, pendingMark := none } ∧
      s.judgeMark.review.rate = s.rate ∧ s.judgeMark.review.log = s.log := by
  rw [judgeMark_disputes m h refused]
  exact afterMark (s.setTime fun b => { b with timeState := .disputed, pendingMark := none })

/-- What a mark heard does to the pending mark (R10). -/
def takeMark (rate : Nat) (m : Pos) (s : State) : State :=
  if Rate.ofCode rate = some s.rate ∧ m.frame < s.rate.fpd then s.setTime fun b => { b with pendingMark := some m } else s

/-- A mark that the receive checks pass is taken or discarded, its source heard either way (R10). -/
theorem exec_timemarkReceived (rx : Reception) (src dst : Addr) (rate : Nat) (m : Pos)
    (h : s.found.receive rx = .deliver src dst (.timemark rate m)) : exec (.timemarkReceived rx) s =
      .next (takeMark rate m (s.found.hear src)).review :=
  congrArg Host.Outcome.next (arrival_taken s rx _ src dst _ (takeMark rate m) h rfl)

end Sys2Proof.Machine.State

namespace Sys2Proof.HouseTime
open Sys2Proof.Machine

/-- Settles O8: the arrival of a mark by its two outcomes, its judgement by adoption and dispute. -/
theorem marksAreJudgedAgainstTheCount : Obligations.MarksAreJudgedAgainstTheCount := by
  refine ⟨fun rx s src dst rate m => ?_, fun s m opened pending => ?_, fun s => ⟨fun opened free => ?_, fun closed => ?_⟩⟩
  · intro t heard
    rw [State.exec_timemarkReceived rx src dst rate m heard, State.takeMark]
    refine ⟨fun code day => by rw [if_pos ⟨code, day⟩]; rfl, fun refused => ?_⟩
    rw [if_neg]
    rintro ⟨code, day⟩
    rcases refused with other | beyond
    · exact other code
    · exact absurd day (Nat.not_lt.mpr beyond)
  · intro d adopted
    refine ⟨_, State.exec_timeMarkJudgement opened, ?_⟩
    by_cases ok : s.clearOut.adopts m
    · obtain ⟨time, rate, log⟩ := State.judgeMark_adopted_review (s := s.clearOut) m pending ok
      refine ⟨by rw [time], rate, fun _ => ⟨congrArg TimeBase.pos time, by rw [time]⟩, fun no => absurd ok no,
        fun _ quiet => ?_, fun _ known moved => ?_⟩
      · exact log.trans (State.adoptMark_log_quiet _ _ _ (quiet.imp_left fun unset => by simp [unset]))
      · rw [log, decide_eq_true (by exact known)]
        exact State.adoptMark_log_entry m _ moved
    · obtain ⟨time, rate, log⟩ := State.judgeMark_disputed_review (s := s.clearOut) m pending ok
      exact ⟨by rw [time], rate, fun yes => absurd yes ok, fun _ => ⟨by rw [State.now, time]; rfl, by rw [time], log⟩,
        fun yes => absurd yes ok, fun yes => absurd yes ok⟩
  · rw [State.exec_timeMarkJudgement opened, State.judgeMark_none s.clearOut free]
  · exact congrArg Host.Outcome.next (State.atFrame_closed s _ closed)

end Sys2Proof.HouseTime

/-! ## Bytes on the line (R180, R186) -/

namespace Sys2Proof.Machine

@[simp] theorem beNat_nil : beNat [] = 0 := rfl

/-- Reading on from a number read so far shifts it up by the bytes that follow. -/
theorem foldl_be (bs : List Byte) (a : Nat) :
    bs.foldl (fun n b => n * 256 + b.toNat) a = a * 256 ^ bs.length + beNat bs := by
  unfold beNat
  induction bs generalizing a with
  | nil => simp
  | cons b bs ih =>
    rw [List.foldl_cons, List.foldl_cons, ih, ih (0 * 256 + b.toNat), List.length_cons, Nat.pow_succ]
    ring

theorem beNat_cons (b : Byte) (bs : List Byte) : beNat (b :: bs) = b.toNat * 256 ^ bs.length + beNat bs := by
  rw [beNat, List.foldl_cons, foldl_be]; ring

theorem beNat_lt (bs : List Byte) : beNat bs < 256 ^ bs.length := by
  induction bs with
  | nil => simp
  | cons b bs ih =>
    have byte : b.toNat + 1 ≤ 256 := b.isLt
    calc beNat (b :: bs) = b.toNat * 256 ^ bs.length + beNat bs := beNat_cons b bs
      _ < (b.toNat + 1) * 256 ^ bs.length := by rw [Nat.succ_mul]; omega
      _ ≤ 256 * 256 ^ bs.length := Nat.mul_le_mul_right _ byte
      _ = 256 ^ (b :: bs).length := by rw [List.length_cons, Nat.pow_succ, Nat.mul_comm]

@[simp] theorem toBE_length (k n : Nat) : (toBE k n).length = k := by
  induction k with
  | zero => rfl
  | succ k ih => rw [toBE, List.length_cons, ih]

/-- The bytes of a number spell it, taken to their width. -/
theorem beNat_toBE (k n : Nat) : beNat (toBE k n) = n % 256 ^ k := by
  induction k with
  | zero => simp [toBE, Nat.mod_one]
  | succ k ih =>
    have byte : (BitVec.ofNat 8 (n / 256 ^ k)).toNat = n / 256 ^ k % 256 := BitVec.toNat_ofNat ..
    rw [toBE, beNat_cons, ih, toBE_length, byte, Nat.pow_succ, Nat.mod_mul, Nat.mul_comm, Nat.add_comm]

theorem takeBytes_append (xs rest : List Byte) : takeBytes xs.length (xs ++ rest) = some (xs, rest) := by
  simp [takeBytes]

/-- A number written in `k` bytes reads back, whatever follows. -/
theorem readNat_toBE {k n : Nat} (rest : List Byte) (h : n < 256 ^ k) :
    readNat k (toBE k n ++ rest) = some (n, rest) := by
  have bytes : takeBytes k (toBE k n ++ rest) = some (toBE k n, rest) := by
    simpa using takeBytes_append (toBE k n) rest
  rw [readNat, bytes, Option.map_some, beNat_toBE, Nat.mod_eq_of_lt h]

/-- A number read from `k` bytes lies below 256 to the `k`. -/
theorem readNat_lt {k n : Nat} {bs rest : List Byte} (h : readNat k bs = some (n, rest)) : n < 256 ^ k := by
  unfold readNat takeBytes at h
  split at h
  next fits =>
    cases h
    simpa [fits] using beNat_lt (bs.take k)
  next => cases h

theorem readPos_day_lt {bs rest : List Byte} {p : Pos} (h : readPos bs = some (p, rest)) : p.day < 65536 := by
  simp [readPos, Option.bind_eq_some_iff] at h
  obtain ⟨d, _, hd, f, _, rfl, rfl⟩ := h
  exact readNat_lt hd

/-- A time mark is read from a payload of its own kind, its day from two bytes (R10, R187). -/
theorem readMsg_timemark_day_lt {k : Kind} {bs : List Byte} {rate : Nat} {p : Pos}
    (h : readMsg k bs = some (.timemark rate p)) : p.day < 65536 := by
  cases k <;> simp [readMsg, Option.bind_eq_some_iff] at h
  obtain ⟨_, -, _, hp⟩ := h
  exact readPos_day_lt hp

/-- A message delivered is what its payload reads as (R185). -/
theorem judgeFrame_deliver {me src dst : Addr} {f : Frame} {m : Msg} (h : judgeFrame me f = .deliver src dst m) :
    ∃ k, readMsg k f.payload = some m := by
  unfold judgeFrame at h
  repeat' split at h
  all_goals cases h
  exact ⟨_, ‹_›⟩

/-- Only an active station is delivered a message (R179). -/
theorem State.receive_deliver {s : State} {rx : Reception} {src dst : Addr} {m : Msg}
    (h : s.receive rx = .deliver src dst m) : s.active = true ∧ ∃ k bs, readMsg k bs = some m := by
  unfold receive at h
  split at h
  next works =>
    split at h
    next f _ =>
      obtain ⟨k, hk⟩ := judgeFrame_deliver h
      exact ⟨(Bool.and_eq_true_iff.mp works).1, k, f.payload, hk⟩
    next => cases h
  next => cases h

end Sys2Proof.Machine

/-! ## Every step keeps the clock sound (R4, R10, R14, R198)

`ClockSound` speaks of the time base and the loader alone, and `Laws/Frame.lean` says which operations leave both: what
remains are the operations that set them, one lemma each, and the shapes of the commands. -/

namespace Sys2Proof.Machine.State

variable {s t : State}

/-! ### What the soundness rests on -/

theorem ClockSound.congr (h : s.ClockSound) (time : t.time = s.time) (loader : t.loader = s.loader) : t.ClockSound := by
  obtain ⟨position, mark, held, cold⟩ := h
  constructor <;> simpa only [posInRange, rate, time, loader]

theorem ClockSound.of_base (h : s.ClockSound) (e : t.base = s.base) : t.ClockSound :=
  h.congr (base_time e) (base_loader e)

/-- Past a cold START no pin is held. -/
theorem ClockSound.released (h : s.ClockSound) (past : s.loader.cold = true → s.loader.station ≠ .start) :
    s.loader.resetHeld = false := by
  by_contra pin
  obtain ⟨cold, start, -⟩ := h.held (by simpa using pin)
  exact past cold start

/-- Past a cold START, soundness is the ranges alone: no pin is held and no reset value is asked for. -/
theorem ClockSound.of_ranges (position : t.time.pos.valid t.rate = true)
    (mark : ∀ m, t.time.pendingMark = some m → m.valid t.rate = true) (pin : t.loader.resetHeld = false)
    (past : t.loader.cold = true → t.loader.station ≠ .start) : t.ClockSound where
  position := (Pos.valid_iff _ _).mp position
  mark m hm := (Pos.valid_iff _ _).mp (mark m hm)
  held on := by rw [pin] at on; cases on
  cold on start := absurd start (past on)

theorem ClockSound.pos_valid (h : s.ClockSound) : s.time.pos.valid s.rate = true := (Pos.valid_iff _ _).mpr h.position

theorem ClockSound.mark_valid (h : s.ClockSound) (m : Pos) (hm : s.time.pendingMark = some m) :
    m.valid s.rate = true := (Pos.valid_iff _ _).mpr (h.mark m hm)

/-- A time base that runs has left the cold START behind. -/
theorem ClockSound.past_of_running (h : s.ClockSound) (run : s.time.running = true) (cold : s.loader.cold = true) :
    s.loader.station ≠ .start := fun start => by
  rw [(h.cold cold start).1] at run; cases run

/-- A pending mark shows the same. -/
theorem ClockSound.past_of_mark (h : s.ClockSound) {m : Pos} (pending : s.time.pendingMark = some m)
    (cold : s.loader.cold = true) : s.loader.station ≠ .start := fun start => by
  rw [(h.cold cold start).2.2] at pending; cases pending

theorem station_ne_start_of_active (h : s.active = true) : s.loader.station ≠ .start := by
  intro start; simp [active, start] at h

/-! ### What sets the time base or the loader -/

theorem ClockSound.moves (h : s.ClockSound) (moves : s.MovesStation t) : t.ClockSound := by
  rcases moves.loader with same | ⟨st, awake, later, eq⟩
  · exact h.congr moves.time same
  · refine .of_ranges ?_ ?_ ?_ ?_
    · rw [moves.time, moves.rate]; exact h.pos_valid
    · rw [moves.time, moves.rate]; exact h.mark_valid
    · rw [eq]; exact h.released fun _ => awake
    · rw [eq]; exact fun _ => later

theorem ClockSound.updateStation (h : s.ClockSound) : s.updateStation.ClockSound := h.moves (updateStation_moves s)

theorem ClockSound.referenceChanged (h : s.ClockSound) : s.referenceChanged.ClockSound :=
  h.moves (referenceChanged_moves s)

theorem ClockSound.judgeMark (h : s.ClockSound) : s.judgeMark.ClockSound := by
  cases pending : s.time.pendingMark with
  | none => rwa [judgeMark_none s pending]
  | some m =>
    have past := h.past_of_mark pending
    have pin := h.released past
    by_cases adopted : s.adopts m
    · rw [judgeMark_adopts m pending adopted]
      refine (ClockSound.updateStation (.of_ranges ?_ ?_ ?_ ?_)).of_base (base_review _)
      · rw [rate, adoptMark_time, adoptMark_loader]; exact h.mark_valid m pending
      · rw [adoptMark_time]; nofun
      · rwa [adoptMark_loader]
      · rwa [adoptMark_loader]
    · rw [judgeMark_disputes m pending adopted]
      have disputed : (s.setTime fun b => { b with timeState := .disputed, pendingMark := none }).ClockSound :=
        .of_ranges h.pos_valid (fun _ hm => by cases hm) pin past
      exact disputed.updateStation.of_base (base_review _)

/-- A change of the time base that keeps the count, the mark and whether it runs. -/
theorem ClockSound.setTime (h : s.ClockSound) {f : TimeBase → TimeBase}
    (keeps : ∀ b, (f b).running = b.running ∧ (f b).pos = b.pos ∧ (f b).pendingMark = b.pendingMark) :
    (s.setTime f).ClockSound := by
  obtain ⟨running, pos, mark⟩ := keeps s.time
  obtain ⟨position, inRange, held, cold⟩ := h
  refine ⟨?_, ?_, held, ?_⟩
  · rwa [posInRange, setTime_time, pos]
  · rwa [setTime_time, mark]
  · rwa [setTime_time, running, pos, mark]

theorem ClockSound.openFrame (h : s.ClockSound) (run : s.time.running = true) : s.openFrame.ClockSound := by
  have past := h.past_of_running run
  exact .of_ranges (Pos.valid_succ s.rate h.pos_valid) h.mark_valid (h.released past) past

theorem ClockSound.timePasses (h : s.ClockSound) (dt : Nat) : (s.timePasses dt).ClockSound :=
  h.setTime fun _ => ⟨rfl, rfl, rfl⟩

theorem ClockSound.pulse (h : s.ClockSound) (dt : Nat) : (s.pulse dt).ClockSound := by
  cases run : s.time.running with
  | false => rwa [pulse_stopped s dt run]
  | true =>
    cases ref : s.time.refState with
    | pulsed =>
      rw [pulse_pulsed s dt run ref]
      split
      · exact h.openFrame run
      · exact h.timePasses dt
    | flywheel =>
      have p : (s.setTime fun t => { t with refState := .pulsed }).ClockSound :=
        h.setTime fun _ => ⟨rfl, rfl, rfl⟩
      rw [pulse_flywheel s dt run ref]
      split
      · exact (p.openFrame run).referenceChanged
      · refine ClockSound.referenceChanged (p.setTime fun _ => ⟨?_, ?_, ?_⟩) <;> rfl

theorem ClockSound.loseReference (h : s.ClockSound) (dt : Nat) : (s.loseReference dt).ClockSound := by
  cases run : s.time.running with
  | false => rwa [loseReference_stopped s dt run]
  | true =>
    have p : (s.setTime fun t => { t with refState := .flywheel }).ClockSound :=
      h.setTime fun _ => ⟨rfl, rfl, rfl⟩
    rw [loseReference_eq s dt run]
    split
    · exact (p.openFrame run).referenceChanged
    · exact h.timePasses dt

theorem ClockSound.substitute (h : s.ClockSound) (dt : Nat) : (s.substitute dt).ClockSound := by
  cases run : s.time.running with
  | false => rwa [substitute_stopped s dt run]
  | true =>
    rw [substitute_eq s dt run]
    split
    · exact h.openFrame run
    · exact h.timePasses dt

/-! ### Resets and the start -/

theorem clockSound_afterFullReset (s : State) : s.afterFullReset.ClockSound :=
  reset_clockSound.congr (by rw [reset_time]; rfl) (by rw [reset_loader]; rfl)

/-- The pin is released into the cold START that it held (R198). -/
theorem ClockSound.afterRelease (h : s.ClockSound) : s.afterRelease.ClockSound := by
  unfold State.afterRelease
  split
  next pin =>
    obtain ⟨cold, start, -⟩ := h.held pin
    exact ⟨h.position, h.mark, nofun, fun _ _ => h.cold cold start⟩
  next => exact h

/-- The loader at the entry into START that ends a release phase (R203). -/
def softLoader (l : Loader) : Loader :=
  { l with station := .start, cold := false, clamped := false, defaulted := false, listening := 0, releasePhase := none }

/-- That entry sets the loader and leaves the time running on (R14). -/
theorem base_enterStart (s : State) : s.enterStart.base = (s.time, softLoader s.loader, s.pending) := by
  unfold enterStart
  simp [base_forChans, softLoader]

theorem ClockSound.enterStart (h : s.ClockSound) (pin : s.loader.resetHeld = false) : s.enterStart.ClockSound := by
  have time : s.enterStart.time = s.time := time_of_base (base_enterStart s)
  have loader : s.enterStart.loader = softLoader s.loader := loader_of_base (base_enterStart s)
  refine .of_ranges ?_ ?_ ?_ ?_
  · rw [time, rate, loader]; exact h.pos_valid
  · rw [time, rate, loader]; exact h.mark_valid
  · rw [loader]; exact pin
  · rw [loader]; nofun

/-- In the release phase no pin is held. -/
theorem ClockSound.released_of_phase (h : s.ClockSound) {k : Nat} (phase : s.loader.releasePhase = some k) :
    s.loader.resetHeld = false := by
  by_contra pin
  rw [(h.held (by simpa using pin)).2.2] at phase
  cases phase

theorem ClockSound.endPhase (h : s.ClockSound) : s.endPhase.ClockSound := by
  unfold State.endPhase
  split
  next k phase =>
    split
    · exact h.enterStart (h.released_of_phase phase)
    · exact h
  next => exact h

theorem ClockSound.timeOutPhase (h : s.ClockSound) : s.timeOutPhase.ClockSound := by
  unfold State.timeOutPhase
  split
  next k phase =>
    split
    · have base := base_forSlots (fun n t => t.slotReleaseStep n) (fun n t => base_slotReleaseStep t n) s
      refine (h.of_base base).enterStart ?_
      rw [base_loader base]
      exact h.released_of_phase phase
    · exact h
  next => exact h

/-! ### The configuration's hand-over (R199 to R201) -/

theorem loadSettings_soft_rate (running : Rate) (block : Option (List Byte)) :
    (loadSettings false running block).1.rate = running := by
  unfold loadSettings
  split <;> rfl

theorem base_handOver (s : State) (cfg : Settings) : (s.handOver cfg).base =
    (if s.loader.cold then { s.time with running := true, sinceFrame := 0, sinceMark := 0 } else s.time,
      { s.loader with cfg := cfg }, s.pending) := by
  unfold handOver
  dsimp only
  rw [base_mk, base_eta, base_forChans _ (fun c t => base_watchChannel t c)]
  split <;> rfl

theorem base_enterListening (s : State) : s.enterListening.base =
    (s.time, { s.loader with station := .listening, listening := 0 }, s.pending) := by
  unfold enterListening
  dsimp only
  rw [base_forChans _ (fun c t => by split <;> simp), base_offerBeacon]
  rfl

/-- The entry into LISTENING with the values handed over, as the clock sees it. -/
theorem listening_spec (s : State) (cfg : Settings) :
    (s.handOver cfg).enterListening.time.pos = s.time.pos ∧
      (s.handOver cfg).enterListening.time.pendingMark = s.time.pendingMark ∧
      (s.handOver cfg).enterListening.loader.resetHeld = s.loader.resetHeld ∧
      (s.handOver cfg).enterListening.loader.station ≠ .start ∧ (s.handOver cfg).enterListening.rate = cfg.rate := by
  rw [rate, time_of_base (base_enterListening _), loader_of_base (base_enterListening _)]
  dsimp only
  rw [time_of_base (base_handOver s cfg), loader_of_base (base_handOver s cfg)]
  refine ⟨?_, ?_, rfl, nofun, rfl⟩ <;> dsimp only <;> split <;> rfl

/-- The read of the configuration leaves the count, the mark and the pin, ends START, and sets the rate read. -/
theorem configured_spec (s : State) (straps : BitVec 5) (block : Option (List Byte)) :
    (s.configured straps block).time.pos = s.time.pos ∧
      (s.configured straps block).time.pendingMark = s.time.pendingMark ∧
      (s.configured straps block).loader.resetHeld = s.loader.resetHeld ∧
      (s.configured straps block).loader.station ≠ .start ∧
      (s.configured straps block).rate = (loadSettings s.loader.cold s.rate block).1.rate := by
  unfold configured
  dsimp only
  split
  · exact listening_spec _ _
  · exact ⟨rfl, rfl, rfl, by simp, rfl⟩

/-- The values read stand from here on: at a cold START the count is at its reset value, which lies in every rate's day;
at a soft restart the rate is kept. -/
theorem ClockSound.configured (h : s.ClockSound) (start : s.loader.station = .start) (pin : s.loader.resetHeld = false)
    (straps : BitVec 5) (block : Option (List Byte)) : (s.configured straps block).ClockSound := by
  obtain ⟨pos, mark, held, awake, rate⟩ := configured_spec s straps block
  have ranges : (s.time.pos.valid (loadSettings s.loader.cold s.rate block).1.rate = true) ∧
      ∀ m, s.time.pendingMark = some m → m.valid (loadSettings s.loader.cold s.rate block).1.rate = true := by
    cases cold : s.loader.cold with
    | true =>
      obtain ⟨-, zero, free⟩ := h.cold cold start
      rw [zero, free]
      exact ⟨(Pos.valid_iff _ _).mpr ⟨by decide, Rate.fpd_pos _⟩, fun m hm => by cases hm⟩
    | false => rw [loadSettings_soft_rate]; exact ⟨h.pos_valid, h.mark_valid⟩
  refine .of_ranges ?_ ?_ (held.trans pin) fun _ => awake
  · rw [pos, rate]; exact ranges.1
  · rw [mark, rate]; exact ranges.2

/-! ### The work of a frame event -/

/-- What a frame event does between the mark and the release phase leaves the clock, but for the station state. -/
theorem frameWork_moves (s : State) : ∃ t, s.judgeMark.MovesStation t ∧ s.frameWork = t.endPhase.timeOutPhase := by
  unfold State.frameWork
  refine ⟨_, ?_, rfl⟩
  have before : (forChans (fun c t => t.frameWatch c) (forChans (fun c t => t.frameChannel c)
      s.judgeMark.silences.offers)).base = s.judgeMark.base := by
    rw [base_forChans _ (fun c t => base_frameWatch t c), base_forChans _ (fun c t => base_frameChannel t c)]
    simp
  refine ((MovesStation.of_base before).trans (updateStation_moves _)).to_base ?_
  rw [base_frameClaims, base_forSlots _ (fun n t => base_slotRun t n 9),
    base_forSlots _ (fun n t => base_slotReleaseStep t n), base_review]

theorem ClockSound.frameWork (h : s.ClockSound) : s.frameWork.ClockSound := by
  obtain ⟨t, moves, eq⟩ := frameWork_moves s
  rw [eq]
  exact (h.judgeMark.moves moves).endPhase.timeOutPhase

theorem ClockSound.settle (h : s.ClockSound) : s.settle.ClockSound := by
  unfold State.settle
  split
  · exact h.frameWork.setTime fun _ => ⟨rfl, rfl, rfl⟩
  · exact h

theorem ClockSound.found (h : s.ClockSound) : s.found.ClockSound := (h.of_base (base_clearOut s)).settle

/-! ### The shapes of the commands -/

theorem ClockSound.event (h : s.ClockSound) {f : State → State} (hf : ∀ t, t.ClockSound → (f t).ClockSound) :
    (s.event f).ClockSound := (hf _ h.found).of_base (base_review _)

theorem ClockSound.atFrame (h : s.ClockSound) {f : State → State} (hf : ∀ t, t.ClockSound → (f t).ClockSound) :
    (s.atFrame f).ClockSound := by
  have clear := h.of_base (base_clearOut s)
  unfold State.atFrame
  dsimp only
  split
  · exact (hf _ clear.judgeMark).of_base (base_review _)
  · exact clear

theorem ClockSound.event_of_base (h : s.ClockSound) {f : State → State} (hf : ∀ t, (f t).base = t.base) :
    (s.event f).ClockSound := h.event fun t ht => ht.of_base (hf t)

theorem ClockSound.atFrame_of_base (h : s.ClockSound) {f : State → State} (hf : ∀ t, (f t).base = t.base) :
    (s.atFrame f).ClockSound := h.atFrame fun t ht => ht.of_base (hf t)

theorem ClockSound.arrival (h : s.ClockSound) (rx : Reception) {f : Addr → Addr → Msg → Option (State → State)}
    (hf : ∀ (t : State) src dst m g, t.ClockSound → t.receive rx = .deliver src dst m → f src dst m = some g →
      (g (t.hear src)).ClockSound) : (s.arrival rx f).ClockSound := by
  refine h.event fun t ht => ?_
  split
  next src dst m heard =>
    split
    next g taken => exact hf t src dst m g ht heard taken
    next => exact ht
  next => exact ht

theorem ClockSound.arrival_of_base (h : s.ClockSound) (rx : Reception)
    {f : Addr → Addr → Msg → Option (State → State)}
    (hf : ∀ src dst m g t, f src dst m = some g → (g t).base = t.base) : (s.arrival rx f).ClockSound :=
  h.arrival rx fun t src dst m g ht _ taken => ht.of_base ((hf src dst m g _ taken).trans (base_hear t src))

theorem ClockSound.console (h : s.ClockSound) (rx : Reception) (broadcast : Bool)
    {f : Addr → Addr → Nat → Command → Option (State → State)}
    (hf : ∀ dst src tag k g t, t.ClockSound → t.active = true → f dst src tag k = some g → (g t).ClockSound) :
    (s.console rx broadcast f).ClockSound := by
  refine h.arrival rx fun t src dst m g ht heard taken => ?_
  have sound : (t.hear src).ClockSound := ht.of_base (base_hear t src)
  have awake : (t.hear src).active = true := by
    rw [active, base_loader (base_hear t src)]; exact (receive_deliver heard).1
  split at taken
  next tag code bs =>
    obtain ⟨k, -, mapped⟩ := Option.bind_eq_some_iff.mp taken
    obtain ⟨effect, own, rfl⟩ := Option.map_eq_some_iff.mp mapped
    simp only [commandTaken]
    split
    · exact sound
    · split
      · exact sound.of_base (base_answer ..)
      · exact hf dst src tag k effect _ sound awake own
  next => cases taken

theorem ClockSound.console_of_base (h : s.ClockSound) (rx : Reception) (broadcast : Bool)
    {f : Addr → Addr → Nat → Command → Option (State → State)}
    (hf : ∀ dst src tag k g t, f dst src tag k = some g → (g t).base = t.base) :
    (s.console rx broadcast f).ClockSound :=
  h.console rx broadcast fun dst src tag k g t ht _ taken => ht.of_base (hf dst src tag k g t taken)

theorem ClockSound.echo_of_base (h : s.ClockSound) {p : OutMsg → Bool} {f : OutMsg → State → State}
    (hf : ∀ m t, (f m t).base = t.base) : (s.echo p f).ClockSound := by
  refine h.event_of_base fun t => ?_
  split
  · rw [hf, base_leaveHead]
  · rfl

/-! ### The commands -/

theorem base_tallyRises (s : State) (n : SlotId) : (s.tallyRises n).base = s.base := by
  unfold tallyRises
  dsimp only
  split
  · split <;> simp
  · rfl

theorem base_tallyFalls (s : State) (n : SlotId) : (s.tallyFalls n).base = s.base := by
  unfold tallyFalls
  dsimp only
  split
  · split <;> simp
  · rfl

/-- RESTART opens the release phase and sets nothing else of the loader (R203). -/
theorem base_restartCmd (s : State) (src : Addr) (tag : Nat) :
    (s.restartCmd src tag).base = (s.time, { s.loader with releasePhase := some 0 }, s.pending) := by
  have answered := base_answer s src tag .done []
  have phase : ((s.answer src tag .done []).setLoader fun l => { l with releasePhase := some 0 }).base =
      (s.time, { s.loader with releasePhase := some 0 }, s.pending) := by
    rw [base, setLoader_time, setLoader_loader, setLoader_pending, base_time answered, base_loader answered,
      base_pending answered]
  unfold restartCmd
  dsimp only
  split
  · split
    · rw [base_endClaim, phase]
    · exact phase
  · exact phase

/-- A command is taken in an active state alone, where no pin is held. -/
theorem ClockSound.restartCmd (h : s.ClockSound) (awake : s.active = true) (src : Addr) (tag : Nat) :
    (s.restartCmd src tag).ClockSound := by
  have station := station_ne_start_of_active awake
  refine .of_ranges ?_ ?_ ?_ ?_
  · rw [rate, time_of_base (base_restartCmd s src tag), loader_of_base (base_restartCmd s src tag)]; exact h.pos_valid
  · rw [rate, time_of_base (base_restartCmd s src tag), loader_of_base (base_restartCmd s src tag)]; exact h.mark_valid
  · rw [loader_of_base (base_restartCmd s src tag)]; exact h.released fun _ => station
  · rw [loader_of_base (base_restartCmd s src tag)]; exact fun _ => station

/-- A mark heard lies in its ranges: its day by its two bytes, its frame by the check of R10. -/
theorem ClockSound.takeMark (h : s.ClockSound) (awake : s.active = true) (rate : Nat) {m : Pos} (day : m.day < 65536) :
    (s.takeMark rate m).ClockSound := by
  have station := station_ne_start_of_active awake
  unfold State.takeMark
  split
  next inRange =>
    refine .of_ranges h.pos_valid (fun p hp => ?_) (h.released fun _ => station) fun _ => station
    cases hp
    exact (Pos.valid_iff _ _).mpr ⟨day, inRange.2⟩
  next => exact h

theorem ClockSound.timemark (h : s.ClockSound) (rx : Reception) :
    ∃ t, exec (.timemarkReceived rx) s = .next t ∧ t.ClockSound := by
  refine ⟨_, rfl, h.arrival rx fun t src dst m g ht heard taken => ?_⟩
  obtain ⟨awake, k, bs, read⟩ := receive_deliver heard
  split at taken
  next rate p =>
    obtain rfl := Option.some.inj taken
    exact (ht.of_base (base_hear t src)).takeMark (by rw [active, base_loader (base_hear t src)]; exact awake) rate
      (readMsg_timemark_day_lt read)
  next => cases taken

/-- Every command completes in a sound clock. -/
theorem ClockSound.exec (h : s.ClockSound) (c : Instr) : ∃ t, exec c s = .next t ∧ t.ClockSound := by
  have clear : s.clearOut.ClockSound := h.of_base (base_clearOut s)
  cases c with
  | fullReset => exact ⟨_, rfl, clockSound_afterFullReset s⟩
  | resetReleased => exact ⟨_, rfl, h.event fun t ht => ht.afterRelease⟩
  | configReadComplete straps block =>
    refine ⟨_, rfl, h.event fun t ht => ?_⟩
    split
    next start => exact ht.configured start.1 start.2 straps block
    next => exact ht
  | framePulse dt => exact ⟨_, rfl, clear.settle.pulse dt⟩
  | flywheelEntry dt => exact ⟨_, rfl, clear.settle.loseReference dt⟩
  | substituteFrameEvent dt => exact ⟨_, rfl, clear.settle.substitute dt⟩
  | timemarkReceived rx => exact h.timemark rx
  | timeMarkJudgement => exact ⟨_, rfl, h.atFrame fun t ht => ht.judgeMark⟩
  | listeningCountExpiry => exact ⟨_, rfl, h.atFrame fun t ht => ht.updateStation⟩
  | releasePhaseEnd => exact ⟨_, rfl, h.atFrame fun t ht => ht.endPhase⟩
  | releasePhaseTimeout => exact ⟨_, rfl, h.atFrame fun t ht => ht.timeOutPhase⟩
  | restart rx =>
    refine ⟨_, rfl, h.console rx _ fun dst src tag k g t ht awake taken => ?_⟩
    split at taken
    · cases taken; exact ht.restartCmd awake src tag
    · cases taken
  | airbeatReceived rx | relaystateReceived rx | editReceived rx | imageSegmentReceived rx | imagereqReceived rx
  | verdictReceived rx | beaconReceived rx | claimHeard rx | takeHeard rx | releaseHeard rx | handoverHeard rx =>
    refine ⟨_, rfl, h.arrival_of_base rx fun src dst m g t taken => ?_⟩
    split at taken
    · obtain rfl := Option.some.inj taken
      repeat' split
      all_goals simp [base_foldl]
    · cases taken
  | queryStation rx | queryChannel rx | queryList rx | queryAsrun rx | forceTake rx | forceRelease rx | inhibit rx
  | nextCmd rx | handback rx | editRequest rx =>
    refine ⟨_, rfl, h.console_of_base rx _ fun dst src tag k g t taken => ?_⟩
    split at taken
    · obtain rfl := Option.some.inj taken; simp
    · cases taken
  | imagereqEcho | imageEcho | claimEcho | takeEcho | releaseEcho | handoverEcho | messageEcho =>
    refine ⟨_, rfl, h.echo_of_base fun m t => ?_⟩
    repeat' split
    all_goals simp
  | badCommand rx =>
    refine ⟨_, rfl, h.event_of_base fun t => ?_⟩
    repeat' split
    all_goals simp
  | imageSegmentQueued | lineIdle | ladderWaitExpiry | lineGoesBusy | echoFailed | messageDiscarded | gridDelivery
  | tallyRise | tallyFall =>
    refine ⟨_, rfl, h.event_of_base fun t => ?_⟩
    repeat' split
    all_goals simp [base_tallyRises, base_tallyFalls]
  | beatAnchorExpiry | parkedEditTimeout | imagereqOfferRetry | imageTargetTimeout | imageRoundRestart
  | imageLoadTimeout | beatLost | relaySilent | verdictSourceStale | probeSilent | verdictRepeat | verdictOfferRetry
  | beaconOffered | beaconOfferRetry | peerSilent | claimWindowExpiry | takeOfferRetry | deadWinnerExclusion
  | exclusionExpiry | pendingForceLatchRun | ineligibleExpiry | joinCueIssue | joinCueFire | linePulseEnd | lockPoint
  | cueFire | armNextCue | restartPlay | serverFaultAction | scheduleRunOut | confirmWindowExpiry | fallbackTimeout
  | secondaryOccurrence | slotRelease | releaseOutboxOffer | handbackCommitCheck | handbackBoundary
  | handoverCancelOffer =>
    exact ⟨_, rfl, h.atFrame_of_base fun t => by simp⟩

end Sys2Proof.Machine.State

namespace Sys2Proof.HouseTime
open Sys2Proof.Machine

/-- Settles O56: a step is the front command on the rest of the queue, or what is left of an open frame event, and each
keeps the clock sound. -/
theorem everyStepKeepsTheClockSound : Obligations.EveryStepKeepsTheClockSound := by
  intro s t h stepped
  unfold step at stepped
  split at stepped
  · obtain rfl := Host.Outcome.next.inj stepped
    split
    · exact (h.of_base (State.base_clearOut s)).settle
    · exact h
  next c rest _ =>
    obtain ⟨u, executed, sound⟩ := (h.congr (t := { s with pending := rest }) rfl rfl).exec c
    rw [executed] at stepped
    exact Host.Outcome.next.inj stepped ▸ sound

end Sys2Proof.HouseTime

/-! ## Event records are read as they are written (R9, R15, R43, R188) -/

namespace Sys2Proof.Machine

/-! ### What is carried of an event's stated fields -/

def StartMode.code : StartMode → Nat
  | .fixed _ => 1
  | .follow => 2
  | .locked => 3

def EndMode.code : EndMode → Nat
  | .timed _ => 1
  | .openEnd _ => 2

/-- The stated start as carried: the day and the label of the frame (R9). -/
def StartMode.carried (rate : Rate) : StartMode → Option (Nat × Label)
  | .fixed p => some (p.day, Label.ofFrame rate p.frame)
  | _ => none

def StartMode.bytes (rate : Rate) (start : StartMode) : List Byte :=
  (start.carried rate).elim [] fun s => toBE 2 s.1 ++ s.2.bytes

/-- The presence bits: stated start, lock key, duration (R188). -/
def Stated.presence (rate : Rate) (st : Stated) : Nat :=
  (if (st.start.carried rate).isSome then 1 else 0) + (if st.lockKey.isSome then 2 else 0) +
    (if st.stop.field.isSome then 4 else 0)

def SecCue.raw (c : SecCue) : RawCue := ⟨c.offset, c.line.val + 1, c.action.code, c.count, c.period⟩

/-- The record that an event's stated fields are carried as. -/
def Stated.raw (rate : Rate) (st : Stated) : RawRecord :=
  { id := st.id, startMode := st.start.code, endMode := st.stop.code, join := st.join.code,
    presence := st.presence rate, stated := st.start.carried rate, lockKey := st.lockKey, duration := st.stop.field,
    source := st.source, cues := st.cues.map SecCue.raw }

/-- The bytes of a record, field by field, and what follows them. -/
theorem Stated.bytes_append (rate : Rate) (st : Stated) (rest : List Byte) : st.bytes rate ++ rest =
    toBE 4 st.id ++ (toBE 1 st.source.code ++ (toBE 1 st.start.code ++ (toBE 1 st.stop.code ++
      (toBE 1 st.join.code ++ (toBE 1 (st.presence rate) ++ (st.start.bytes rate ++ (st.lockKey.elim [] (toBE 4) ++
        (st.stop.field.elim [] (toBE 4) ++ (st.source.bytes ++ (toBE 1 st.cues.length ++
          (st.cues.flatMap SecCue.bytes ++ rest))))))))))) := by
  obtain ⟨id, source, start, lockKey, stop, join, cues⟩ := st
  cases start <;> cases stop <;> simp only [Stated.bytes, List.append_assoc] <;> rfl

/-! ### The ranges of the codes -/

theorem StartMode.code_lt (m : StartMode) : m.code < 256 ^ 1 := by cases m <;> simp [StartMode.code]
theorem EndMode.code_lt (m : EndMode) : m.code < 256 ^ 1 := by cases m <;> simp [EndMode.code]
theorem JoinPolicy.code_lt (p : JoinPolicy) : p.code < 256 ^ 1 := by cases p <;> simp [JoinPolicy.code]
theorem SecAction.code_lt (a : SecAction) : a.code < 256 ^ 1 := by cases a <;> simp [SecAction.code]
theorem Source.code_lt (s : Source) : s.code < 256 ^ 1 := by cases s <;> simp [Source.code]

@[simp] theorem JoinPolicy.ofCode_code (p : JoinPolicy) : JoinPolicy.ofCode p.code = some p := by cases p <;> rfl
@[simp] theorem SecAction.ofCode_code (a : SecAction) : SecAction.ofCode a.code = some a := by cases a <;> rfl

theorem Stated.presence_lt (rate : Rate) (st : Stated) : st.presence rate < 8 := by
  unfold Stated.presence
  split <;> split <;> split <;> decide

/-- Each bit of the presence byte says whether its field is carried. -/
theorem Stated.presence_bits (rate : Rate) (st : Stated) :
    decide (st.presence rate % 2 = 1) = (st.start.carried rate).isSome ∧
      decide (st.presence rate / 2 % 2 = 1) = st.lockKey.isSome ∧
      decide (st.presence rate / 4 % 2 = 1) = st.stop.field.isSome := by
  unfold Stated.presence
  cases (st.start.carried rate).isSome <;> cases st.lockKey.isSome <;> cases st.stop.field.isSome <;> decide

/-- The fields of a frame's label fit a byte each. -/
theorem Label.ofFrame_fits (r : Rate) {f : Nat} (h : f < r.fpd) :
    (Label.ofFrame r f).hh ≤ 23 ∧ (Label.ofFrame r f).mm ≤ 59 ∧ (Label.ofFrame r f).ss ≤ 59 ∧
      (Label.ofFrame r f).ff ≤ 29 := by
  have accepted := (Label.toFrame_isSome r _).mp (Option.isSome_iff_exists.mpr ⟨f, Label.ofFrame_toFrame r f h⟩)
  obtain ⟨hh, mm, ss, ff⟩ := accepted
  refine ⟨hh, mm, ss, ff.trans ?_⟩
  cases r <;> decide

/-! ### Fields read back -/

/-- A field carried when present reads back (R188). -/
theorem readWhen_elim (o : Option Nat) (rest : List Byte) (h : ∀ n, o = some n → n < 4294967296) :
    readWhen o.isSome 4 (o.elim [] (toBE 4) ++ rest) = some (o, rest) := by
  cases o with
  | none => rfl
  | some n =>
    have four : n < 256 ^ 4 := h n rfl
    simp [readWhen, readNat_toBE rest four]

theorem readStated_bytes (day : Nat) (l : Label) (rest : List Byte) (hd : day < 65536) (hh : l.hh ≤ 23)
    (hm : l.mm ≤ 59) (hs : l.ss ≤ 59) (hf : l.ff ≤ 29) :
    readStated (toBE 2 day ++ (l.bytes ++ rest)) = some ((day, l), rest) := by
  have day2 : day < 256 ^ 2 := hd
  have hh1 : l.hh < 256 ^ 1 := by omega
  have mm1 : l.mm < 256 ^ 1 := by omega
  have ss1 : l.ss < 256 ^ 1 := by omega
  have ff1 : l.ff < 256 ^ 1 := by omega
  simp [readStated, Label.bytes, readNat_toBE _ day2, readNat_toBE _ hh1, readNat_toBE _ mm1, readNat_toBE _ ss1,
    readNat_toBE _ ff1]

/-- The stated start reads back where it is carried (R9, R188). -/
theorem readStart_bytes (rate : Rate) (start : StartMode) (rest : List Byte)
    (h : ∀ p, start = .fixed p → p.day < 65536 ∧ p.frame < rate.fpd) :
    (if (start.carried rate).isSome = true then (readStated (start.bytes rate ++ rest)).map fun p => (some p.1, p.2)
      else some (none, start.bytes rate ++ rest)) = some (start.carried rate, rest) := by
  cases start with
  | fixed p =>
    obtain ⟨day, frame⟩ := h p rfl
    obtain ⟨hh, mm, ss, ff⟩ := Label.ofFrame_fits rate frame
    simp [StartMode.bytes, StartMode.carried, readStated_bytes _ _ rest day hh mm ss ff]
  | follow => rfl
  | locked => rfl

/-- The ranges of a source's fields at a rate (R15). -/
def Source.inRange (rate : Rate) : Source → Prop
  | .clip m p => 1 ≤ m.length ∧ m.length ≤ 24 ∧ m.all printable = true ∧ p < rate.fpd
  | .live i => 1 ≤ i ∧ i ≤ 256
  | .slate n => 1 ≤ n ∧ n ≤ 16

theorem Rate.fpd_lt (r : Rate) : r.fpd < 4294967296 := by cases r <;> decide

theorem readSource_bytes (rate : Rate) (src : Source) (rest : List Byte) (h : src.inRange rate) :
    readSource src.code (src.bytes ++ rest) = some (src, rest) := by
  cases src with
  | clip m p =>
    obtain ⟨-, short, -, inPoint⟩ := h
    have length1 : m.length < 256 ^ 1 := by omega
    have four : p < 256 ^ 4 := inPoint.trans rate.fpd_lt
    simp [readSource, Source.code, Source.bytes, readNat_toBE _ length1, readNat_toBE _ four, takeBytes_append]
  | live i =>
    have two : i < 256 ^ 2 := by have := h.2; omega
    simp [readSource, Source.code, Source.bytes, readNat_toBE _ two]
  | slate n =>
    have one : n < 256 ^ 1 := by have := h.2; omega
    simp [readSource, Source.code, Source.bytes, readNat_toBE _ one]

/-- The ranges of a secondary cue's fields at a rate (R15). -/
def SecCue.inRange (rate : Rate) (c : SecCue) : Prop :=
  c.offset < rate.fpd ∧ 1 ≤ c.count ∧ c.count ≤ 16 ∧ c.period < 65536 ∧ (c.count ≠ 1 → 1 ≤ c.period)

theorem readCue_bytes (rate : Rate) (c : SecCue) (rest : List Byte) (h : c.inRange rate) :
    readCue (c.bytes ++ rest) = some (c.raw, rest) := by
  obtain ⟨offset, -, count, period, -⟩ := h
  have offset4 : c.offset < 256 ^ 4 := offset.trans rate.fpd_lt
  have line1 : c.line.val + 1 < 256 ^ 1 := by omega
  have count1 : c.count < 256 ^ 1 := by omega
  have period2 : c.period < 256 ^ 2 := period
  simp [readCue, SecCue.bytes, SecCue.raw, readNat_toBE _ offset4, readNat_toBE _ line1,
    readNat_toBE _ c.action.code_lt, readNat_toBE _ count1, readNat_toBE _ period2]

theorem readCues_bytes (rate : Rate) (cs : List SecCue) (rest : List Byte) (h : ∀ c ∈ cs, c.inRange rate) :
    readCues cs.length (cs.flatMap SecCue.bytes ++ rest) = some (cs.map SecCue.raw, rest) := by
  induction cs with
  | nil => rfl
  | cons c cs ih =>
    obtain ⟨first, others⟩ := List.forall_mem_cons.mp h
    simp [readCues, readCue_bytes rate c _ first, ih others]

/-! ### The record -/

/-- The ranges of an event's stated fields at a rate (R15, R188). -/
structure Stated.InRange (rate : Rate) (st : Stated) : Prop where
  idLow : 1 ≤ st.id
  idHigh : st.id < 4294967296
  source : st.source.inRange rate
  start : ∀ p, st.start = .fixed p → p.day < 65536 ∧ p.frame < rate.fpd
  key : ∀ k, st.lockKey = some k → k < 4294967296
  locked : st.start = .locked → st.lockKey ≠ none
  duration : ∀ d, st.stop.field = some d → 1 ≤ d ∧ d ≤ rate.fpd
  few : st.cues.length ≤ 4
  cues : ∀ c ∈ st.cues, c.inRange rate

/-- A field that reads back hands its value and the rest on. -/
theorem bind_of_eq_some {α β : Type} {x : Option α} {a : α} (h : x = some a) (f : α → Option β) : (x >>= f) = f a := by
  rw [h]; rfl

theorem readRecord_bytes (rate : Rate) (st : Stated) (rest : List Byte) (h : st.InRange rate) :
    readRecord (st.bytes rate ++ rest) = some (st.raw rate, rest) := by
  obtain ⟨startBit, keyBit, durationBit⟩ := st.presence_bits rate
  have id4 : st.id < 256 ^ 4 := h.idHigh
  have presence1 : st.presence rate < 256 ^ 1 := (st.presence_lt rate).trans (by decide)
  have cues1 : st.cues.length < 256 ^ 1 := by have := h.few; omega
  have durations (d : Nat) (hd : st.stop.field = some d) : d < 4294967296 := (h.duration d hd).2.trans_lt rate.fpd_lt
  have start (bs : List Byte) : (if st.presence rate % 2 = 1 then
      (readStated (st.start.bytes rate ++ bs)).map fun p => (some p.1, p.2) else some (none, st.start.bytes rate ++ bs)) =
      some (st.start.carried rate, bs) := by
    rw [← readStart_bytes rate st.start bs h.start]
    exact if_congr (by rw [← startBit, decide_eq_true_iff]) rfl rfl
  rw [Stated.bytes_append]
  refine (bind_of_eq_some (readNat_toBE _ id4) _).trans ?_
  refine (bind_of_eq_some (readNat_toBE _ st.source.code_lt) _).trans ?_
  refine (bind_of_eq_some (readNat_toBE _ st.start.code_lt) _).trans ?_
  refine (bind_of_eq_some (readNat_toBE _ st.stop.code_lt) _).trans ?_
  refine (bind_of_eq_some (readNat_toBE _ st.join.code_lt) _).trans ?_
  refine (bind_of_eq_some (readNat_toBE _ presence1) _).trans ?_
  refine ((apply_ite (· >>= _) _ _ _).symm.trans (bind_of_eq_some (start _) _)).trans ?_
  refine (bind_of_eq_some (keyBit ▸ readWhen_elim _ _ h.key) _).trans ?_
  refine (bind_of_eq_some (durationBit ▸ readWhen_elim _ _ durations) _).trans ?_
  refine (bind_of_eq_some (readSource_bytes rate _ _ h.source) _).trans ?_
  refine (bind_of_eq_some (readNat_toBE _ cues1) _).trans ?_
  exact bind_of_eq_some (readCues_bytes rate _ _ h.cues) _

/-! ### The judgement of a record read (R43) -/

theorem Source.formed_of_inRange {rate : Rate} {src : Source} (h : src.inRange rate) : src.formed = true := by
  cases src with
  | clip m p =>
    obtain ⟨low, high, chars, -⟩ := h
    simp [Source.formed, low, high, chars]
  | live i => simpa [Source.formed, Source.inRange] using h
  | slate n => simpa [Source.formed, Source.inRange] using h

theorem SecCue.raw_formed {rate : Rate} {c : SecCue} (h : c.inRange rate) : c.raw.formed = true := by
  obtain ⟨-, low, high, -, period⟩ := h
  have line : c.line.val + 1 ≤ 4 := c.line.isLt
  have spaced : c.count = 1 ∨ 1 ≤ c.period := or_iff_not_imp_left.mpr period
  have action : (SecAction.ofCode c.raw.action).isSome = true := by rw [SecCue.raw, SecAction.ofCode_code]; rfl
  simp only [RawCue.formed, Bool.and_eq_true, Bool.or_eq_true, decide_eq_true_iff]
  exact ⟨⟨⟨⟨⟨Nat.le_add_left 1 _, line⟩, action⟩, low⟩, high⟩, spaced⟩

theorem Stated.raw_formed {rate : Rate} {st : Stated} (h : st.InRange rate) : (st.raw rate).formed = true := by
  have cues : (st.cues.map SecCue.raw).all RawCue.formed = true := by
    simpa using fun c hc => SecCue.raw_formed (h.cues c hc)
  have start : (match st.start.code with
      | 1 => (st.start.carried rate).isSome
      | 2 => (st.start.carried rate).isNone
      | 3 => (st.start.carried rate).isNone && st.lockKey.isSome
      | _ => false) = true := by
    cases hs : st.start with
    | fixed p => rfl
    | follow => rfl
    | locked => simpa [StartMode.code, StartMode.carried, Option.isSome_iff_ne_none] using h.locked hs
  have stop : (match st.stop.code with
      | 1 => st.stop.field.isSome
      | 2 => true
      | _ => false) = true := by cases st.stop <;> rfl
  simp only [RawRecord.formed, Bool.and_eq_true, decide_eq_true_iff]
  refine ⟨⟨⟨⟨⟨⟨⟨h.idLow, st.presence_lt rate⟩, Source.formed_of_inRange h.source⟩, ?_⟩, ?_⟩, cues⟩, start⟩, stop⟩
  · rw [Stated.raw, JoinPolicy.ofCode_code]; rfl
  · rw [Stated.raw, List.length_map]; exact h.few

theorem statedPos_carried (rate : Rate) (p : Pos) (h : p.frame < rate.fpd) :
    statedPos rate (p.day, Label.ofFrame rate p.frame) = some p := by
  simp [statedPos, Label.ofFrame_toFrame rate p.frame h]

theorem Stated.raw_timely {rate : Rate} {st : Stated} (h : st.InRange rate) : (st.raw rate).timely rate = true := by
  simp only [RawRecord.timely, Bool.and_eq_true]
  refine ⟨⟨⟨?_, ?_⟩, ?_⟩, ?_⟩
  · cases hs : st.start with
    | fixed p => simp [Stated.raw, hs, StartMode.carried, statedPos_carried rate p (h.start p hs).2]
    | follow => simp [Stated.raw, hs, StartMode.carried]
    | locked => simp [Stated.raw, hs, StartMode.carried]
  · cases hd : st.stop.field with
    | none => simp [Stated.raw, hd]
    | some d => simpa [Stated.raw, hd, durationOk] using h.duration d hd
  · have source := h.source
    cases hs : st.source with
    | clip m p =>
      rw [hs] at source
      obtain ⟨-, -, -, inPoint⟩ := source
      simpa [Stated.raw, hs] using inPoint
    | live i => simp [Stated.raw, hs]
    | slate n => simp [Stated.raw, hs]
  · refine List.all_eq_true.mpr fun raw carried => ?_
    obtain ⟨c, hc, rfl⟩ := List.mem_map.mp carried
    exact decide_eq_true (h.cues c hc).1

/-- The secondary cue that a carried one of good form is stored as (R15). -/
def RawCue.stored (c : RawCue) : SecCue where
  offset := c.offset
  line := ⟨(c.line - 1) % 4, Nat.mod_lt _ (by decide)⟩
  action := (SecAction.ofCode c.action).getD .pulse
  count := c.count
  period := c.period

theorem RawCue.stored_raw (c : SecCue) : c.raw.stored = c := by
  have line : c.line.val % 4 = c.line.val := Nat.mod_eq_of_lt c.line.isLt
  simp [RawCue.stored, SecCue.raw, line]

theorem Stated.eq_of_fields {a b : Stated} (id : a.id = b.id) (source : a.source = b.source) (start : a.start = b.start)
    (key : a.lockKey = b.lockKey) (stop : a.stop = b.stop) (join : a.join = b.join) (cues : a.cues = b.cues) : a = b := by
  cases a; cases b; cases id; cases source; cases start; cases key; cases stop; cases join; cases cues; rfl

theorem Stated.raw_stated {rate : Rate} {st : Stated} (h : st.InRange rate) : (st.raw rate).stated! rate = st := by
  refine Stated.eq_of_fields rfl rfl ?_ rfl ?_ ?_ ?_
  · cases hs : st.start with
    | fixed p =>
      simp [RawRecord.stated!, Stated.raw, hs, StartMode.code, StartMode.carried, statedPos_carried rate p (h.start p hs).2]
    | follow => simp [RawRecord.stated!, Stated.raw, hs, StartMode.code, StartMode.carried]
    | locked => simp [RawRecord.stated!, Stated.raw, hs, StartMode.code, StartMode.carried]
  · cases hs : st.stop <;> simp [RawRecord.stated!, Stated.raw, hs, EndMode.code, EndMode.field]
  · simp [RawRecord.stated!, Stated.raw]
  · calc ((st.raw rate).stated! rate).cues = (st.cues.map SecCue.raw).map RawCue.stored := rfl
      _ = st.cues.map (RawCue.stored ∘ SecCue.raw) := List.map_map ..
      _ = st.cues := List.map_id'' RawCue.stored_raw st.cues

end Sys2Proof.Machine

namespace Sys2Proof.HouseTime
open Sys2Proof.Machine

/-- Settles O55: the bytes read back as the record carried, which is formed, timely and stands for the stated fields. -/
theorem eventRecordsReadBack : Obligations.EventRecordsReadBack := by
  intro rate st rest idLow idHigh source start key locked duration few cues
  have inRange : st.source.inRange rate := by cases hs : st.source <;> rw [hs] at source <;> exact source
  have h : st.InRange rate := ⟨idLow, idHigh, inRange, start, key, locked, duration, few, cues⟩
  refine ⟨st.raw rate, readRecord_bytes rate st rest h, ?_⟩
  simp [RawRecord.judge, Stated.raw_formed h, Stated.raw_timely h, Stated.raw_stated h]

end Sys2Proof.HouseTime

/-! ## The lists of events and the timing walk (R22 to R31) -/

namespace Sys2Proof.Machine

/-! ### Splitting a list at an event -/

theorem splitAt_eq_some {id : Nat} {l before after : List Rec} {e : Rec} :
    splitAt id l = some (before, e, after) ↔
      l = before ++ e :: after ∧ e.stated.id = id ∧ ∀ x ∈ before, x.stated.id ≠ id := by
  induction l generalizing before with
  | nil => simp [splitAt]
  | cons x xs ih =>
    by_cases hx : x.stated.id = id
    · cases before with
      | nil => simp [splitAt, hx]; grind
      | cons b bs => simp [splitAt, hx]; grind
    · cases before with
      | nil => simp [splitAt, hx]; grind
      | cons b bs => simp [splitAt, hx, ih]; grind

theorem findEvent_of_splitAt {id : Nat} {l before after : List Rec} {e : Rec}
    (h : splitAt id l = some (before, e, after)) : findEvent id l = some e := by simp [findEvent, h]

theorem findEvent_eq_none {id : Nat} {l : List Rec} : findEvent id l = none ↔ splitAt id l = none := by
  simp [findEvent]

/-! ### What a record keeps through the walk -/

/-- What the walk leaves of a record: its pool index, its stated fields and its past flag (R16, R23). -/
def Rec.fixed (e : Rec) : Nat × Stated × Bool := (e.idx, e.stated, e.derived.past)

theorem map_idx_of_map_fixed {l m : List Rec} (h : l.map Rec.fixed = m.map Rec.fixed) :
    l.map Rec.idx = m.map Rec.idx := by
  simpa [Function.comp_def, Rec.fixed] using congrArg (List.map Prod.fst) h

@[simp] theorem capAt_fixed (r : Rate) (p : Pos) (e : Rec) : (capAt r p e).fixed = e.fixed := by
  rw [capAt_only_times]; rfl

@[simp] theorem walkAnchor_fixed (r : Rate) (p : Pos) (a : Anchor) (e : Rec) (next : Option Pos) :
    (walkAnchor r p a e next).fixed = e.fixed := rfl

@[simp] theorem walkOne_fixed (r : Rate) (t : Option Pos) (e : Rec) (h : Hard) (next : Option Pos) :
    (walkOne r t e h next).1.fixed = e.fixed := by cases h <;> rfl

/-! ### Hard starts (R26) -/

theorem hards_cons (r : Rate) (lead : Nat → Option Pos) (near : Option Pos) (e : Rec) (es : List Rec) :
    hards r lead near (e :: es) = (e, hardOf r lead near e.stated) ::
      hards r lead (match hardOf r lead near e.stated with | .hard p => some p | _ => near) es := rfl

@[simp] theorem hards_map_fst (r : Rate) (lead : Nat → Option Pos) (near : Option Pos) (l : List Rec) :
    (hards r lead near l).map Prod.fst = l := by
  induction l generalizing near with
  | nil => rfl
  | cons e es ih => rw [hards_cons, List.map_cons, ih]

theorem firstHard_eq_some {es : List (Rec × Hard)} {p : Pos} : firstHard es = some p ↔
    ∃ as x bs, es = as ++ (x, .hard p) :: bs ∧ ∀ y ∈ as, ∀ q, y.2 ≠ .hard q := by
  induction es with
  | nil => simp [firstHard]
  | cons y ys ih =>
    obtain ⟨e, h⟩ := y
    constructor
    · intro found
      cases h with
      | hard q => obtain rfl : q = p := by simpa [firstHard] using found
                  exact ⟨[], e, ys, rfl, by simp⟩
      | soft | eclipsed =>
        obtain ⟨as, x, bs, rfl, none⟩ := ih.mp (by simpa [firstHard] using found)
        exact ⟨(e, _) :: as, x, bs, rfl, by simpa using none⟩
    · rintro ⟨as, x, bs, eq, none⟩
      cases as with
      | nil => obtain ⟨⟨rfl, rfl⟩, rfl⟩ := by simpa using eq
               rfl
      | cons a as =>
        obtain ⟨rfl, rfl⟩ := by simpa using eq
        have later := ih.mpr ⟨as, x, bs, rfl, fun y hy => none y (List.mem_cons_of_mem _ hy)⟩
        cases h with
        | hard q => exact absurd rfl (none _ List.mem_cons_self q)
        | soft | eclipsed => simpa [firstHard] using later

/-! ### The walk of one event (R29 to R31) -/

/-- An event that is not eclipsed by R26 derives its start, and from the start its end, its ceiling and its flags. -/
theorem walkOne_of_ne_eclipsed (r : Rate) (t : Option Pos) (e : Rec) (h : Hard) (next : Option Pos)
    (hh : h ≠ .eclipsed) : walkOne r t e h next =
      let x := startOf r t e.stated h
      let natural := x.1.bind (e.stated.naturalFrom r)
      let stop := x.1.bind fun p => Pos.earlier? r natural (ceilingOf r p next)
      ({ e with derived := {
          start := x.1, stop := stop
          eclipsed := match x.1, stop with
            | some a, some b => decide (a = b)
            | _, _ => false
          truncated := match natural, stop with
            | some n, some p => Pos.before r p n
            | _, _ => false
          lateStart := x.2.1, gap := x.2.2, past := e.derived.past } }, stop) := by
  cases h with
  | eclipsed => exact absurd rfl hh
  | soft | hard p => rfl

theorem startOf_hard_none (r : Rate) (st : Stated) (p : Pos) : startOf r none st (.hard p) = (some p, false, 0) := rfl

theorem startOf_hard_late (r : Rate) (st : Stated) (p q : Pos) (h : Pos.before r p q = true) :
    startOf r (some q) st (.hard p) = (some q, true, 0) := by simp [startOf, h]

theorem startOf_hard_ahead (r : Rate) (st : Stated) (p q : Pos) (h : Pos.before r p q = false) :
    startOf r (some q) st (.hard p) =
      (some p, false, if 0 < Pos.diff r q p then min (Pos.diff r q p).toNat (14 * r.fpd) else 0) := by
  simp only [startOf, h, Pos.after]
  by_cases ahead : 0 < Pos.diff r q p <;> simp [ahead]

theorem startOf_follow (r : Rate) (t : Option Pos) (st : Stated) (h : st.start = .follow) :
    startOf r t st .soft = (t, false, 0) := by simp [startOf, h]

theorem startOf_locked (r : Rate) (t : Option Pos) (st : Stated) (h : st.start = .locked) :
    startOf r t st .soft = (none, false, 0) := by simp [startOf, h]

/-! ### The walk of a list (R27 to R31) -/

theorem walkFrom_open (r : Rate) (t : Option Pos) (e : Rec) (h : Hard) (es : List (Rec × Hard))
    (now : e.derived.past = false) : walkFrom r t ((e, h) :: es) =
      (walkOne r t e h (firstHard es)).1 :: walkFrom r (walkOne r t e h (firstHard es)).2 es := by simp [walkFrom, now]

theorem walkFrom_past (r : Rate) (t : Option Pos) (e : Rec) (h : Hard) (es : List (Rec × Hard))
    (past : e.derived.past = true) : walkFrom r t ((e, h) :: es) = e :: walkFrom r t es := by simp [walkFrom, past]

theorem walkFrom_map_fixed (r : Rate) (t : Option Pos) (es : List (Rec × Hard)) :
    (walkFrom r t es).map Rec.fixed = (es.map Prod.fst).map Rec.fixed := by
  induction es generalizing t with
  | nil => rfl
  | cons x es ih =>
    obtain ⟨e, h⟩ := x
    cases past : e.derived.past with
    | true => rw [walkFrom_past r t e h es past, List.map_cons, ih]; rfl
    | false => rw [walkFrom_open r t e h es past, List.map_cons, ih, walkOne_fixed]; rfl

/-- With no anchor event in the list the walk begins at the first event that is not past, its time unresolved (R28). -/
theorem walkList_unanchored (r : Rate) (now : Pos) (lead : Nat → Option Pos) (a : Option Anchor) (l : List Rec)
    (absent : ∀ x, a = some x → splitAt x.event l = none) : walkList r now lead a l =
      (l.takeWhile fun e => e.derived.past) ++
        walkFrom r none (hards r lead none (l.dropWhile fun e => e.derived.past)) := by
  have gone : (a.bind fun a => (splitAt a.event l).map fun x => (a, x)) = none := by
    cases a with
    | none => rfl
    | some x => simp [absent x rfl]
  simp only [walkList, gone, List.span_eq_takeWhile_dropWhile]

/-- The position from which an anchor event's end is reckoned (R27). -/
def Anchor.from (now : Pos) (a : Anchor) : Pos :=
  match a.source with
  | .beat => a.report
  | .air => now

/-- With its anchor event in the list the walk caps what stands before it and goes on from its end (R27). -/
theorem walkList_anchored (r : Rate) (now : Pos) (lead : Nat → Option Pos) (a : Anchor) (l before after : List Rec)
    (e : Rec) (found : splitAt a.event l = some (before, e, after)) :
    ∃ first later, hards r lead none (e :: after) = first :: later ∧
      walkList r now lead (some a) l = before.map (capAt r a.actual) ++
        walkAnchor r (a.from now) a e (firstHard later) ::
          walkFrom r (walkAnchor r (a.from now) a e (firstHard later)).derived.stop later := by
  refine ⟨_, _, hards_cons r lead none e after, ?_⟩
  simp only [walkList, Option.bind_some, found, Option.map_some]
  rw [hards_cons]
  rfl

theorem walkList_map_fixed (r : Rate) (now : Pos) (lead : Nat → Option Pos) (a : Option Anchor) (l : List Rec) :
    (walkList r now lead a l).map Rec.fixed = l.map Rec.fixed := by
  by_cases absent : ∀ x, a = some x → splitAt x.event l = none
  · rw [walkList_unanchored r now lead a l absent, List.map_append, walkFrom_map_fixed, hards_map_fst,
      ← List.map_append,
      List.takeWhile_append_dropWhile]
  · push Not at absent
    obtain ⟨x, rfl, present⟩ := absent
    obtain ⟨⟨before, e, after⟩, found⟩ := Option.ne_none_iff_exists'.mp present
    obtain ⟨first, later, starts, eq⟩ := walkList_anchored r now lead x l before after e found
    have tail : (later.map Prod.fst) = after := by
      have := congrArg (List.map Prod.fst) starts
      rw [hards_map_fst] at this
      exact (List.cons.inj this).2.symm
    rw [eq, (splitAt_eq_some.mp found).1, List.map_append, List.map_cons, walkFrom_map_fixed, tail, walkAnchor_fixed,
      List.map_map, List.map_append, List.map_cons]
    congr 1
    exact List.map_congr_left fun b _ => capAt_fixed r x.actual b

/-! ### Marking past, and clearing past flags (R23) -/

/-- An event before the anchor event whose derived end is at or before now is marked past (R23). -/
def Rec.marked (r : Rate) (now : Pos) (x : Rec) : Rec :=
  { x with derived := { x.derived with
      past := x.derived.past || x.derived.stop.elim false fun p => decide (0 ≤ Pos.diff r p now) } }

theorem markPastList_found (r : Rate) (now : Pos) (a : Anchor) (l before after : List Rec) (e : Rec)
    (found : splitAt a.event l = some (before, e, after)) :
    markPastList r now (some a) l = before.map (Rec.marked r now) ++ e :: after := by
  simp only [markPastList, Option.bind_some, found]
  congr 1
  refine List.map_congr_left fun x _ => ?_
  obtain ⟨idx, stated, start, stop, eclipsed, truncated, lateStart, gap, past⟩ := x
  cases stop with
  | none => simp [Rec.marked]
  | some p => by_cases reached : 0 ≤ Pos.diff r p now <;> simp [Rec.marked, Pos.atOrPast, reached]

theorem markPastList_map_idx (r : Rate) (now : Pos) (a : Option Anchor) (l : List Rec) :
    (markPastList r now a l).map Rec.idx = l.map Rec.idx := by
  cases a with
  | none => rfl
  | some a =>
    cases found : splitAt a.event l with
    | none => simp [markPastList, found]
    | some x =>
      obtain ⟨before, e, after⟩ := x
      rw [markPastList_found r now a l before after e found, (splitAt_eq_some.mp found).1]
      simp [Function.comp_def, Rec.marked]

theorem clearPastFrom_map_idx (id : Nat) (l : List Rec) : (clearPastFrom id l).map Rec.idx = l.map Rec.idx := by
  unfold clearPastFrom
  split
  next before e after found =>
    split
    · rw [(splitAt_eq_some.mp found).1]; simp [Function.comp_def]
    · rfl
  next => rfl

/-! ### Trimming (R24) -/

theorem takePast_perm (n : Nat) (l : List Rec) : ((takePast n l).1 ++ (takePast n l).2).Perm l := by
  induction l generalizing n with
  | nil => cases n <;> simp [takePast]
  | cons e es ih =>
    cases n with
    | zero => simp [takePast]
    | succ n =>
      cases past : e.derived.past with
      | true => simpa [takePast, past] using ih n
      | false => simpa [takePast, past] using List.perm_middle.trans ((ih (n + 1)).cons e)

theorem takePast_sublist (n : Nat) (l : List Rec) : (takePast n l).2.Sublist l := by
  induction l generalizing n with
  | nil => cases n <;> simp [takePast]
  | cons e es ih =>
    cases n with
    | zero => simp [takePast]
    | succ n =>
      cases past : e.derived.past with
      | true => simpa [takePast, past] using (ih n).cons e
      | false => simpa [takePast, past] using ih (n + 1)

/-- What is taken are the first past events, and the others stay as they stood. -/
theorem takePast_spec (n : Nat) (l : List Rec) :
    (takePast n l).1 = (l.filter fun e => e.derived.past).take n ∧
      (takePast n l).2.filter (fun e => e.derived.past) = (l.filter fun e => e.derived.past).drop n ∧
      (takePast n l).2.filter (fun e => !e.derived.past) = l.filter fun e => !e.derived.past := by
  induction l generalizing n with
  | nil => cases n <;> simp [takePast]
  | cons e es ih =>
    cases n with
    | zero => simp [takePast]
    | succ n =>
      cases past : e.derived.past with
      | true => simpa [takePast, past] using ih n
      | false => simpa [takePast, past] using ih (n + 1)

theorem trimList_perm (l : List Rec) : ((trimList l).1 ++ (trimList l).2).Perm l := takePast_perm _ l

/-- Where nothing is taken the list stands. -/
theorem trimList_of_nil {l : List Rec} (h : (trimList l).1 = []) : (trimList l).2 = l := by
  have same := (trimList_perm l).length_eq
  rw [h, List.nil_append] at same
  exact (takePast_sublist _ l).eq_of_length same

end Sys2Proof.Machine

/-! ## Edits over a list, and profiles (R18, R22, R43, R45 to R47) -/

namespace Sys2Proof.Machine

/-! ### Placing and rewriting a record (R22) -/

theorem insertRec_found (x : Rec) {id : Nat} {l before after : List Rec} {e : Rec}
    (found : splitAt id l = some (before, e, after)) : insertRec (some id) x l = before ++ e :: x :: after := by
  simp [insertRec, found]

theorem rewriteRec_found (f : Stated → Stated) {id : Nat} {l before after : List Rec} {x : Rec}
    (found : splitAt id l = some (before, x, after)) :
    rewriteRec id f l = before ++ { x with stated := f x.stated } :: after := by simp [rewriteRec, found]

theorem rewriteRec_absent (f : Stated → Stated) {id : Nat} {l : List Rec} (absent : splitAt id l = none) :
    rewriteRec id f l = l := by simp [rewriteRec, absent]

/-- What a rewriting of stated fields leaves of every record it leaves of the list. -/
theorem rewriteRec_map {α : Type} (g : Rec → α) {f : Stated → Stated}
    (keeps : ∀ x, g { x with stated := f x.stated } = g x) (id : Nat) (l : List Rec) :
    (rewriteRec id f l).map g = l.map g := by
  cases found : splitAt id l with
  | none => rw [rewriteRec_absent f found]
  | some x =>
    obtain ⟨before, x, after⟩ := x
    rw [rewriteRec_found f found, (splitAt_eq_some.mp found).1]
    simp [keeps]

theorem rewriteRec_length (id : Nat) (f : Stated → Stated) (l : List Rec) : (rewriteRec id f l).length = l.length := by
  simpa using congrArg List.length (rewriteRec_map (fun _ => ()) (f := f) (fun _ => rfl) id l)

theorem mem_rewriteRec_of_ne {id : Nat} {f : Stated → Stated} {l : List Rec} {x : Rec} (h : x ∈ l)
    (other : x.stated.id ≠ id) : x ∈ rewriteRec id f l := by
  cases found : splitAt id l with
  | none => rwa [rewriteRec_absent f found]
  | some y =>
    obtain ⟨before, y, after⟩ := y
    obtain ⟨rfl, named, -⟩ := splitAt_eq_some.mp found
    rw [rewriteRec_found f found]
    have apart : x ≠ y := fun eq => other (eq ▸ named)
    simp only [List.mem_append, List.mem_cons, apart, false_or] at h ⊢
    exact h.imp_right .inr

/-! ### Stated order (R43 step 6) -/

theorem inOrder_iff (r : Rate) (l : List Rec) : inOrder r l = true ↔
    (l.filterMap fun x => x.stated.fixedAt).Pairwise fun p q => Pos.before r q p = false := by
  unfold inOrder
  generalize l.filterMap (fun x => x.stated.fixedAt) = ps
  induction ps with
  | nil => simp [nonDecreasing]
  | cons p ps ih => simp [nonDecreasing, ih]

theorem inOrder_congr (r : Rate) {l m : List Rec}
    (h : (l.map fun x => x.stated.fixedAt) = m.map fun x => x.stated.fixedAt) : inOrder r l = inOrder r m := by
  have same : (l.filterMap fun x => x.stated.fixedAt) = m.filterMap fun x => x.stated.fixedAt := by
    simpa [List.filterMap_map, Function.comp_def] using congrArg (List.filterMap id) h
  rw [inOrder, same, inOrder]

theorem inOrder_sublist (r : Rate) {l m : List Rec} (h : l.Sublist m) (ordered : inOrder r m = true) :
    inOrder r l = true :=
  (inOrder_iff r l).mpr (((inOrder_iff r m).mp ordered).sublist (h.filterMap _))

/-! ### The list after an edit -/

theorem onList_delete_found (rate : Rate) (idx : Nat) {id : Nat} {l before after : List Rec} {x : Rec}
    (found : splitAt id l = some (before, x, after)) : EditOp.onList rate idx (.delete id) l = before ++ after := by
  simp [EditOp.onList, found]

theorem onList_delete_absent (rate : Rate) (idx : Nat) {id : Nat} {l : List Rec} (absent : splitAt id l = none) :
    EditOp.onList rate idx (.delete id) l = l := by simp [EditOp.onList, absent]

/-- What an edit does to a list, by kind: it adds one record, takes one away, leaves the list, or rewrites the stated
fields of its target. -/
theorem EditOp.kinds (e : EditOp) :
    (∃ a r, e = .insertAfter a r) ∨ (∃ id, e = .delete id) ∨ (∃ p, e = .setProfile p) ∨
      (∃ id, e.target = some id ∧ e.adds = false ∧ (∀ d, e ≠ .delete d) ∧
        ∀ rate idx l, e.onList rate idx l = rewriteRec id (e.rewrites rate) l) := by
  cases e with
  | insertAfter a r => exact .inl ⟨a, r, rfl⟩
  | delete id => exact .inr (.inl ⟨id, rfl⟩)
  | setProfile p => exact .inr (.inr (.inl ⟨p, rfl⟩))
  | replace id _ | retimeStart id _ | retimeDuration id _ | setEnd id _ =>
    exact .inr (.inr (.inr ⟨id, rfl, rfl, nofun, fun _ _ _ => rfl⟩))

/-- A record placed behind an anchor of the list, or first, is added to it, and the others stay. -/
theorem insertRec_perm (a : Option Nat) (x : Rec) (l : List Rec) (placed : ∀ id, a = some id → splitAt id l ≠ none) :
    (insertRec a x l).Perm (x :: l) := by
  cases a with
  | none => exact .refl _
  | some id =>
    obtain ⟨⟨before, e, after⟩, found⟩ := Option.ne_none_iff_exists'.mp (placed id rfl)
    have split : before ++ e :: x :: after = (before ++ [e]) ++ x :: after := by simp
    rw [insertRec_found _ found, split, (splitAt_eq_some.mp found).1]
    simpa using List.perm_middle (a := x) (l₁ := before ++ [e]) (l₂ := after)

theorem splitAt_of_placed {a : Option Nat} {r : RawRecord} {l : List Rec}
    (placed : (EditOp.insertAfter a r).placed l = none) (id : Nat) (h : a = some id) : splitAt id l ≠ none := by
  subst h
  intro absent
  simp [EditOp.placed, findEvent_eq_none.mpr absent] at placed

/-- The record a DELETE takes off the list. -/
def EditOp.removes (e : EditOp) (l : List Rec) : List Rec :=
  match e with
  | .delete id => (findEvent id l).toList
  | _ => []

theorem onList_delete_perm (rate : Rate) (idx id : Nat) (l : List Rec) :
    (EditOp.onList rate idx (.delete id) l ++ (EditOp.delete id).removes l).Perm l := by
  cases found : splitAt id l with
  | none => simp [onList_delete_absent rate idx found, EditOp.removes, findEvent_eq_none.mpr found]
  | some x =>
    obtain ⟨before, x, after⟩ := x
    rw [onList_delete_found rate idx found, EditOp.removes, findEvent_of_splitAt found, (splitAt_eq_some.mp found).1]
    simpa using (List.perm_append_comm (l₁ := after) (l₂ := [x])).append_left before

/-! ### The content checks (R43) -/

/-- A stated start outside the horizon, which is refused while the time is SET (R6, R43). -/
def EditOp.tooFar (rate : Rate) (now : Pos) (timeSet : Bool) (e : EditOp) : Bool :=
  timeSet && (e.carried.bind (statedPos rate)).elim false fun p => !Pos.inHorizon rate now p

theorem EditOp.tooFar_iff (rate : Rate) (now : Pos) (timeSet : Bool) (e : EditOp) :
    e.tooFar rate now timeSet = true ↔
      timeSet = true ∧ ∃ p q, e.carried = some p ∧ statedPos rate p = some q ∧ Pos.inHorizon rate now q = false := by
  unfold EditOp.tooFar
  cases e.carried with
  | none => simp
  | some p => cases h : statedPos rate p <;> simp [h]

/-- The checks in their order (R43). -/
theorem EditOp.check_eq (rate : Rate) (now : Pos) (timeSet poolFull : Bool) (l : List Rec) (e : EditOp) :
    e.check rate now timeSet poolFull l =
      if e.formed = false then some .badCommand
      else if e.timely rate = false then some .badTime
      else if e.tooFar rate now timeSet = true then some .outOfHorizon
      else (e.placed l).or
        (if e.repeats l = true then some .duplicateId
        else if e.ordersList = true ∧ inOrder rate (e.onList rate 0 l) = false then some .badOrder
        else if e.adds = true ∧ 512 ≤ l.length then some .listFull
        else if e.adds = true ∧ poolFull = true then some .poolFull
        else none) := by
  unfold EditOp.check EditOp.tooFar
  cases placed : e.placed l <;> simp [Option.or]

/-- What an edit that passes the checks has shown. -/
structure EditOp.Passes (rate : Rate) (poolFull : Bool) (l : List Rec) (e : EditOp) : Prop where
  placed : e.placed l = none
  fresh : e.repeats l = false
  ordered : e.ordersList = true → inOrder rate (e.onList rate 0 l) = true
  short : e.adds = true → l.length < 512
  room : e.adds = true → poolFull = false

theorem EditOp.passes_of_check {rate : Rate} {now : Pos} {timeSet poolFull : Bool} {l : List Rec} {e : EditOp}
    (h : e.check rate now timeSet poolFull l = none) : e.Passes rate poolFull l := by
  rw [EditOp.check_eq] at h
  split at h
  · cases h
  split at h
  · cases h
  split at h
  · cases h
  obtain ⟨placed, rest⟩ := Option.or_eq_none_iff.mp h
  split at rest
  · cases rest
  next fresh =>
    split at rest
    · cases rest
    next ordered =>
      split at rest
      · cases rest
      next short =>
        split at rest
        · cases rest
        next room =>
          exact ⟨placed, by simpa using fresh, by simpa using ordered, by simpa using short, by simpa using room⟩

end Sys2Proof.Machine

/-! ## The walk of one event and of a list, as the manual tells it (R26 to R31) -/

namespace Sys2Proof.Machine

/-! ### The start (R30) -/

theorem walkOne_start (r : Rate) (t : Option Pos) (e : Rec) (h : Hard) (next : Option Pos) (hh : h ≠ .eclipsed) :
    ((walkOne r t e h next).1.derived.start, (walkOne r t e h next).1.derived.lateStart,
      (walkOne r t e h next).1.derived.gap) = startOf r t e.stated h := by
  rw [walkOne_of_ne_eclipsed r t e h next hh]

theorem walkOne_start_of (r : Rate) (t : Option Pos) (e : Rec) (h : Hard) (next : Option Pos) (hh : h ≠ .eclipsed)
    {x : Option Pos × Bool × Nat} (hx : startOf r t e.stated h = x) :
    (walkOne r t e h next).1.derived.start = x.1 ∧ (walkOne r t e h next).1.derived.lateStart = x.2.1 ∧
      (walkOne r t e h next).1.derived.gap = x.2.2 := by
  rw [← hx, ← walkOne_start r t e h next hh]
  exact ⟨rfl, rfl, rfl⟩

/-! ### The end (R29, R31) -/

theorem walkOne_snd (r : Rate) (t : Option Pos) (e : Rec) (h : Hard) (next : Option Pos) :
    (walkOne r t e h next).2 = (walkOne r t e h next).1.derived.stop := by
  cases h <;> rfl

theorem Pos.earlier?_eq (r : Rate) (x y : Option Pos) : Pos.earlier? r x y =
    (match x, y with
      | some n, some q => some (if Pos.before r q n then q else n)
      | some n, none => some n
      | none, c => c) := by
  cases x <;> cases y <;> rfl

/-- What R31 says of a resolved end against its natural end. -/
theorem truncated_iff (r : Rate) (natural stop : Option Pos) :
    ((match natural, stop with
      | some n, some q => Pos.before r q n
      | _, _ => false) = true) ↔ ∃ n q, natural = some n ∧ stop = some q ∧ Pos.before r q n = true := by
  cases natural <;> cases stop <;> simp

/-- What R31 says of a resolved end against its start. -/
theorem eclipsed_eq (p : Pos) (stop : Option Pos) :
    (match some p, stop with
      | some a, some b => decide (a = b)
      | _, _ => false) = decide (stop = some p) := by
  cases stop <;> simp [eq_comm]

theorem walkOne_unresolved (r : Rate) (t : Option Pos) (e : Rec) (h : Hard) (next : Option Pos) (hh : h ≠ .eclipsed)
    (unresolved : (walkOne r t e h next).1.derived.start = none) :
    (walkOne r t e h next).1.derived.stop = none ∧ (walkOne r t e h next).1.derived.eclipsed = false ∧
      (walkOne r t e h next).1.derived.truncated = false := by
  rw [walkOne_of_ne_eclipsed r t e h next hh] at unresolved ⊢
  dsimp only at unresolved ⊢
  simp [unresolved]

theorem walkOne_stop (r : Rate) (t : Option Pos) (e : Rec) (h : Hard) (next : Option Pos) (hh : h ≠ .eclipsed) {p : Pos}
    (resolved : (walkOne r t e h next).1.derived.start = some p) :
    let d := (walkOne r t e h next).1.derived
    d.stop = Pos.earlier? r (e.stated.naturalFrom r p) (ceilingOf r p next) ∧ d.eclipsed = decide (d.stop = some p) ∧
      (d.truncated = true ↔ ∃ n q, e.stated.naturalFrom r p = some n ∧ d.stop = some q ∧ Pos.before r q n = true) := by
  rw [walkOne_of_ne_eclipsed r t e h next hh] at resolved ⊢
  dsimp only at resolved ⊢
  rw [resolved]
  dsimp only [Option.bind_some]
  exact ⟨rfl, eclipsed_eq .., truncated_iff ..⟩

/-! ### The anchor event (R27) -/

/-- The end of the anchor event: the earlier of its natural end and the next hard start, but at least P + 1 (R27). -/
theorem walkAnchor_stop (r : Rate) (p : Pos) (a : Anchor) (e : Rec) (next : Option Pos) :
    (walkAnchor r p a e next).derived.stop =
      (Pos.earlier? r (e.stated.naturalFrom r a.actual) next).map fun q =>
        if Pos.after r (p.add r 1) q then p.add r 1 else q := rfl

theorem walkAnchor_truncated_iff (r : Rate) (p : Pos) (a : Anchor) (e : Rec) (next : Option Pos) :
    (walkAnchor r p a e next).derived.truncated = true ↔ ∃ n q, e.stated.naturalFrom r a.actual = some n ∧
      (walkAnchor r p a e next).derived.stop = some q ∧ Pos.before r q n = true := truncated_iff ..

/-! ### The cap on an event before the anchor (R27) -/

/-- A time that is unresolved, or later than the actual start, is brought to it (R27). -/
def capped (r : Rate) (p : Pos) : Option Pos → Pos
  | some q => if Pos.after r q p then p else q
  | none => p

theorem capAt_derived (r : Rate) (p : Pos) (e : Rec) :
    (capAt r p e).derived.start = some (capped r p e.derived.start) ∧
      (capAt r p e).derived.stop = some (capped r p e.derived.stop) ∧
      ((capAt r p e).derived.eclipsed = true ↔
        e.derived.eclipsed = true ∨ (capAt r p e ≠ e ∧ (capAt r p e).derived.start = (capAt r p e).derived.stop)) := by
  by_cases within : e.derived.start = some (capped r p e.derived.start) ∧
      e.derived.stop = some (capped r p e.derived.stop)
  · have same : capAt r p e = e := by unfold capAt; exact if_pos within
    obtain ⟨start, stop⟩ := within
    rw [same]
    exact ⟨start, stop, by simp⟩
  · have moved : capAt r p e = { e with derived := { e.derived with
        start := some (capped r p e.derived.start), stop := some (capped r p e.derived.stop)
        eclipsed := e.derived.eclipsed || decide (capped r p e.derived.start = capped r p e.derived.stop) } } := by
      unfold capAt; exact if_neg within
    have other : capAt r p e ≠ e := fun same => within
      ⟨(congrArg (fun x : Rec => x.derived.start) same).symm.trans (by rw [moved]),
        (congrArg (fun x : Rec => x.derived.stop) same).symm.trans (by rw [moved])⟩
    refine ⟨by rw [moved], by rw [moved], ?_⟩
    rw [moved] at other ⊢
    simp [other]

theorem capAt_flags (r : Rate) (p : Pos) (e : Rec) : (capAt r p e).derived.truncated = e.derived.truncated ∧
    (capAt r p e).derived.lateStart = e.derived.lateStart ∧ (capAt r p e).derived.gap = e.derived.gap := by
  rw [capAt_only_times]
  exact ⟨rfl, rfl, rfl⟩

/-! ### The hard start of an event (R26) -/

theorem hardOf_fixed (r : Rate) (lead : Nat → Option Pos) (near : Option Pos) {st : Stated} {p : Pos}
    (h : st.start = .fixed p) : hardOf r lead near st = .hard p := by simp [hardOf, h]

theorem hardOf_follow (r : Rate) (lead : Nat → Option Pos) (near : Option Pos) {st : Stated} (h : st.start = .follow) :
    hardOf r lead near st = .soft := by simp [hardOf, h]

theorem hardOf_locked (r : Rate) (lead : Nat → Option Pos) (near : Option Pos) (st : Stated) (h : st.start = .locked) :
    hardOf r lead near st =
      match st.lockKey.bind lead with
      | none => .soft
      | some p => if near.elim false (Pos.before r p) then .eclipsed else .hard p := by
  simp only [hardOf, h]
  cases st.lockKey.bind lead with
  | none => rfl
  | some p => cases near <;> rfl

/-! ### The past events at the head (R28) -/

theorem firstNotPast_split (l : List Rec) :
    (∀ e ∈ l.takeWhile fun e => e.derived.past, e.derived.past = true) ∧
      ∀ e, (l.dropWhile fun e => e.derived.past).head? = some e → e.derived.past = false := by
  refine ⟨fun e h => List.mem_takeWhile_imp (p := fun e : Rec => e.derived.past) h, fun e h => ?_⟩
  have := List.head?_dropWhile_not (fun e : Rec => e.derived.past) l
  rw [h] at this
  simpa using this

end Sys2Proof.Machine

namespace Sys2Proof.Machine.State

variable (s : State)

/-! ### Leaders and followers (R19, R26) -/

theorem leaderOf_eq_some (c l : Chan) : s.leaderOf c = some l ↔
    (s.chan c).profile.leader = some l ∧ l ≠ c ∧ (s.chan l).profile.leader = none := by
  unfold leaderOf
  cases (s.chan c).profile.leader with
  | none => simp
  | some m => grind

theorem leaderStart_of_leaderOf {c l : Chan} (h : s.leaderOf c = some l) (key : Nat) : s.leaderStart c key =
    ((s.chan l).list.find? fun e => decide (e.stated.lockKey = some key) && !e.derived.eclipsed).bind
      fun e => e.derived.start := by simp [leaderStart, h]

end Sys2Proof.Machine.State

/-! ## What the operations on the replica store do (R20 to R25, R35, R45 to R59)

What each leaves of the free list, of the parked edits and of the probes, and what it makes of the channel's record. -/

namespace Sys2Proof.Machine.State

variable (s : State)

/-! ### The free list and the parked edits -/

/-- The free list and the parked edits, together. -/
def stock (s : State) : List Nat × List Parked := (s.free, s.repl.parked)

theorem free_of_stock {s t : State} (h : t.stock = s.stock) : t.free = s.free := congrArg Prod.fst h
theorem parked_of_stock {s t : State} (h : t.stock = s.stock) : t.repl.parked = s.repl.parked := congrArg Prod.snd h

@[simp] theorem stock_modChan (c : Chan) (f : ChannelRec → ChannelRec) : (s.modChan c f).stock = s.stock := rfl
@[simp] theorem stock_modSlot (n : SlotId) (f : Slot → Slot) : (s.modSlot n f).stock = s.stock := rfl
@[simp] theorem stock_modProbe (p : ProbeId) (f : Probe → Probe) : (s.modProbe p f).stock = s.stock := rfl
@[simp] theorem stock_setLine (f : Line → Line) : (s.setLine f).stock = s.stock := rfl
@[simp] theorem stock_enqueue (m : OutMsg) : (s.enqueue m).stock = s.stock := rfl
@[simp] theorem stock_takeBack (k : Cls) (p : OutMsg → Bool) : (s.takeBack k p).stock = s.stock := rfl
@[simp] theorem stock_replaceWaiting (p : OutMsg → Bool) (m : OutMsg) : (s.replaceWaiting p m).stock = s.stock := rfl

@[simp] theorem stock_setRepl (f : Replication → Replication) (keeps : (f s.repl).parked = s.repl.parked) :
    (s.setRepl f).stock = s.stock := congrArg (s.free, ·) keeps

@[simp] theorem stock_offerBeacon : s.offerBeacon.stock = s.stock := by
  unfold offerBeacon; repeat' split
  all_goals rfl
@[simp] theorem stock_putVerdict (p : ProbeId) : (s.putVerdict p).stock = s.stock := by
  unfold putVerdict; dsimp only; repeat' split
  all_goals rfl
@[simp] theorem stock_beaconRetry : s.beaconRetry.stock = s.stock := by
  unfold beaconRetry; split
  · exact stock_offerBeacon s
  · rfl
@[simp] theorem stock_beforeVerdict (k : Nat) : (s.beforeVerdict k).stock = s.stock := by
  unfold beforeVerdict; split
  · exact (foldl_keeps stock (fun t p => by dsimp only; split <;> simp) _ _).trans (stock_beaconRetry s)
  · rfl

@[simp] theorem stock_armIfReady (n : SlotId) : (s.armIfReady n).stock = s.stock := by
  unfold armIfReady; repeat' split
  all_goals rfl
@[simp] theorem stock_rearm (n : SlotId) : (s.rearm n).stock = s.stock := by
  unfold rearm; repeat' split
  all_goals simp
@[simp] theorem stock_refreshEnd (n : SlotId) : (s.refreshEnd n).stock = s.stock := by
  unfold refreshEnd; split <;> rfl
@[simp] theorem stock_refill (n : SlotId) : (s.refill n).stock = s.stock := by
  unfold refill; split <;> rfl
@[simp] theorem stock_loseEvent (n : SlotId) (c : Chan) (id : Nat) : (s.loseEvent n c id).stock = s.stock := by
  unfold loseEvent; dsimp only; split <;> simp
@[simp] theorem stock_afterWalk (c : Chan) : (s.afterWalk c).stock = s.stock := by
  unfold afterWalk; dsimp only; repeat' split
  all_goals simp
@[simp] theorem stock_imageTouched (c : Chan) : (s.imageTouched c).stock = s.stock := by
  unfold imageTouched; repeat' split
  all_goals rfl
@[simp] theorem stock_answerNone (dst : Addr) (chan : Byte) : (s.answerNone dst chan).stock = s.stock := by
  unfold answerNone; split <;> rfl
@[simp] theorem stock_dropService (c : Chan) : (s.dropService c).stock = s.stock := by
  unfold dropService; dsimp only; repeat' split
  all_goals simp
@[simp] theorem stock_modRequest (c : Chan) (f : ImageRequest → ImageRequest) :
    (s.modRequest c f).stock = s.stock := rfl
@[simp] theorem stock_putAsk (c : Chan) : (s.putAsk c).stock = s.stock := by
  unfold putAsk; repeat' split
  all_goals rfl
@[simp] theorem stock_beforeAsk (c : Chan) : (s.beforeAsk c).stock = s.stock := by
  unfold beforeAsk; split
  · exact (foldl_keeps stock (fun t d => by dsimp only; split <;> simp) _ _).trans (stock_beforeVerdict s 4)
  · rfl
@[simp] theorem stock_askTarget (c : Chan) : (s.askTarget c).stock = s.stock := by simp [askTarget]
@[simp] theorem stock_chooseTarget (c : Chan) : (s.chooseTarget c).stock = s.stock := by
  unfold chooseTarget; repeat' split
  all_goals simp
@[simp] theorem stock_newRound (c : Chan) : (s.newRound c).stock = s.stock := by simp [newRound]
@[simp] theorem stock_beginRequest (c : Chan) : (s.beginRequest c).stock = s.stock := by
  unfold beginRequest; split <;> simp
@[simp] theorem stock_roundAgain (c : Chan) : (s.roundAgain c).stock = s.stock := by
  unfold roundAgain; split <;> simp

theorem freeShadow_free (c : Chan) : (s.freeShadow c).free =
    s.free ++ (s.chan c).shadow.elim [] fun sh => (shadowRecs sh).map Rec.idx := by
  unfold freeShadow
  split
  next sh loading => rw [loading]; rfl
  next closed => rw [closed]; simp

/-- A replica made STALE gives the records of its load back, and no other (R57). -/
theorem setStale_free (c : Chan) (cause : StaleCause) (held : (s.chan c).replica ≠ .empty) :
    (s.setStale c cause).free = s.free ++ (s.chan c).shadow.elim [] fun sh => (shadowRecs sh).map Rec.idx := by
  simp only [setStale, if_neg held, modChan_free, freeShadow_free]
  split
  · rw [free_of_stock (stock_dropService s c), chan, dropService_chans, ← chan]
  · rfl

/-! ### The parked edits through an edit (R39 to R41) -/

/-- The parked edits. -/
def parkedEdits (s : State) : List Parked := s.repl.parked

theorem parkedEdits_of_stock {s t : State} (h : t.stock = s.stock) : t.parkedEdits = s.parkedEdits := parked_of_stock h

@[simp] theorem parkedEdits_modChan (c : Chan) (f : ChannelRec → ChannelRec) :
    (s.modChan c f).parkedEdits = s.parkedEdits := rfl
@[simp] theorem parkedEdits_freeRecs (rs : List Rec) : (s.freeRecs rs).parkedEdits = s.parkedEdits := rfl
@[simp] theorem parkedEdits_imageTouched (c : Chan) : (s.imageTouched c).parkedEdits = s.parkedEdits :=
  parkedEdits_of_stock (stock_imageTouched s c)
@[simp] theorem parkedEdits_afterWalk (c : Chan) : (s.afterWalk c).parkedEdits = s.parkedEdits :=
  parkedEdits_of_stock (stock_afterWalk s c)
@[simp] theorem parkedEdits_dropService (c : Chan) : (s.dropService c).parkedEdits = s.parkedEdits :=
  parkedEdits_of_stock (stock_dropService s c)
@[simp] theorem parkedEdits_beginRequest (c : Chan) : (s.beginRequest c).parkedEdits = s.parkedEdits :=
  parkedEdits_of_stock (stock_beginRequest s c)
@[simp] theorem parkedEdits_roundAgain (c : Chan) : (s.roundAgain c).parkedEdits = s.parkedEdits :=
  parkedEdits_of_stock (stock_roundAgain s c)
@[simp] theorem parkedEdits_trim (c : Chan) : (s.trim c).parkedEdits = s.parkedEdits := by
  unfold trim; dsimp only; split <;> simp
@[simp] theorem parkedEdits_walkOwn (c : Chan) : (s.walkOwn c).parkedEdits = s.parkedEdits := by
  unfold walkOwn; split <;> simp [markPast]
@[simp] theorem parkedEdits_walk (c : Chan) : (s.walk c).parkedEdits = s.parkedEdits :=
  (foldl_keeps parkedEdits (fun t f => parkedEdits_walkOwn t f) _ _).trans (parkedEdits_walkOwn s c)
@[simp] theorem parkedEdits_walkRelated (old : State) (c : Chan) :
    (s.walkRelated old c).parkedEdits = s.parkedEdits := by
  unfold walkRelated
  exact foldl_keeps parkedEdits (fun t d => by dsimp only; split <;> simp) _ _
@[simp] theorem parkedEdits_putProfile (c : Chan) (p : Profile) : (s.putProfile c p).parkedEdits = s.parkedEdits := by
  unfold putProfile; split <;> rfl
@[simp] theorem parkedEdits_applyEdit (c : Chan) (e : EditOp) : (s.applyEdit c e).parkedEdits = s.parkedEdits := by
  unfold applyEdit
  split
  · simp
  · dsimp only
    rw [parkedEdits_walk, parkedEdits_imageTouched, dropLostAnchor, parkedEdits_modChan, parkedEdits_freeRecs]
    split <;> rfl
@[simp] theorem parkedEdits_freeShadow (c : Chan) : (s.freeShadow c).parkedEdits = s.parkedEdits := by
  unfold freeShadow; split <;> rfl
@[simp] theorem parkedEdits_setStale (c : Chan) (cause : StaleCause) :
    (s.setStale c cause).parkedEdits = s.parkedEdits := by
  unfold setStale; dsimp only; repeat' split
  all_goals simp
@[simp] theorem parkedEdits_makeStale (c : Chan) (cause : StaleCause) :
    (s.makeStale c cause).parkedEdits = s.parkedEdits := by simp [makeStale]
@[simp] theorem parkedEdits_advanceSeq (c : Chan) : (s.advanceSeq c).parkedEdits = s.parkedEdits := by
  unfold advanceSeq; split <;> simp
@[simp] theorem parkedEdits_takeDue (c : Chan) (op : Byte) (operands : List Byte) :
    (s.takeDue c op operands).parkedEdits = s.parkedEdits := by
  unfold takeDue; dsimp only; split <;> simp

/-! ### The channel's record beside its image request -/

/-- A channel's record without its image request. -/
def bare (s : State) (d : Chan) : ChannelRec := { s.chan d with request := none }

/-- A record that is the same beside its request is the old one with the new request. -/
theorem chan_of_bare {s t : State} {d : Chan} (h : t.bare d = s.bare d) :
    t.chan d = { s.chan d with request := (t.chan d).request } := by
  have same := congrArg (fun ch : ChannelRec => { ch with request := (t.chan d).request }) h
  exact same

/-- Whether an image request of the channel is in progress. -/
def asks (s : State) (d : Chan) : Bool := (s.chan d).request.isSome

theorem chan_congr {s t : State} (h : t.chans = s.chans) (d : Chan) : t.chan d = s.chan d := by rw [chan, h, chan]

theorem bare_congr {s t : State} (h : t.chans = s.chans) (d : Chan) : t.bare d = s.bare d := by
  rw [bare, chan_congr h, bare]

theorem asks_congr {s t : State} (h : t.chans = s.chans) (d : Chan) : t.asks d = s.asks d := by
  rw [asks, chan_congr h, asks]

/-- The record of any channel after one channel's is changed. -/
theorem modChan_chan_eq (c d : Chan) (f : ChannelRec → ChannelRec) :
    (s.modChan c f).chan d = if c = d then f (s.chan d) else s.chan d := vmod_get _ _ _ _

@[simp] theorem bare_modRequest (c d : Chan) (f : ImageRequest → ImageRequest) :
    (s.modRequest c f).bare d = s.bare d := by
  rw [bare, modRequest, modChan_chan_eq]
  split <;> rfl
@[simp] theorem asks_modRequest (c d : Chan) (f : ImageRequest → ImageRequest) :
    (s.modRequest c f).asks d = s.asks d := by
  rw [asks, modRequest, modChan_chan_eq]
  split
  · exact Option.isSome_map
  · rfl

/-! ### Trimming, and the walk of one channel (R23 to R25) -/

@[simp] theorem imageTouched_free (c : Chan) : (s.imageTouched c).free = s.free :=
  free_of_stock (stock_imageTouched s c)
@[simp] theorem afterWalk_free (c : Chan) : (s.afterWalk c).free = s.free := free_of_stock (stock_afterWalk s c)

theorem imageTouched_chan (c d : Chan) : (s.imageTouched c).chan d = s.chan d := chan_congr (imageTouched_chans s c) d
theorem afterWalk_chan (c d : Chan) : (s.afterWalk c).chan d = s.chan d := chan_congr (afterWalk_chans s c) d

/-- The past events beyond four leave the list for the free list's tail (R24). -/
theorem trim_chan (c : Chan) : (s.trim c).chan c = { s.chan c with list := (trimList (s.chan c).list).2 } := by
  unfold trim
  dsimp only
  split
  next none => rw [trimList_of_nil (List.isEmpty_iff.mp none)]
  next some => rw [imageTouched_chan]; exact modChan_chan s c _

theorem trim_chan_other {c d : Chan} (h : d ≠ c) : (s.trim c).chan d = s.chan d := by
  unfold trim
  dsimp only
  split
  next => rfl
  next => rw [imageTouched_chan]; exact modChan_chan_other s c d _ h.symm

theorem trim_free (c : Chan) : (s.trim c).free = s.free ++ (trimList (s.chan c).list).1.map Rec.idx := by
  unfold trim
  dsimp only
  split
  next none => simp [List.isEmpty_iff.mp none]
  next some => rw [imageTouched_free]; rfl

theorem markPast_chan (c : Chan) : (s.markPast c).chan c =
    { s.chan c with list := markPastList s.rate s.now (s.chan c).anchor (s.chan c).list } := modChan_chan s c _

theorem walkOwn_of_unwatched {c : Chan} (h : (s.chan c).watched = false) : s.walkOwn c = s := by simp [walkOwn, h]

/-- The list that a walk of a channel leaves before it is trimmed: walked and marked past (R23, R26 to R31). -/
def walked (s : State) (c : Chan) : List Rec :=
  markPastList s.rate s.now (s.chan c).anchor
    (walkList s.rate s.now (s.leaderStart c) (s.chan c).anchor (s.chan c).list)

/-- The state before the trimming of a channel's walk. -/
def walkedState (s : State) (c : Chan) : State :=
  (s.modChan c fun ch => { ch with list := walkList s.rate s.now (s.leaderStart c) ch.anchor ch.list }).markPast c

theorem walkOwn_of_watched {c : Chan} (h : (s.chan c).watched = true) :
    s.walkOwn c = ((s.walkedState c).trim c).afterWalk c := by simp only [walkOwn, h, if_true]; rfl

theorem walkedState_chan (c : Chan) : (s.walkedState c).chan c = { s.chan c with list := s.walked c } := by
  rw [walkedState, markPast_chan, modChan_chan]
  rfl

theorem walkedState_chan_other {c d : Chan} (h : d ≠ c) : (s.walkedState c).chan d = s.chan d :=
  (modChan_chan_other _ c d _ h.symm).trans (modChan_chan_other s c d _ h.symm)

theorem walkOwn_chan {c : Chan} (h : (s.chan c).watched = true) :
    (s.walkOwn c).chan c = { s.chan c with list := (trimList (s.walked c)).2 } := by
  rw [walkOwn_of_watched s h, afterWalk_chan, trim_chan, walkedState_chan]

theorem walkOwn_free {c : Chan} (h : (s.chan c).watched = true) :
    (s.walkOwn c).free = s.free ++ (trimList (s.walked c)).1.map Rec.idx := by
  rw [walkOwn_of_watched s h, afterWalk_free, trim_free, walkedState_chan]
  rfl

theorem walkOwn_chan_other {c d : Chan} (h : d ≠ c) : (s.walkOwn c).chan d = s.chan d := by
  cases watched : (s.chan c).watched with
  | false => rw [walkOwn_of_unwatched s watched]
  | true => rw [walkOwn_of_watched s watched, afterWalk_chan, trim_chan_other _ h, walkedState_chan_other s h]

/-- A walk only adds to the free list's tail. -/
theorem walkOwn_free_prefix (c : Chan) : s.free <+: (s.walkOwn c).free := by
  cases watched : (s.chan c).watched with
  | false => rw [walkOwn_of_unwatched s watched]
  | true => exact ⟨_, (walkOwn_free s watched).symm⟩

theorem mem_followersOf {c f : Chan} : f ∈ s.followersOf c ↔ s.leaderOf f = some c := by simp [followersOf]

theorem ne_of_mem_followersOf {c f : Chan} (h : f ∈ s.followersOf c) : c ≠ f :=
  ((s.leaderOf_eq_some f c).mp (s.mem_followersOf.mp h)).2.1

/-- The walks of other channels leave a channel's record. -/
theorem foldl_walkOwn_chan {c : Chan} {fs : List Chan} (others : ∀ f ∈ fs, c ≠ f) (t : State) :
    (fs.foldl (fun t f => t.walkOwn f) t).chan c = t.chan c := by
  induction fs generalizing t with
  | nil => rfl
  | cons f fs ih =>
    obtain ⟨other, others⟩ := List.forall_mem_cons.mp others
    rw [List.foldl_cons, ih others, walkOwn_chan_other t other]

theorem foldl_walkOwn_free_prefix (fs : List Chan) (t : State) :
    t.free <+: (fs.foldl (fun t f => t.walkOwn f) t).free := by
  induction fs generalizing t with
  | nil => exact List.prefix_rfl
  | cons f fs ih => exact (walkOwn_free_prefix t f).trans (ih _)

/-! ### The store's work at a frame event (R23 to R25) -/

theorem airRunOut_iff (c : Chan) : s.airRunOut c = true ↔ ∃ a e p, (s.chan c).anchor = some a ∧ a.source = .air ∧
    findEvent a.event (s.chan c).list = some e ∧ e.derived.stop = some p ∧ s.reached p = true := by
  unfold airRunOut ChannelRec.airEvent
  cases (s.chan c).anchor with
  | none => simp
  | some a =>
    cases source : a.source with
    | beat => simp [source]
    | air =>
      cases found : findEvent a.event (s.chan c).list with
      | none => simp [source, found]
      | some e => cases stop : e.derived.stop <;> simp [source, found, stop]

theorem frameStore_marked {c : Chan} (watched : (s.chan c).watched = true) (on : s.airRunOut c = false) :
    let marked := markPastList s.rate s.now (s.chan c).anchor (s.chan c).list
    ((s.frameStore c).chan c).list = (trimList marked).2 ∧
      s.free ++ (trimList marked).1.map Rec.idx <+: (s.frameStore c).free := by
  intro marked
  have list : (((s.markPast c).trim c).chan c).list = (trimList marked).2 := by rw [trim_chan, markPast_chan]
  have free : ((s.markPast c).trim c).free = s.free ++ (trimList marked).1.map Rec.idx := by
    rw [trim_free, markPast_chan]; rfl
  simp only [frameStore, watched, on, if_true, Bool.false_eq_true, if_false]
  split
  · rw [foldl_walkOwn_chan fun _ h => ne_of_mem_followersOf _ h, ← free]
    exact ⟨list, foldl_walkOwn_free_prefix _ _⟩
  · exact ⟨list, free ▸ List.prefix_rfl⟩

/-! ### An edit applied or refused (R39, R44 to R48) -/

/-- The channel's list after an edit, the record it adds taken off the free list (R20, R45, R46). -/
def editedList (c : Chan) (e : EditOp) : State :=
  let t := s.modChan c fun ch => { ch with list := e.onList s.rate (s.free.headD 0) ch.list }
  if e.adds then { t with free := t.free.drop 1 } else t

/-- The state an edit leaves before the walk: its list, the record it deletes freed, a lost anchor dropped, an image of
the channel begun again (R20, R35, R59). -/
def edited (c : Chan) (e : EditOp) : State :=
  (((s.editedList c e).freeRecs (e.removes (s.chan c).list)).dropLostAnchor c).imageTouched c

theorem applyEdit_eq (c : Chan) {e : EditOp} (h : ∀ p, e ≠ .setProfile p) :
    s.applyEdit c e = (s.edited c e).walk c := by
  cases e with
  | setProfile p => exact absurd rfl (h p)
  | insertAfter _ _ | delete _ | replace _ _ | retimeStart _ _ | retimeDuration _ _ | setEnd _ _ => rfl

/-- An edit of the expected sequence whose operands are read and that passes its checks is applied (R39). -/
theorem takeDue_applied {c : Chan} {op : Byte} {operands rest : List Byte} {e : EditOp}
    (read : readEdit op operands = some (e, rest)) (passed : s.contentCheck c e = none) :
    s.takeDue c op operands = (s.applyEdit c e).advanceSeq c := by simp [takeDue, read, passed]

/-- One that is not read, or that fails a check, is refused and leaves the replica STALE (R39, R44). -/
theorem takeDue_refused {c : Chan} {op : Byte} {operands : List Byte} {code : ResultCode}
    (refused : readEdit op operands = none ∧ code = .badCommand ∨
      ∃ e rest, readEdit op operands = some (e, rest) ∧ s.contentCheck c e = some code) :
    s.takeDue c op operands = (s.makeStale c (refusalCause code)).advanceSeq c := by
  obtain ⟨read, rfl⟩ | ⟨e, rest, read, failed⟩ := refused
  · simp [takeDue, read]
  · simp [takeDue, read, failed]

theorem takeDue_cases (c : Chan) (op : Byte) (operands : List Byte) :
    (∃ e, s.contentCheck c e = none ∧ s.takeDue c op operands = (s.applyEdit c e).advanceSeq c) ∨
      ∃ code, s.takeDue c op operands = (s.makeStale c (refusalCause code)).advanceSeq c := by
  cases read : readEdit op operands with
  | none => exact .inr ⟨_, s.takeDue_refused (.inl ⟨read, rfl⟩)⟩
  | some x =>
    obtain ⟨e, rest⟩ := x
    cases check : s.contentCheck c e with
    | none => exact .inl ⟨e, check, s.takeDue_applied read check⟩
    | some code => exact .inr ⟨code, s.takeDue_refused (.inr ⟨e, rest, read, check⟩)⟩

theorem freeShadow_shadow (c : Chan) : ((s.freeShadow c).chan c).shadow = none := by
  unfold freeShadow
  split
  · exact congrArg ChannelRec.shadow (modChan_chan s c _)
  next closed => exact closed

end Sys2Proof.Machine.State

/-! ### The channel's record through an image request and a STALE replica (R49, R51 to R53, R57) -/

namespace Sys2Proof.Machine.State

variable (s : State)

@[simp] theorem bare_putAsk (c d : Chan) : (s.putAsk c).bare d = s.bare d := by
  unfold putAsk
  repeat' split
  case isTrue => exact (bare_modRequest _ c d _).trans (bare_congr (enqueue_chans s _) d)
  all_goals rfl
@[simp] theorem asks_putAsk (c d : Chan) : (s.putAsk c).asks d = s.asks d := by
  unfold putAsk
  repeat' split
  case isTrue => exact (asks_modRequest _ c d _).trans (asks_congr (enqueue_chans s _) d)
  all_goals rfl

@[simp] theorem bare_beforeAsk (c d : Chan) : (s.beforeAsk c).bare d = s.bare d := by
  unfold beforeAsk
  split
  · exact (foldl_keeps (fun t => t.bare d) (fun t e => by dsimp only; split <;> simp) _ _).trans
      (bare_congr (beforeVerdict_chans s 4) d)
  · rfl
@[simp] theorem asks_beforeAsk (c d : Chan) : (s.beforeAsk c).asks d = s.asks d := by
  unfold beforeAsk
  split
  · exact (foldl_keeps (fun t => t.asks d) (fun t e => by dsimp only; split <;> simp) _ _).trans
      (asks_congr (beforeVerdict_chans s 4) d)
  · rfl

@[simp] theorem bare_askTarget (c d : Chan) : (s.askTarget c).bare d = s.bare d := by simp [askTarget]
@[simp] theorem asks_askTarget (c d : Chan) : (s.askTarget c).asks d = s.asks d := by simp [askTarget]
@[simp] theorem bare_chooseTarget (c d : Chan) : (s.chooseTarget c).bare d = s.bare d := by
  unfold chooseTarget; repeat' split
  all_goals simp
@[simp] theorem asks_chooseTarget (c d : Chan) : (s.chooseTarget c).asks d = s.asks d := by
  unfold chooseTarget; repeat' split
  all_goals simp
@[simp] theorem bare_newRound (c d : Chan) : (s.newRound c).bare d = s.bare d := by
  simp only [newRound, bare_chooseTarget, bare_modRequest]
  exact bare_congr (takeBack_chans s _ _) d
@[simp] theorem asks_newRound (c d : Chan) : (s.newRound c).asks d = s.asks d := by
  simp only [newRound, asks_chooseTarget, asks_modRequest]
  exact asks_congr (takeBack_chans s _ _) d

@[simp] theorem bare_beginRequest (c d : Chan) : (s.beginRequest c).bare d = s.bare d := by
  unfold beginRequest
  split
  · rw [bare_newRound, bare, modChan_chan_eq]
    split <;> rfl
  · rfl
@[simp] theorem bare_roundAgain (c d : Chan) : (s.roundAgain c).bare d = s.bare d := by
  unfold roundAgain; split <;> simp

/-- A request runs for a watched channel of an active station once it has been begun (R51). -/
theorem asks_beginRequest {c : Chan} (active : s.active = true) (watched : (s.chan c).watched = true) :
    (s.beginRequest c).asks c = true := by
  unfold beginRequest
  split
  · rw [asks_newRound, asks, modChan_chan]; rfl
  next running =>
    simp only [active, watched, Bool.true_and, Bool.not_eq_true, Option.isNone_eq_false_iff] at running
    exact running

theorem asks_roundAgain {c : Chan} (active : s.active = true) (watched : (s.chan c).watched = true) :
    (s.roundAgain c).asks c = true := by
  unfold roundAgain
  split
  next running => rw [asks_newRound]; exact running
  next => exact asks_beginRequest s active watched

theorem request_ne_none {c : Chan} (h : s.asks c = true) : (s.chan c).request ≠ none := Option.isSome_iff_ne_none.mp h

theorem freeShadow_chan (c : Chan) : (s.freeShadow c).chan c = { s.chan c with shadow := none } := by
  unfold freeShadow
  split
  next => exact modChan_chan s c _
  next closed => rw [← closed]

/-- A channel that holds no list stays as it is, and any other becomes STALE, its load closed (R49, R57). -/
theorem setStale_empty {c : Chan} (cause : StaleCause) (empty : (s.chan c).replica = .empty) : s.setStale c cause = s :=
  if_pos empty

theorem setStale_chan {c : Chan} (cause : StaleCause) (held : (s.chan c).replica ≠ .empty) :
    (s.setStale c cause).chan c = { s.chan c with replica := .stale, cause := some cause, shadow := none } := by
  simp only [setStale, if_neg held, modChan_chan, freeShadow_chan]
  split
  · rw [chan_congr (dropService_chans s c)]
  · rfl

theorem active_of_base {s t : State} (h : t.base = s.base) : t.active = s.active := by
  rw [active, base_loader h, active]

@[simp] theorem setStale_active (c : Chan) (cause : StaleCause) : (s.setStale c cause).active = s.active :=
  active_of_base (base_setStale s c cause)

@[simp] theorem setStale_watched (c : Chan) (cause : StaleCause) :
    ((s.setStale c cause).chan c).watched = (s.chan c).watched := by
  by_cases empty : (s.chan c).replica = .empty
  · rw [setStale_empty s cause empty]
  · rw [setStale_chan s cause empty]

/-! ### An edit of a higher epoch (R37, R40, R49, R57) -/

@[simp] theorem bare_makeStale (c d : Chan) (cause : StaleCause) :
    (s.makeStale c cause).bare d = (s.setStale c cause).bare d := bare_beginRequest _ c d

theorem bare_editAbove (c d : Chan) : (s.editAbove c).bare d = (s.setStale c .epoch).bare d := by
  unfold editAbove
  split
  · exact bare_roundAgain _ c d
  · exact bare_makeStale s c d _

theorem editAbove_chan (c : Chan) : (s.editAbove c).chan c = { s.chan c with
    replica := if (s.chan c).replica = .empty then .empty else .stale
    cause := if (s.chan c).replica = .empty then (s.chan c).cause else some .epoch
    shadow := if (s.chan c).replica = .empty then (s.chan c).shadow else none
    request := ((s.editAbove c).chan c).request } := by
  refine (chan_of_bare (bare_editAbove s c c)).trans ?_
  by_cases empty : (s.chan c).replica = .empty
  · rw [setStale_empty s _ empty, if_pos empty, if_pos empty, if_pos empty, ← empty]
  · simp only [setStale_chan s _ empty, if_neg empty]

theorem asks_editAbove {c : Chan} (active : s.active = true) (watched : (s.chan c).watched = true) :
    (s.editAbove c).asks c = true := by
  have active' : (s.setStale c .epoch).active = true := (setStale_active s c _).trans active
  have watched' : ((s.setStale c .epoch).chan c).watched = true := (setStale_watched s c _).trans watched
  unfold editAbove
  split
  · exact asks_roundAgain _ active' watched'
  · exact asks_beginRequest _ active' watched'

theorem stock_editAbove (c : Chan) : (s.editAbove c).stock = (s.setStale c .epoch).stock := by
  unfold editAbove
  split
  · exact stock_roundAgain _ c
  · exact stock_beginRequest _ c

theorem editAbove_free {c : Chan} (held : (s.chan c).replica ≠ .empty) (sh : Shadow)
    (loading : (s.chan c).shadow = some sh) : (s.editAbove c).free = s.free ++ (shadowRecs sh).map Rec.idx := by
  rw [free_of_stock (stock_editAbove s c), setStale_free s c _ held, loading]
  rfl

@[simp] theorem parkedEdits_editAbove (c : Chan) : (s.editAbove c).parkedEdits = s.parkedEdits :=
  (parkedEdits_of_stock (stock_editAbove s c)).trans (parkedEdits_setStale s c _)

/-! ### The next expected sequence (R39) -/

theorem advanceSeq_below {c : Chan} (h : (s.chan c).nextSeq < 4294967295) :
    s.advanceSeq c = s.modChan c fun ch => { ch with nextSeq := (s.chan c).nextSeq + 1 } := by
  rw [advanceSeq, if_pos (show (s.chan c).nextSeq < max32 from h)]
  rfl

theorem advanceSeq_top {c : Chan} (h : 4294967295 ≤ (s.chan c).nextSeq) : s.advanceSeq c = s.makeStale c .overflow := by
  rw [advanceSeq, if_neg (show ¬(s.chan c).nextSeq < max32 from Nat.not_lt.mpr h)]

/-- A channel made STALE keeps its list, its epoch and its expected sequence (R49). -/
theorem makeStale_kept (c : Chan) (cause : StaleCause) :
    ((s.makeStale c cause).chan c).nextSeq = (s.chan c).nextSeq ∧
      ((s.makeStale c cause).chan c).epoch = (s.chan c).epoch ∧
      ((s.makeStale c cause).chan c).list = (s.chan c).list := by
  rw [chan_of_bare (bare_makeStale s c c cause)]
  by_cases empty : (s.chan c).replica = .empty
  · rw [setStale_empty s cause empty]; exact ⟨rfl, rfl, rfl⟩
  · rw [setStale_chan s cause empty]; exact ⟨rfl, rfl, rfl⟩

theorem makeStale_stale {c : Chan} (cause : StaleCause) (held : (s.chan c).replica ≠ .empty) :
    ((s.makeStale c cause).chan c).replica = .stale ∧ ((s.makeStale c cause).chan c).cause = some cause := by
  rw [chan_of_bare (bare_makeStale s c c cause), setStale_chan s cause held]
  exact ⟨rfl, rfl⟩

theorem asks_makeStale {c : Chan} (cause : StaleCause) (active : s.active = true)
    (watched : (s.chan c).watched = true) : (s.makeStale c cause).asks c = true :=
  asks_beginRequest _ ((setStale_active s c _).trans active) ((setStale_watched s c _).trans watched)

end Sys2Proof.Machine.State

/-! ## The timing walk settles its obligation -/

namespace Sys2Proof.Machine.State

variable (s : State)

/-- An event that carries a lock key and is not eclipsed (R26). -/
def bearsKey (key : Nat) (e : Rec) : Prop := e.stated.lockKey = some key ∧ e.derived.eclipsed = false

theorem leaderStart_absent {c l : Chan} {key : Nat} (led : s.leaderOf c = some l)
    (absent : ∀ e ∈ (s.chan l).list, ¬bearsKey key e) : s.leaderStart c key = none := by
  rw [leaderStart_of_leaderOf s led, List.find?_eq_none.mpr fun e mem => ?_]
  · rfl
  · simpa [bearsKey] using absent e mem

theorem leaderStart_first {c l : Chan} {key : Nat} (led : s.leaderOf c = some l) {before after : List Rec} {e : Rec}
    (list : (s.chan l).list = before ++ e :: after) (bears : bearsKey key e) (first : ∀ z ∈ before, ¬bearsKey key z) :
    s.leaderStart c key = e.derived.start := by
  have found : (s.chan l).list.find? (fun e => decide (e.stated.lockKey = some key) && !e.derived.eclipsed) = some e :=
    List.find?_eq_some_iff_append.mpr
      ⟨by simpa [bearsKey] using bears, before, after, list,
        fun z mem => by simpa [bearsKey, imp_iff_not_or] using first z mem⟩
  rw [leaderStart_of_leaderOf s led, found]
  rfl

theorem leaderStart_unled {c : Chan} (h : s.leaderOf c = none) (key : Nat) : s.leaderStart c key = none := by
  rw [leaderStart, h]
  rfl

end Sys2Proof.Machine.State

namespace Sys2Proof.EventRecords

open Sys2Proof.Machine

/-- Settles O16. The parts follow the manual: what a walk keeps; the walk of one event; the walk of a list with and
without an anchor event; the walk of a channel and its leader starts; marking, trimming and the frame event. -/
theorem walksDeriveEachStartAndEnd : Obligations.WalksDeriveEachStartAndEnd := by
  unfold Obligations.WalksDeriveEachStartAndEnd
  refine ⟨walkList_map_fixed, ⟨fun r t e next => ?starts, fun r t e h next hard => ?ends⟩,
    ⟨fun r now lead a l absent => ?unanchored, fun r now lead a l before e after found => ?anchored, fun r p e => ?cap,
      fun r t e h es => ?events, fun es p => firstHard_eq_some, fun r lead near e es => ?hardStart⟩,
    ⟨fun s c => ?ownWalk, fun s c key => ?leader⟩,
    ⟨fun _ _ _ => rfl, fun r now a l before e after found => ?marked, fun l => ?trimmed, fun s c => ?frame⟩⟩
  case starts =>
    refine ⟨fun follow => ?_, fun locked => ?_, fun p => ?_, fun p q at? early => ?_, fun p q at? ahead => ?_,
      ⟨rfl, rfl, rfl, rfl, rfl⟩, fun h kind start => ?_⟩
    · exact (walkOne_start_of r t e .soft next nofun (startOf_follow r t _ follow)).1
    · have unresolved := (walkOne_start_of r t e .soft next nofun (startOf_locked r t _ locked)).1
      exact ⟨unresolved, (walkOne_snd ..).trans (walkOne_unresolved r t e .soft next nofun unresolved).1⟩
    · exact walkOne_start_of r none e (.hard p) next nofun (startOf_hard_none r _ p)
    · subst at?
      exact walkOne_start_of r _ e (.hard p) next nofun (startOf_hard_late r _ p q early)
    · subst at?
      exact walkOne_start_of r _ e (.hard p) next nofun (startOf_hard_ahead r _ p q ahead)
    · obtain rfl | rfl := kind
      · obtain follow | locked := start
        · exact (walkOne_start_of r t e .soft next nofun (startOf_follow r t _ follow)).2
        · exact (walkOne_start_of r t e .soft next nofun (startOf_locked r t _ locked)).2
      · exact ⟨rfl, rfl⟩
  case ends =>
    refine ⟨walkOne_snd .., walkOne_unresolved r t e h next hard, fun p resolved => ?_⟩
    obtain ⟨stop, eclipsed, truncated⟩ := walkOne_stop r t e h next hard resolved
    exact ⟨stop.trans (Pos.earlier?_eq ..), eclipsed, truncated⟩
  case unanchored =>
    obtain ⟨past, first⟩ := firstNotPast_split l
    exact ⟨_, _, List.takeWhile_append_dropWhile.symm, past, first, walkList_unanchored r now lead a l absent⟩
  case anchored =>
    obtain ⟨first, later, starts, eq⟩ := walkList_anchored r now lead a l before after e found
    exact ⟨first, later, _, starts, eq, rfl, rfl, rfl, rfl, rfl, rfl,
      (walkAnchor_stop r (a.from now) a e _).trans (by rw [Pos.earlier?_eq]; rfl), walkAnchor_truncated_iff ..⟩
  case cap =>
    obtain ⟨start, stop, eclipsed⟩ := capAt_derived r p e
    obtain ⟨truncated, late, gap⟩ := capAt_flags r p e
    have kept := capAt_fixed r p e
    exact ⟨congrArg Prod.fst kept, congrArg (fun x => x.2.1) kept, start, stop, congrArg (fun x => x.2.2) kept,
      truncated, late, gap, eclipsed⟩
  case events => exact ⟨walkFrom_open r t e h es, walkFrom_past r t e h es, rfl⟩
  case hardStart =>
    refine ⟨rfl, rfl, fun p fixed => hardOf_fixed r lead near fixed, fun follow => hardOf_follow r lead near follow,
      fun locked free => ?_, fun p locked found => ⟨fun clear => ?_, fun q nearest early => ?_⟩⟩
    · exact (hardOf_locked r lead near _ locked).trans (by rw [free])
    · refine (hardOf_locked r lead near _ locked).trans ?_
      rw [found]
      cases near with
      | none => rfl
      | some q => simp [clear q rfl]
    · refine (hardOf_locked r lead near _ locked).trans ?_
      simp [found, nearest, early]
  case ownWalk =>
    exact ⟨s.walkOwn_of_unwatched, fun watched =>
      ⟨s.walkOwn_chan watched, s.walkOwn_free watched, fun d other => s.walkOwn_chan_other other⟩, rfl,
      s.leaderOf_eq_some c⟩
  case leader =>
    exact ⟨fun unled => s.leaderStart_unled unled key, fun l led =>
      ⟨s.leaderStart_absent led, fun before e after list bears first => s.leaderStart_first led list bears first⟩⟩
  case marked => exact markPastList_found r now a l before after e found
  case trimmed =>
    obtain ⟨taken, past, others⟩ := takePast_spec (pastCount l - 4) l
    exact ⟨taken, takePast_sublist _ l, past, others⟩
  case frame =>
    refine ⟨fun off => by simp [State.frameStore, off], fun watched run => by simp [State.frameStore, watched, run],
      fun watched on => ?_, s.airRunOut_iff c⟩
    obtain ⟨list, more, free⟩ := s.frameStore_marked watched on
    exact ⟨list, more, free.symm⟩

end Sys2Proof.EventRecords

/-! ## The replica timers settle their obligation (R34, R42, R57) -/

namespace Sys2Proof.Machine

theorem vmod_vmod {α : Type} {n : Nat} (v : Vector α n) (i : Fin n) (f g : α → α) :
    vmod (vmod v i f) i g = vmod v i fun x => g (f x) := by
  rw [vmod, vmod_get_same]
  exact Vector.set_set _ _

namespace State

variable (s : State)

/-- Two changes of one channel's record are one. -/
theorem modChan_modChan (c : Chan) (f g : ChannelRec → ChannelRec) :
    (s.modChan c f).modChan c g = s.modChan c fun ch => g (f ch) :=
  congrArg (fun chans => { s with chans := chans }) (vmod_vmod s.chans c f g)

/-! ### The anchor's report age (R34) -/

theorem expireAnchor_old {c : Chan} {a : Anchor} (stands : (s.chan c).anchor = some a) (beat : a.source = .beat)
    (old : (s.cfg.ta : Int) < Pos.diff s.rate a.report s.now) :
    s.expireAnchor c = (s.modChan c fun ch => { ch with anchor := none }).walk c := by
  have due : s.beatAnchorOld c = true := by simp [beatAnchorOld, stands, beat, age, old]
  exact if_pos due

theorem expireAnchor_kept {c : Chan} (kept : ∀ a, (s.chan c).anchor = some a →
    a.source = .air ∨ Pos.diff s.rate a.report s.now ≤ s.cfg.ta) : s.expireAnchor c = s := by
  rw [expireAnchor, if_neg]
  unfold beatAnchorOld
  split
  next a stands =>
    obtain air | young := kept a stands
    · simp [air]
    · simp [age, Int.not_lt.mpr young]
  next => simp

/-! ### The parked edits' age (R42) -/

/-- Whether a parked edit of the channel has reached 50 frames (R42). -/
def parkedOld (s : State) (c : Chan) : Prop := ∃ e ∈ s.repl.parked, e.chan = c ∧ 50 ≤ e.age

theorem parkedTimeout_young {c : Chan} (young : ∀ e ∈ s.repl.parked, e.chan = c → e.age < 50) :
    s.parkedTimeout c = s := by
  rw [parkedTimeout, if_neg]
  simpa using young

theorem parkedTimeout_old {c : Chan} (old : s.parkedOld c) : s.parkedTimeout c =
    match (s.chan c).replica with
    | .current => ((s.setStale c .gap).freeParked c fun _ => true).beginRequest c
    | .loading => s
    | _ => s.freeParked c fun e => 50 ≤ e.age := by
  have due : (s.repl.parked.any fun e => decide (e.chan = c) && decide (50 ≤ e.age)) = true := by
    simpa [parkedOld] using old
  exact if_pos due

/-! ### A load's wait for a segment (R57) -/

theorem abandonLoad_eq {c : Chan} {sh : Shadow} (loading : (s.chan c).shadow = some sh) : s.abandonLoad c =
    ({ s with free := s.free ++ (shadowRecs sh).map Rec.idx } : State).modChan c fun ch =>
      { ch with shadow := none, replica := sh.prior.1, cause := sh.prior.2 } := by
  simp only [abandonLoad, freeShadow, loading]
  exact modChan_modChan { s with free := s.free ++ (shadowRecs sh).map Rec.idx } c
    (fun ch => { ch with shadow := none }) fun ch => { ch with replica := sh.prior.1, cause := sh.prior.2 }

theorem loadTimeout_old {c : Chan} {sh : Shadow} (loading : (s.chan c).shadow = some sh) (old : 100 ≤ sh.age) :
    s.loadTimeout c = (s.abandonLoad c).chooseTarget c := by simp [loadTimeout, loading, old]

theorem loadTimeout_young {c : Chan} (young : ∀ sh, (s.chan c).shadow = some sh → sh.age < 100) :
    s.loadTimeout c = s := by
  unfold loadTimeout
  split
  next sh loading => exact if_neg (Nat.not_le.mpr (young sh loading))
  next => rfl

end State

end Sys2Proof.Machine

namespace Sys2Proof.EventRecords

open Sys2Proof.Machine

/-- Settles O17: at an open frame event each command is its timer's work on the state it finds. -/
theorem replicaTimersExpire : Obligations.ReplicaTimersExpire := by
  unfold Obligations.ReplicaTimersExpire
  refine ⟨⟨fun c s openFrame => ?anchor, fun c s openFrame => ?parked⟩, fun c s openFrame => ?load⟩
  case anchor =>
    have work : exec (.beatAnchorExpiry c) s = .next (s.atStep.expireAnchor c).review :=
      congrArg Host.Outcome.next (s.atFrame_open _ openFrame)
    refine ⟨fun a stands beat old => ?_, fun kept => ?_⟩
    · rw [work, State.expireAnchor_old _ stands beat old]
    · rw [work, State.expireAnchor_kept _ kept]
  case parked =>
    have work : exec (.parkedEditTimeout c) s = .next (s.atStep.parkedTimeout c).review :=
      congrArg Host.Outcome.next (s.atFrame_open _ openFrame)
    refine ⟨fun young => ?_, fun old => ⟨fun current => ?_, fun loading => ?_, fun idle => ?_⟩⟩
    · rw [work, State.parkedTimeout_young _ young]
    · rw [work, State.parkedTimeout_old _ old, current]
    · rw [work, State.parkedTimeout_old _ old, loading]
    · rw [work, State.parkedTimeout_old _ old]
      obtain empty | stale := idle
      · rw [empty]; rfl
      · rw [stale]; rfl
  case load =>
    have work : exec (.imageLoadTimeout c) s = .next (s.atStep.loadTimeout c).review :=
      congrArg Host.Outcome.next (s.atFrame_open _ openFrame)
    refine ⟨fun sh loading old => ?_, fun young => ?_⟩
    · rw [work, State.loadTimeout_old _ loading old, State.abandonLoad_eq _ loading]
    · rw [work, State.loadTimeout_young _ young]

end Sys2Proof.EventRecords

/-! ## Edits in sequence, parked edits and their drain (R37 to R41) -/

namespace Sys2Proof.Machine

theorem chanOf_chanNo (c : Chan) : chanOf (chanNo c) = some c := by
  simp [chanOf, chanNo]

/-! ### The search for a due parked edit (R41) -/

/-- A parked edit of the channel and the epoch whose sequence is due. -/
def Parked.Due (c : Chan) (epoch n : Nat) (e : Parked) : Prop := e.chan = c ∧ e.epoch = epoch ∧ e.seq = n

/-- The search passes a parked edit without freeing it: one of another channel or epoch, or of a sequence to come. -/
def Parked.stays (c : Chan) (epoch n : Nat) (e : Parked) : Bool :=
  !(decide (e.chan = c) && decide (e.epoch = epoch) && decide (e.seq < n))

theorem searchDue_cons_due {c : Chan} {epoch n : Nat} {e : Parked} (due : e.Due c epoch n) (es : List Parked) :
    searchDue c epoch n (e :: es) = (es, some e) := if_pos due

theorem searchDue_cons_other {c : Chan} {epoch n : Nat} {e : Parked} (other : ¬e.Due c epoch n) (es : List Parked) :
    searchDue c epoch n (e :: es) = ([e].filter (Parked.stays c epoch n) ++ (searchDue c epoch n es).1,
      (searchDue c epoch n es).2) := by
  refine (if_neg other).trans ?_
  by_cases passed : e.chan = c ∧ e.epoch = epoch ∧ e.seq < n
  · simp [passed, Parked.stays]
  · have stays : e.stays c epoch n = true := by
      simp only [Parked.stays, Bool.not_eq_true', ← Bool.decide_and, decide_eq_false_iff_not, and_assoc]
      exact passed
    rw [List.filter_cons_of_pos stays]
    exact if_neg passed

/-- The search ends at the first due edit, those before it of a lower sequence freed. -/
theorem searchDue_found {c : Chan} {epoch n : Nat} {e : Parked} (due : e.Due c epoch n) (bs : List Parked) :
    ∀ as : List Parked, (∀ x ∈ as, ¬x.Due c epoch n) →
      searchDue c epoch n (as ++ e :: bs) = (as.filter (Parked.stays c epoch n) ++ bs, some e)
  | [], _ => searchDue_cons_due due bs
  | a :: as, early => by
    obtain ⟨other, early⟩ := List.forall_mem_cons.mp early
    rw [List.cons_append, searchDue_cons_other other, searchDue_found due bs as early, ← List.append_assoc,
      ← List.filter_append, List.singleton_append]

theorem searchDue_none {c : Chan} {epoch n : Nat} : ∀ l : List Parked, (∀ x ∈ l, ¬x.Due c epoch n) →
    searchDue c epoch n l = (l.filter (Parked.stays c epoch n), none)
  | [], _ => rfl
  | a :: as, absent => by
    obtain ⟨other, absent⟩ := List.forall_mem_cons.mp absent
    rw [searchDue_cons_other other, searchDue_none as absent, ← List.filter_append, List.singleton_append]

/-- A list holds a due edit, with none before it, or none at all. -/
theorem due_cases (c : Chan) (epoch n : Nat) (l : List Parked) :
    (∃ as e bs, l = as ++ e :: bs ∧ e.Due c epoch n ∧ ∀ x ∈ as, ¬x.Due c epoch n) ∨ ∀ x ∈ l, ¬x.Due c epoch n := by
  induction l with
  | nil => exact .inr nofun
  | cons a l ih =>
    by_cases due : a.Due c epoch n
    · exact .inl ⟨[], a, l, rfl, due, nofun⟩
    · obtain ⟨as, e, bs, rfl, found, early⟩ | none := ih
      · exact .inl ⟨a :: as, e, bs, rfl, found, List.forall_mem_cons.mpr ⟨due, early⟩⟩
      · exact .inr (List.forall_mem_cons.mpr ⟨due, none⟩)

/-- What stays and is not due lies above the sequence. -/
theorem Parked.lt_of_stays {c : Chan} {epoch n : Nat} {e : Parked} (stays : e.stays c epoch n = true)
    (other : ¬e.Due c epoch n) (chan : e.chan = c) (of : e.epoch = epoch) : n < e.seq := by
  have high : ¬e.seq < n := by simpa [Parked.stays, chan, of] using stays
  have ne : e.seq ≠ n := fun same => other ⟨chan, of, same⟩
  omega

namespace State

variable (s : State)

/-- The state with its parked edits replaced. -/
def withParked (l : List Parked) : State := { s with repl := { s.repl with parked := l } }

theorem drainParked_idle {c : Chan} (idle : (s.chan c).replica ≠ .current) (k : Nat) : drainParked c k s = s := by
  cases k with
  | zero => rfl
  | succ k => exact if_neg idle

theorem drainParked_found {c : Chan} {as bs : List Parked} {e : Parked} (current : (s.chan c).replica = .current)
    (list : s.repl.parked = as ++ e :: bs) (due : e.Due c (s.chan c).epoch (s.chan c).nextSeq)
    (early : ∀ x ∈ as, ¬x.Due c (s.chan c).epoch (s.chan c).nextSeq) (k : Nat) :
    drainParked c (k + 1) s = drainParked c k ((s.withParked
      (as.filter (Parked.stays c (s.chan c).epoch (s.chan c).nextSeq) ++ bs)).takeDue c e.op e.operands) := by
  simp only [drainParked, current, if_true, list, searchDue_found due bs as early]
  rfl

theorem drainParked_none {c : Chan} (current : (s.chan c).replica = .current)
    (none : ∀ x ∈ s.repl.parked, ¬x.Due c (s.chan c).epoch (s.chan c).nextSeq) (k : Nat) :
    drainParked c (k + 1) s =
      s.withParked (s.repl.parked.filter (Parked.stays c (s.chan c).epoch (s.chan c).nextSeq)) := by
  simp only [drainParked, current, if_true, searchDue_none _ none]
  rfl

/-- The parked edits after a drain are of those before, and in a channel still CURRENT they lie above the sequence. -/
def Drained (c : Chan) (s u : State) : Prop :=
  u.repl.parked.Sublist s.repl.parked ∧ ((u.chan c).replica = .current →
    ∀ e ∈ u.repl.parked, e.chan = c → e.epoch = (u.chan c).epoch → (u.chan c).nextSeq < e.seq)

/-- With fuel for every parked edit the drain comes to its end. -/
theorem drainParked_drained (c : Chan) (k : Nat) (fuel : s.repl.parked.length < k) :
    Drained c s (drainParked c k s) := by
  induction k generalizing s with
  | zero => omega
  | succ k ih =>
    by_cases current : (s.chan c).replica = .current
    · obtain ⟨as, e, bs, list, due, early⟩ | none := due_cases c (s.chan c).epoch (s.chan c).nextSeq s.repl.parked
      · rw [drainParked_found s current list due early]
        set left := as.filter (Parked.stays c (s.chan c).epoch (s.chan c).nextSeq) ++ bs
        have parked : ((s.withParked left).takeDue c e.op e.operands).repl.parked = left :=
          parkedEdits_takeDue (s.withParked left) c e.op e.operands
        have short : left.Sublist (as ++ bs) := (List.filter_sublist).append_right bs
        have length : left.length < k := by
          have := short.length_le
          rw [list] at fuel
          simp only [List.length_append, List.length_cons] at fuel this
          omega
        obtain ⟨sub, above⟩ := ih _ (parked ▸ length)
        refine ⟨(parked ▸ sub).trans (short.trans ?_), above⟩
        rw [list]
        exact (List.sublist_cons_self e bs).append_left as
      · rw [drainParked_none s current none]
        refine ⟨List.filter_sublist, fun _ e mem chan epoch => ?_⟩
        obtain ⟨mem, stays⟩ := List.mem_filter.mp mem
        exact Parked.lt_of_stays stays (none e mem) chan epoch
    · rw [drainParked_idle s current]
      exact ⟨List.Sublist.refl _, fun is => absurd is current⟩

/-! ### Parking (R40) -/

theorem park_eq (c : Chan) (src : Addr) (epoch seq : Nat) (op : Byte) (operands : List Byte) :
    s.park c src epoch seq op operands =
      if s.repl.parked.length < 16 then s.withParked (s.repl.parked ++ [⟨c, epoch, seq, src, op, operands, 0⟩])
      else s := by
  simp only [park, parkRoom, decide_eq_true_eq]
  rfl

theorem editNotCurrent_loading {c : Chan} {sh : Shadow} (replica : (s.chan c).replica = .loading)
    (loading : (s.chan c).shadow = some sh) (src : Addr) (epoch seq : Nat) (op : Byte) (operands : List Byte) :
    s.editNotCurrent c src epoch seq op operands =
      if epoch < sh.epoch then s
      else if epoch = sh.epoch then (if sh.base ≤ seq then s.park c src epoch seq op operands else s)
      else (s.editAbove c).park c src epoch seq op operands := by simp only [editNotCurrent, replica, loading]

theorem editNotCurrent_idle {c : Chan} (idle : (s.chan c).replica = .empty ∨ (s.chan c).replica = .stale)
    (src : Addr) (epoch seq : Nat) (op : Byte) (operands : List Byte) : s.editNotCurrent c src epoch seq op operands =
      if (s.chan c).epoch < epoch then (s.editAbove c).park c src epoch seq op operands
      else if epoch = (s.chan c).epoch ∧ (s.chan c).nextSeq ≤ seq then s.park c src epoch seq op operands
      else s := by
  obtain empty | stale := idle
  · simp only [editNotCurrent, empty]
  · simp only [editNotCurrent, stale]

/-! ### The edit of a CURRENT replica (R39) -/

section
variable {c : Chan} {seq : Nat} (src : Addr) (epoch : Nat) (op : Byte) (operands : List Byte)

theorem editCurrent_duplicate (h : seq < (s.chan c).nextSeq) : s.editCurrent c src epoch seq op operands = s := if_pos h

theorem editCurrent_due (h : seq = (s.chan c).nextSeq) :
    s.editCurrent c src epoch seq op operands = (s.takeDue c op operands).drain c := by simp [editCurrent, h]

theorem editCurrent_ahead (above : (s.chan c).nextSeq < seq) (near : seq ≤ (s.chan c).nextSeq + 31)
    (room : s.repl.parked.length < 16) : s.editCurrent c src epoch seq op operands =
      s.withParked (s.repl.parked ++ [⟨c, epoch, seq, src, op, operands, 0⟩]) := by
  simp only [editCurrent, parkRoom, if_neg above.not_gt, if_neg above.ne', near, room, decide_true, and_self, if_true,
    park_eq]

theorem editCurrent_overflow (h : (s.chan c).nextSeq + 31 < seq ∨
    ((s.chan c).nextSeq < seq ∧ 16 ≤ s.repl.parked.length)) : s.editCurrent c src epoch seq op operands =
      ((s.setStale c .overflow).freeParked c fun _ => true).beginRequest c := by
  have above : (s.chan c).nextSeq < seq := by omega
  have closed : ¬(seq ≤ (s.chan c).nextSeq + 31 ∧ s.parkRoom = true) := by
    simp only [parkRoom, decide_eq_true_eq]; omega
  simp only [editCurrent, if_neg above.not_gt, if_neg above.ne', if_neg closed]

end

/-! ### The edit judged (R37, R38) -/

section
variable {c : Chan} {src : Addr} {epoch : Nat} (seq : Nat) (op : Byte) (operands : List Byte)

theorem holdsAuthority_main (main : (s.chan c).authority = .main) :
    s.holdsAuthority c src = (decide (17 ≤ src) && decide (src ≤ 20)) := by simp only [holdsAuthority, main]

theorem holdsAuthority_site (site : (s.chan c).authority = .site) :
    s.holdsAuthority c src = decide ((s.view c).holder = some src) := by simp only [holdsAuthority, site]

theorem editArrives_unwatched (off : (s.chan c).watched = false) : s.editArrives c src epoch seq op operands = s := by
  simp [editArrives, off]

/-- A relay without authority at most sets the withheld flag. -/
theorem editArrives_relay (watched : (s.chan c).watched = true) (site : (s.chan c).authority = .site) (relay : 17 ≤ src)
    (without : s.holdsAuthority c src = false) : s.editArrives c src epoch seq op operands = s.setWithheld c := by
  simp [editArrives, watched, site, relay, without]

/-- A standby station without authority, not named holder, makes the replica STALE above the channel's epoch. -/
theorem editArrives_station (watched : (s.chan c).watched = true) (station : src ≤ 16)
    (without : s.holdsAuthority c src = false) : s.editArrives c src epoch seq op operands =
      if (s.view c).holder ≠ some src ∧ (s.chan c).epoch < epoch then s.editAbove c else s := by
  have peer : ¬17 ≤ src := fun relay => absurd (relay.trans station) (by decide)
  simp [editArrives, watched, peer, without]

theorem editArrives_below (watched : (s.chan c).watched = true) (holds : s.holdsAuthority c src = true)
    (below : epoch < (s.chan c).epoch) : s.editArrives c src epoch seq op operands =
      if 17 ≤ src then s.setWithheld c else s := by simp [editArrives, watched, holds, below]

theorem editArrives_above (watched : (s.chan c).watched = true) (holds : s.holdsAuthority c src = true)
    (above : (s.chan c).epoch < epoch) (current : (s.chan c).replica = .current) :
    s.editArrives c src epoch seq op operands = (s.makeStale c .epoch).editNotCurrent c src epoch seq op operands := by
  simp [editArrives, watched, holds, above, above.not_gt, current]

theorem editArrives_idle (watched : (s.chan c).watched = true) (holds : s.holdsAuthority c src = true)
    (reached : (s.chan c).epoch ≤ epoch) (idle : (s.chan c).replica ≠ .current) :
    s.editArrives c src epoch seq op operands = s.editNotCurrent c src epoch seq op operands := by
  simp [editArrives, watched, holds, reached.not_gt, idle]

theorem editArrives_current (watched : (s.chan c).watched = true) (holds : s.holdsAuthority c src = true)
    (current : (s.chan c).replica = .current) : s.editArrives c src (s.chan c).epoch seq op operands =
      s.editCurrent c src (s.chan c).epoch seq op operands := by simp [editArrives, watched, holds, current]

end

/-- An EDIT delivered to a station is judged by its replication unit. -/
theorem exec_editReceived {rx : Reception} {src dst : Addr} {c : Chan} {epoch seq : Nat} {op : Byte}
    {operands : List Byte}
    (delivered : s.found.receive rx = .deliver src dst (.edit (chanNo c) epoch seq op operands)) :
    exec (.editReceived rx) s = .next ((s.found.hear src).editArrives c src epoch seq op operands).review := by
  refine congrArg Host.Outcome.next ((arrival_taken s rx _ src dst _ _ delivered rfl).trans ?_)
  simp only [chanOf_chanNo]
  rfl

end State

end Sys2Proof.Machine

/-! ## Edits taken in sequence settle their obligation -/

namespace Sys2Proof.EventRecords

open Sys2Proof.Machine

/-- Settles O18: the edit as it is judged; a higher epoch; the rows of a replica that is not CURRENT and of a CURRENT
one; the drain, by induction on its fuel, which one more than the parked edits cannot outlast; the sequence. -/
theorem editsAreTakenInSequence : Obligations.EditsAreTakenInSequence := by
  unfold Obligations.EditsAreTakenInSequence
  refine ⟨?judged, fun s c => ?above, fun s c src epoch seq op operands => ?notCurrent, ?current,
    fun s c => ?drain, fun s c => ?sequence⟩
  case judged =>
    intro rx s src dst c epoch seq op operands t delivered
    have exec := s.exec_editReceived delivered
    refine ⟨fun off => ?_, fun watched site relay other => ?_, fun watched station out => ?_,
      fun watched station main holder => ?_, fun watched main relay bound below => ?_,
      fun watched site holder station below => ?_, fun watched holds =>
        ⟨fun above current => ?_, fun reached idle => ?_⟩⟩
    · rw [exec, State.editArrives_unwatched _ _ _ _ off]
    · rw [exec, State.editArrives_relay _ _ _ _ watched site relay (by simp [t.holdsAuthority_site site, other])]
      rfl
    · have peer : ¬17 ≤ src := fun relay => absurd (relay.trans station) (by decide)
      have without : t.holdsAuthority c src = false := by
        cases authority : (t.chan c).authority with
        | main => simp [t.holdsAuthority_main authority, peer]
        | site => simpa [t.holdsAuthority_site authority, authority] using out
      have judged := State.editArrives_station t seq op operands (epoch := epoch) watched station without
      refine ⟨fun low => ?_, fun high other => ?_⟩
      · rw [exec, judged, if_neg fun h => h.2.not_ge low]
      · rw [exec, judged, if_pos ⟨other, high⟩]
    · have peer : ¬17 ≤ src := fun relay => absurd (relay.trans station) (by decide)
      have without : t.holdsAuthority c src = false := by simp [t.holdsAuthority_main main, peer]
      rw [exec, State.editArrives_station t seq op operands watched station without, if_neg fun h => h.1 holder]
    · have holds : t.holdsAuthority c src = true := by simp [t.holdsAuthority_main main, relay, bound]
      rw [exec, State.editArrives_below t seq op operands watched holds below, if_pos relay]
      rfl
    · have peer : ¬17 ≤ src := fun relay => absurd (relay.trans station) (by decide)
      have holds : t.holdsAuthority c src = true := by simp [t.holdsAuthority_site site, holder]
      rw [exec, State.editArrives_below t seq op operands watched holds below, if_neg peer]
    · rw [exec, State.editArrives_above t seq op operands watched holds above current]
    · rw [exec, State.editArrives_idle t seq op operands watched holds reached idle]
  case above =>
    exact ⟨s.editAbove_chan c, fun active watched => State.request_ne_none _ (s.asks_editAbove active watched),
      fun sh held loading => s.editAbove_free held sh loading, s.parkedEdits_editAbove c⟩
  case notCurrent =>
    refine ⟨fun idle => ?_, fun sh replica loading => ?_⟩
    · have taken := s.editNotCurrent_idle idle src epoch seq op operands
      refine ⟨fun above => ?_, fun same reached => ?_, fun same passed => ?_⟩
      · exact (taken.trans (if_pos above)).trans (State.park_eq ..)
      · rw [if_neg same.not_gt, if_pos ⟨same, reached⟩] at taken
        exact taken.trans (State.park_eq ..)
      · rw [if_neg same.not_gt, if_neg fun h => h.2.not_gt passed] at taken
        exact taken
    · have taken := s.editNotCurrent_loading replica loading src epoch seq op operands
      refine ⟨fun below => taken.trans (if_pos below), fun same reached => ?_, fun same passed => ?_, fun above => ?_⟩
      · rw [if_neg same.not_lt, if_pos same, if_pos reached] at taken
        exact taken.trans (State.park_eq ..)
      · rw [if_neg same.not_lt, if_pos same, if_neg passed.not_ge] at taken
        exact taken
      · rw [if_neg above.not_gt, if_neg above.ne'] at taken
        exact taken.trans (State.park_eq ..)
  case current =>
    intro rx s src dst c seq op operands t delivered watched holds current n
    have exec : exec (.editReceived rx) s = .next (t.editCurrent c src (t.chan c).epoch seq op operands).review := by
      rw [s.exec_editReceived delivered, State.editArrives_current t seq op operands watched holds current]
    refine ⟨fun duplicate => ?_, fun e rest due read passed => ?_, fun code due refused => ?_,
      fun above near room => ?_, fun beyond => ?_⟩
    · rw [exec, State.editCurrent_duplicate t src _ op operands duplicate]
    · rw [exec, State.editCurrent_due t src _ op operands due, State.takeDue_applied t read passed]
    · rw [exec, State.editCurrent_due t src _ op operands due, State.takeDue_refused t refused]
      rfl
    · rw [exec, State.editCurrent_ahead t src _ op operands above near room]
      rfl
    · rw [exec, State.editCurrent_overflow t src _ op operands beyond]
  case drain =>
    exact ⟨fun idle => s.drainParked_idle idle 17, fun few => s.drainParked_drained c 17 (Nat.lt_succ_of_le few),
      fun k as e bs current list due early => s.drainParked_found current list due early k⟩
  case sequence =>
    refine ⟨s.advanceSeq_below, fun top => ?_⟩
    obtain ⟨seq, epoch, list⟩ := s.makeStale_kept c .overflow
    rw [s.advanceSeq_top top]
    exact ⟨seq, epoch, list, s.makeStale_stale .overflow,
      fun active watched => State.request_ne_none _ (s.asks_makeStale .overflow active watched)⟩

end Sys2Proof.EventRecords

/-! ## Edits that pass their checks, and profiles (R18, R22, R43, R45 to R47) -/

namespace Sys2Proof.Machine

/-! ### A checked edit keeps the list sound (R22, R43) -/

section
variable {rate : Rate} {poolFull : Bool} {l : List Rec} {e : EditOp}

/-- The stated fields of the list after an edit do not hang on the pool index of a record it adds. -/
theorem onList_map_stated (rate : Rate) (i j : Nat) (e : EditOp) (l : List Rec) :
    (e.onList rate i l).map Rec.stated = (e.onList rate j l).map Rec.stated := by
  cases e with
  | insertAfter a r =>
    cases a with
    | none => rfl
    | some id =>
      cases found : splitAt id l with
      | none => simp [EditOp.onList, insertRec, found]
      | some x => simp [EditOp.onList, insertRec, found]
  | delete _ | replace _ _ | retimeStart _ _ | retimeDuration _ _ | setEnd _ _ | setProfile _ => rfl

theorem onList_delete_sublist (rate : Rate) (idx id : Nat) (l : List Rec) :
    (EditOp.onList rate idx (.delete id) l).Sublist l := by
  cases found : splitAt id l with
  | none => rw [onList_delete_absent rate idx found]
  | some x =>
    obtain ⟨before, x, after⟩ := x
    rw [onList_delete_found rate idx found, (splitAt_eq_some.mp found).1]
    exact (List.sublist_cons_self x after).append_left before

/-- A checked edit leaves the stated starts in order: by its own check, or as it moves none. -/
theorem EditOp.Passes.inOrder_onList (h : e.Passes rate poolFull l) (ordered : inOrder rate l = true) (idx : Nat) :
    inOrder rate (e.onList rate idx l) = true := by
  cases e with
  | delete id => exact inOrder_sublist rate (onList_delete_sublist rate idx id l) ordered
  | setProfile p => exact ordered
  | setEnd id d =>
    rw [← ordered]
    exact inOrder_congr rate (rewriteRec_map (fun x => x.stated.fixedAt) (fun _ => rfl) id l)
  | insertAfter a r =>
    rw [← h.ordered rfl]
    refine inOrder_congr rate ?_
    simpa [Function.comp_def] using
      congrArg (List.map Stated.fixedAt) (onList_map_stated rate idx 0 (.insertAfter a r) l)
  | replace _ _ | retimeStart _ _ | retimeDuration _ _ => exact h.ordered rfl

theorem EditOp.Passes.insert_perm {a : Option Nat} {r : RawRecord} (h : (EditOp.insertAfter a r).Passes rate poolFull l)
    (idx : Nat) : (EditOp.onList rate idx (.insertAfter a r) l).Perm (⟨idx, r.stated! rate, Derived.fresh⟩ :: l) :=
  insertRec_perm a _ l (splitAt_of_placed h.placed)

/-- An event rewritten keeps ids distinct where its id stays or is new. -/
theorem rewriteRec_nodup {id : Nat} {f : Stated → Stated} (distinct : (l.map fun x => x.stated.id).Nodup)
    (fresh : ∀ x ∈ l, x.stated.id = id → (f x.stated).id = id ∨ ∀ y ∈ l, y.stated.id ≠ (f x.stated).id) :
    ((rewriteRec id f l).map fun x => x.stated.id).Nodup := by
  cases found : splitAt id l with
  | none => rwa [rewriteRec_absent f found]
  | some x =>
    obtain ⟨before, x, after⟩ := x
    obtain ⟨rfl, named, -⟩ := splitAt_eq_some.mp found
    rw [rewriteRec_found f found]
    simp only [List.map_append, List.map_cons, List.nodup_middle, List.nodup_cons] at distinct ⊢
    refine ⟨?_, distinct.2⟩
    obtain same | new := fresh x (by simp) named
    · rw [same, ← named]
      exact distinct.1
    · simp only [← List.map_append, List.mem_map, not_exists, not_and]
      intro y mem
      exact new y (by simp only [List.mem_append, List.mem_cons] at mem ⊢; tauto)

theorem EditOp.Passes.nodup_onList (h : e.Passes rate poolFull l) (distinct : (l.map fun x => x.stated.id).Nodup)
    (idx : Nat) : ((e.onList rate idx l).map fun x => x.stated.id).Nodup := by
  cases e with
  | delete id => exact distinct.sublist ((onList_delete_sublist rate idx id l).map _)
  | setProfile p => exact distinct
  | insertAfter a r =>
    rw [((h.insert_perm idx).map fun x => x.stated.id).nodup_iff, List.map_cons, List.nodup_cons]
    have fresh := h.fresh
    simp only [EditOp.repeats, List.any_eq_false, decide_eq_true_eq] at fresh
    exact ⟨by simpa [RawRecord.stated!] using fresh, distinct⟩
  | replace id r =>
    refine rewriteRec_nodup distinct fun x _ _ => ?_
    have fresh := h.fresh
    simp only [EditOp.repeats, Bool.and_eq_false_iff, decide_eq_false_iff_not, not_not, List.any_eq_false,
      decide_eq_true_eq] at fresh
    exact fresh
  | retimeStart _ _ | retimeDuration _ _ | setEnd _ _ => exact rewriteRec_nodup distinct fun _ _ named => .inl named

/-- Every event but the edit's target keeps its record. -/
theorem EditOp.Passes.mem_onList (h : e.Passes rate poolFull l) (idx : Nat) {x : Rec} (mem : x ∈ l)
    (other : some x.stated.id ≠ e.target) : x ∈ e.onList rate idx l := by
  cases e with
  | insertAfter a r => exact (h.insert_perm idx).mem_iff.mpr (List.mem_cons_of_mem _ mem)
  | setProfile p => exact mem
  | delete id =>
    cases found : splitAt id l with
    | none => rwa [onList_delete_absent rate idx found]
    | some y =>
      obtain ⟨before, y, after⟩ := y
      obtain ⟨rfl, named, -⟩ := splitAt_eq_some.mp found
      rw [onList_delete_found rate idx found]
      have apart : x ≠ y := fun eq => other (by rw [eq, named]; rfl)
      simpa [apart] using mem
  | replace id _ | retimeStart id _ | retimeDuration id _ | setEnd id _ =>
    exact mem_rewriteRec_of_ne mem fun named => other (by rw [named]; rfl)

theorem EditOp.Passes.insert_length {a : Option Nat} {r : RawRecord}
    (h : (EditOp.insertAfter a r).Passes rate poolFull l) (idx : Nat) :
    (EditOp.onList rate idx (.insertAfter a r) l).length = l.length + 1 := (h.insert_perm idx).length_eq

theorem EditOp.Passes.delete_length {id : Nat} (h : (EditOp.delete id).Passes rate poolFull l) (idx : Nat) :
    (EditOp.onList rate idx (.delete id) l).length + 1 = l.length := by
  have placed := h.placed
  cases found : splitAt id l with
  | none => simp [EditOp.placed, EditOp.target, findEvent_eq_none.mpr found] at placed
  | some x =>
    obtain ⟨before, x, after⟩ := x
    rw [onList_delete_found rate idx found, (splitAt_eq_some.mp found).1]
    simp [Nat.add_assoc]

end

/-! ### What an edit rewrites (R45, R46) -/

section
variable (rate : Rate) (idx d : Nat) {id : Nat} {l before after : List Rec} {x : Rec}

theorem onList_retimeDuration_timed (found : splitAt id l = some (before, x, after)) {old : Nat}
    (timed : x.stated.stop = .timed old) : EditOp.onList rate idx (.retimeDuration id d) l =
      before ++ { x with stated := { x.stated with stop := .timed d } } :: after :=
  (rewriteRec_found _ found).trans (by simp [EditOp.rewrites, timed])

theorem onList_retimeDuration_open (found : splitAt id l = some (before, x, after)) {old : Option Nat}
    (openEnd : x.stated.stop = .openEnd old) : EditOp.onList rate idx (.retimeDuration id d) l =
      before ++ { x with stated := { x.stated with stop := .openEnd (some d) } } :: after :=
  (rewriteRec_found _ found).trans (by simp [EditOp.rewrites, openEnd])

theorem onList_retimeStart (found : splitAt id l = some (before, x, after)) {p : Nat × Label} {q : Pos}
    (at? : statedPos rate p = some q) : EditOp.onList rate idx (.retimeStart id p) l =
      before ++ { x with stated := { x.stated with start := .fixed q } } :: after :=
  (rewriteRec_found _ found).trans (by simp [EditOp.rewrites, at?])

end

/-! ### The content checks in words (R43, R45 to R47) -/

theorem EditOp.repeats_iff (e : EditOp) (l : List Rec) : e.repeats l = true ↔ ∃ x ∈ l,
    (∃ a r, e = .insertAfter a r ∧ x.stated.id = r.id) ∨
      (∃ id r, e = .replace id r ∧ r.id ≠ id ∧ x.stated.id = r.id) := by
  cases e with
  | insertAfter a r => simp [EditOp.repeats]
  | replace id r => simp [EditOp.repeats]; tauto
  | delete _ | retimeStart _ _ | retimeDuration _ _ | setEnd _ _ | setProfile _ => simp [EditOp.repeats]

theorem EditOp.ordersList_iff (e : EditOp) : e.ordersList = true ↔ (∃ a r, e = .insertAfter a r) ∨
    (∃ id r, e = .replace id r) ∨ (∃ id p, e = .retimeStart id p) ∨ ∃ id d, e = .retimeDuration id d := by
  cases e <;> simp [EditOp.ordersList]

theorem EditOp.adds_iff (e : EditOp) : e.adds = true ↔ ∃ a r, e = .insertAfter a r := by
  cases e <;> simp [EditOp.adds]

section
variable {rate : Rate} {now : Pos} {timeSet : Bool} (poolFull : Bool) {l : List Rec} {e : EditOp}

theorem EditOp.check_of_placed_ne (formed : e.formed = true) (timely : e.timely rate = true)
    (near : ¬e.tooFar rate now timeSet = true) {code : ResultCode} (placed : e.placed l = some code) :
    e.check rate now timeSet poolFull l = some code := by
  simp [EditOp.check_eq, formed, timely, near, placed]

theorem EditOp.check_of_placed (formed : e.formed = true) (timely : e.timely rate = true)
    (near : ¬e.tooFar rate now timeSet = true) (placed : e.placed l = none) :
    e.check rate now timeSet poolFull l =
      if e.repeats l = true then some .duplicateId
      else if e.ordersList = true ∧ inOrder rate (e.onList rate 0 l) = false then some .badOrder
      else if e.adds = true ∧ 512 ≤ l.length then some .listFull
      else if e.adds = true ∧ poolFull = true then some .poolFull
      else none := by
  simp only [EditOp.check_eq, formed, timely, near, placed, Option.none_or, if_false, Bool.true_eq_false,
    Bool.false_eq_true]

end

theorem EditOp.placed_absent {e : EditOp} {id : Nat} {l : List Rec} (target : e.target = some id)
    (absent : findEvent id l = none) : e.placed l = some .notFound := by
  cases e with
  | insertAfter _ _ | setProfile _ => cases target
  | delete _ | replace _ _ | retimeStart _ _ | retimeDuration _ _ | setEnd _ _ =>
    cases target
    simp [EditOp.placed, EditOp.target, absent]

theorem Stated.fixedAt_isSome_iff (st : Stated) : st.fixedAt.isSome = true ↔ ∃ q, st.start = .fixed q := by
  unfold Stated.fixedAt
  cases st.start <;> simp

/-- A new start does not suit an event of the list that is not FIXED (R46). -/
theorem EditOp.placed_unsuited {id : Nat} {p : Nat × Label} {l : List Rec} {x : Rec} (found : findEvent id l = some x)
    (unsuited : ∀ q, x.stated.start ≠ .fixed q) : (EditOp.retimeStart id p).placed l = some .badCommand := by
  have free : ¬x.stated.fixedAt.isSome = true := fun fixed =>
    have ⟨q, eq⟩ := x.stated.fixedAt_isSome_iff.mp fixed
    unsuited q eq
  simp only [EditOp.placed, found, if_neg free]

theorem EditOp.placed_suited {e : EditOp} {id : Nat} {l : List Rec} {x : Rec} (target : e.target = some id)
    (found : findEvent id l = some x) (suited : (∃ p, e = .retimeStart id p) → ∃ q, x.stated.start = .fixed q) :
    e.placed l = none := by
  cases e with
  | insertAfter _ _ | setProfile _ => cases target
  | retimeStart _ p =>
    cases target
    have fixed := x.stated.fixedAt_isSome_iff.mpr (suited ⟨p, rfl⟩)
    simp only [EditOp.placed, found, if_pos fixed]
  | delete _ | replace _ _ | retimeDuration _ _ | setEnd _ _ =>
    cases target
    simp [EditOp.placed, EditOp.target, found]

/-! ### A profile as stored (R18, R47) -/

theorem clamp_spec {lo hi : Nat} (bounds : lo ≤ hi) (n : Nat) : (n < lo → clamp lo hi n = lo) ∧
    (hi < n → clamp lo hi n = hi) ∧ (lo ≤ n → n ≤ hi → clamp lo hi n = n) := by
  unfold clamp
  omega

theorem chanOf_eq_some {n : Nat} {c : Chan} : chanOf n = some c ↔ n = c.val + 1 := by
  unfold chanOf
  split
  next range => rw [Option.some_inj, Fin.ext_iff]; show n - 1 = c.val ↔ _; omega
  next range => simp only [reduceCtorEq, false_iff]; omega

theorem mem_distinctPeers {a : Addr} : ∀ {l : List Nat} {acc : List Addr},
    a ∈ distinctPeers l acc ↔ a ∈ acc ∨ (1 ≤ a ∧ a ≤ 16 ∧ a ∈ l)
  | [], acc => by simp [distinctPeers]
  | b :: l, acc => by
    unfold distinctPeers
    split
    next new => rw [mem_distinctPeers]; grind
    next old => rw [mem_distinctPeers]; grind

/-- What is taken of the addresses read so far: those of 1 to 16, in the order in which they come first. -/
structure TakenOf (pre : List Nat) (acc : List Addr) : Prop where
  mem : ∀ a, a ∈ acc ↔ 1 ≤ a ∧ a ≤ 16 ∧ a ∈ pre
  ordered : ∀ l, acc.Pairwise fun a b => (pre ++ l).idxOf a < (pre ++ l).idxOf b

theorem TakenOf.step {pre : List Nat} {acc : List Addr} (h : TakenOf pre acc) (a : Nat) :
    TakenOf (pre ++ [a]) (if 1 ≤ a ∧ a ≤ 16 ∧ a ∉ acc then acc ++ [a] else acc) := by
  split
  next new =>
    obtain ⟨low, high, fresh⟩ := new
    have unread : a ∉ pre := fun mem => fresh ((h.mem a).mpr ⟨low, high, mem⟩)
    refine ⟨fun b => ?_, fun l => ?_⟩
    · simp only [List.mem_append, List.mem_singleton, h.mem b]
      grind
    · rw [List.append_assoc, List.pairwise_append]
      refine ⟨h.ordered _, List.pairwise_singleton .., fun b mem c single => ?_⟩
      obtain rfl := List.mem_singleton.mp single
      have read : b ∈ pre := ((h.mem b).mp mem).2.2
      rw [List.idxOf_append_of_mem read, List.idxOf_append_of_notMem unread]
      exact (List.idxOf_lt_length_iff.mpr read).trans_le (Nat.le_add_right ..)
  next old =>
    refine ⟨fun b => ?_, fun l => ?_⟩
    · have taken : 1 ≤ a → a ≤ 16 → a ∈ acc := by simpa using old
      simp only [List.mem_append, List.mem_singleton, h.mem b]
      have := h.mem a
      grind
    · rw [List.append_assoc]
      exact h.ordered _

theorem TakenOf.distinctPeers : ∀ (l : List Nat) {pre : List Nat} {acc : List Addr}, TakenOf pre acc →
    TakenOf (pre ++ l) (distinctPeers l acc)
  | [], pre, acc, h => by simpa [Machine.distinctPeers] using h
  | a :: l, pre, acc, h => by
    have next := TakenOf.distinctPeers l (h.step a)
    rw [List.append_assoc, List.singleton_append] at next
    unfold Machine.distinctPeers
    split
    next new => rwa [if_pos new] at next
    next old => rwa [if_neg old] at next

theorem takenOf_preference (p : RawProfile) : TakenOf p.preference p.store.preference :=
  TakenOf.distinctPeers p.preference (pre := []) (acc := []) ⟨by simp, fun _ => List.Pairwise.nil⟩

end Sys2Proof.Machine

/-! ## What an applied edit leaves of the state (R18, R20, R21, R35, R47, R48, R98) -/

namespace Sys2Proof.Machine.State

variable (s : State)

/-! ### The walks leave the probes and the profiles -/

@[simp] theorem armIfReady_probes (n : SlotId) : (s.armIfReady n).probes = s.probes := by
  unfold armIfReady; repeat' split
  all_goals rfl
@[simp] theorem rearm_probes (n : SlotId) : (s.rearm n).probes = s.probes := by
  unfold rearm; repeat' split
  all_goals simp
@[simp] theorem refreshEnd_probes (n : SlotId) : (s.refreshEnd n).probes = s.probes := by
  unfold refreshEnd; split <;> rfl
@[simp] theorem refill_probes (n : SlotId) : (s.refill n).probes = s.probes := by
  unfold refill; split <;> rfl
@[simp] theorem loseEvent_probes (n : SlotId) (c : Chan) (id : Nat) : (s.loseEvent n c id).probes = s.probes := by
  unfold loseEvent; dsimp only; split <;> simp
@[simp] theorem afterWalk_probes (c : Chan) : (s.afterWalk c).probes = s.probes := by
  unfold afterWalk; dsimp only; repeat' split
  all_goals simp
@[simp] theorem imageTouched_probes (c : Chan) : (s.imageTouched c).probes = s.probes := by
  unfold imageTouched; repeat' split
  all_goals rfl
@[simp] theorem trim_probes (c : Chan) : (s.trim c).probes = s.probes := by
  unfold trim; dsimp only; split <;> simp [freeRecs]
@[simp] theorem walkOwn_probes (c : Chan) : (s.walkOwn c).probes = s.probes := by
  unfold walkOwn; split <;> simp [markPast]
@[simp] theorem walk_probes (c : Chan) : (s.walk c).probes = s.probes :=
  (foldl_keeps State.probes (fun t f => walkOwn_probes t f) _ _).trans (walkOwn_probes s c)
@[simp] theorem walkRelated_probes (old : State) (c : Chan) : (s.walkRelated old c).probes = s.probes :=
  foldl_keeps State.probes (fun t d => by dsimp only; split <;> simp) _ _

@[simp] theorem walkRelated_told (old : State) (c : Chan) : (s.walkRelated old c).told = s.told :=
  foldl_keeps told (fun t d => by dsimp only; split <;> simp) _ _

/-- A channel's profile. -/
def profileOf (s : State) (d : Chan) : Profile := (s.chan d).profile

@[simp] theorem profileOf_walkOwn (c d : Chan) : (s.walkOwn c).profileOf d = s.profileOf d := by
  by_cases same : d = c
  · subst same
    cases watched : (s.chan d).watched with
    | false => rw [walkOwn_of_unwatched s watched]
    | true => rw [profileOf, walkOwn_chan s watched, profileOf]
  · rw [profileOf, walkOwn_chan_other s same, profileOf]
@[simp] theorem profileOf_walk (c d : Chan) : (s.walk c).profileOf d = s.profileOf d :=
  (foldl_keeps (fun t => t.profileOf d) (fun t f => profileOf_walkOwn t f d) _ _).trans (profileOf_walkOwn s c d)
@[simp] theorem profileOf_walkRelated (old : State) (c d : Chan) : (s.walkRelated old c).profileOf d = s.profileOf d :=
  foldl_keeps (fun t => t.profileOf d) (fun t e => by dsimp only; split <;> simp) _ _

/-! ### A profile stored (R18, R98) -/

theorem applyEdit_setProfile (c : Chan) (p : RawProfile) : s.applyEdit c (.setProfile p) =
    (((s.putProfile c p.store).imageTouched c).walk c).walkRelated s c := rfl

theorem putProfile_chans (c : Chan) (p : Profile) :
    (s.putProfile c p).chans = (s.modChan c fun ch => { ch with profile := p }).chans := by
  unfold putProfile
  split <;> rfl

theorem putProfile_probe (c : Chan) (p : Profile) (k : ProbeId) : (s.putProfile c p).probe k =
    if (s.probe k).chan = some c ∧ p.mask ≠ (s.chan c).profile.mask then
      { s.probe k with reference := none, gridCount := 0, darkRun := 0, flatRun := 0, freezeRun := 0 }
    else s.probe k := by
  unfold putProfile
  by_cases same : p.mask = (s.chan c).profile.mask
  · simp [same]
  · simp only [same, ne_eq, not_false_eq_true, and_true, if_false, maskChanged, probe, Vector.get_eq_getElem,
      Vector.getElem_map, modChan_probes]

theorem probe_congr {s t : State} (h : t.probes = s.probes) (k : ProbeId) : t.probe k = s.probe k := by
  rw [probe, h, probe]

/-! ### An edit of the list (R20, R21, R35, R45, R46) -/

theorem editedList_chans (c : Chan) (e : EditOp) : (s.editedList c e).chans =
    (s.modChan c fun ch => { ch with list := e.onList s.rate (s.free.headD 0) ch.list }).chans := by
  unfold editedList
  dsimp only
  split <;> rfl

theorem editedList_free (c : Chan) (e : EditOp) :
    (s.editedList c e).free = if e.adds = true then s.free.drop 1 else s.free := by
  unfold editedList
  dsimp only
  split <;> rfl

/-- A lost anchor is dropped (R35). -/
def keptAnchor (l : List Rec) (a : Option Anchor) : Option Anchor :=
  a.bind fun a => if (findEvent a.event l).isSome then some a else none

theorem dropLostAnchor_chan (c : Chan) : (s.dropLostAnchor c).chan c =
    { s.chan c with anchor := keptAnchor (s.chan c).list (s.chan c).anchor } := by
  rw [dropLostAnchor, modChan_chan]
  generalize s.chan c = ch
  obtain ⟨_, _, _, _, _, _, _, anchor, list, _, _, _⟩ := ch
  cases anchor with
  | none => rfl
  | some a =>
    dsimp only [keptAnchor, Option.bind_some]
    split <;> rfl

theorem edited_chan (c : Chan) (e : EditOp) : (s.edited c e).chan c = { s.chan c with
    list := e.onList s.rate (s.free.headD 0) (s.chan c).list
    anchor := keptAnchor (e.onList s.rate (s.free.headD 0) (s.chan c).list) (s.chan c).anchor } := by
  have list : ((s.editedList c e).freeRecs (e.removes (s.chan c).list)).chan c =
      { s.chan c with list := e.onList s.rate (s.free.headD 0) (s.chan c).list } :=
    (chan_congr (editedList_chans s c e) c).trans (modChan_chan s c _)
  rw [edited, imageTouched_chan, dropLostAnchor_chan, list]

theorem edited_chan_other {c d : Chan} (h : d ≠ c) (e : EditOp) : (s.edited c e).chan d = s.chan d := by
  rw [edited, imageTouched_chan, dropLostAnchor, modChan_chan_other _ c d _ h.symm]
  exact (chan_congr (editedList_chans s c e) d).trans (modChan_chan_other s c d _ h.symm)

theorem edited_free (c : Chan) (e : EditOp) : (s.edited c e).free =
    (if e.adds = true then s.free.drop 1 else s.free) ++ (e.removes (s.chan c).list).map Rec.idx := by
  rw [edited, imageTouched_free, ← editedList_free s c e]
  rfl

/-- The slots, the views, the probes and the log stand through an edit of a list. -/
theorem edited_kept (c : Chan) (e : EditOp) : (s.edited c e).slots = s.slots ∧ (s.edited c e).views = s.views ∧
    (s.edited c e).probes = s.probes ∧ (s.edited c e).log = s.log := by
  have kept : (s.editedList c e).slots = s.slots ∧ (s.editedList c e).views = s.views ∧
      (s.editedList c e).probes = s.probes ∧ (s.editedList c e).log = s.log := by
    unfold editedList
    dsimp only
    split <;> exact ⟨rfl, rfl, rfl, rfl⟩
  obtain ⟨slots, views, probes, log⟩ := kept
  refine ⟨?_, ?_, ?_, ?_⟩
  · rw [edited, imageTouched_slots]; exact slots
  · rw [edited, imageTouched_views]; exact views
  · rw [edited, imageTouched_probes]; exact probes
  · rw [edited, told_log (imageTouched_told _ c)]; exact log

end Sys2Proof.Machine.State

/-! ## Checked edits settle their obligation -/

namespace Sys2Proof.EventRecords

open Sys2Proof.Machine

/-- Settles O19: the list after a checked edit; what each operation rewrites; the checks in their order; the channel
after an edit is applied; the profile as stored. -/
theorem checkedEditsKeepTheListSound : Obligations.CheckedEditsKeepTheListSound := by
  unfold Obligations.CheckedEditsKeepTheListSound
  refine ⟨fun rate now timeSet poolFull l e idx passed distinct ordered => ?sound,
    fun rate l id x before after idx d p q found => ?rewritten,
    ⟨fun _ _ _ => rfl, fun rate now timeSet poolFull l e => ?checked, inOrder_iff⟩, fun s c e => ?applied,
    fun p => ?profile⟩
  case sound =>
    have passes := EditOp.passes_of_check passed
    refine ⟨passes.nodup_onList distinct idx, passes.inOrder_onList ordered idx,
      fun x mem other => passes.mem_onList idx mem other, ?_⟩
    cases e with
    | insertAfter a r => exact ⟨passes.insert_length idx, (passes.insert_length idx).trans_le (passes.short rfl)⟩
    | delete id => exact passes.delete_length idx
    | setProfile p => rfl
    | replace _ _ | retimeStart _ _ | retimeDuration _ _ | setEnd _ _ => exact rewriteRec_length ..
  case rewritten =>
    exact ⟨rewriteRec_found _ found, fun _ timed => onList_retimeDuration_timed rate idx d found timed,
      fun _ openEnd => onList_retimeDuration_open rate idx d found openEnd,
      fun at? => onList_retimeStart rate idx found at?, onList_delete_found rate idx found,
      fun raw => ⟨rewriteRec_found _ found, insertRec_found _ found, rfl⟩⟩
  case checked =>
    intro far repeated timed adds unordered out fine
    have far_iff : e.tooFar rate now timeSet = true ↔ far := EditOp.tooFar_iff rate now timeSet e
    have repeats_iff : e.repeats l = true ↔ repeated := EditOp.repeats_iff e l
    have unordered_iff : e.ordersList = true ∧ inOrder rate (e.onList rate 0 l) = false ↔ unordered :=
      and_congr_left' (EditOp.ordersList_iff e)
    have adds_iff : e.adds = true ↔ adds := EditOp.adds_iff e
    have order (h : fine) (placed : e.placed l = none) : out =
        if e.repeats l = true then some .duplicateId
        else if e.ordersList = true ∧ inOrder rate (e.onList rate 0 l) = false then some .badOrder
        else if e.adds = true ∧ 512 ≤ l.length then some .listFull
        else if e.adds = true ∧ poolFull = true then some .poolFull
        else none :=
      EditOp.check_of_placed poolFull h.1 h.2.1 (fun far' => h.2.2 (far_iff.mp far')) placed
    refine ⟨fun unformed => ?_, fun formed late => ?_, fun formed timely distant => ?_, fun code h placed => ?_,
      fun h placed again => ?_, fun h placed once wrong => ?_, fun h placed once right adding full => ?_,
      fun h placed once right adding short empty => ?_, fun h placed once right room => ?_, ?_, ?_, ?_,
      fun id target absent => EditOp.placed_absent target absent, fun id x target found => ⟨?_, fun suited => ?_⟩⟩
    · exact (EditOp.check_eq ..).trans (if_pos unformed)
    · exact (EditOp.check_eq ..).trans (by rw [formed, late]; rfl)
    · exact (EditOp.check_eq ..).trans (by rw [formed, timely, far_iff.mpr distant]; rfl)
    · exact EditOp.check_of_placed_ne poolFull h.1 h.2.1 (mt far_iff.mp h.2.2) placed
    · rw [order h placed, if_pos (repeats_iff.mpr again)]
    · rw [order h placed, if_neg (mt repeats_iff.mp once), if_pos (unordered_iff.mpr wrong)]
    · rw [order h placed, if_neg (mt repeats_iff.mp once), if_neg (mt unordered_iff.mp right),
        if_pos ⟨adds_iff.mpr adding, full⟩]
    · rw [order h placed, if_neg (mt repeats_iff.mp once), if_neg (mt unordered_iff.mp right),
        if_neg fun h => short.not_ge h.2, if_pos ⟨adds_iff.mpr adding, empty⟩]
    · have short : ¬(e.adds = true ∧ 512 ≤ l.length) := fun h =>
        room.elim (· (adds_iff.mp h.1)) fun r => r.1.not_ge h.2
      have pool : ¬(e.adds = true ∧ poolFull = true) := fun h =>
        room.elim (· (adds_iff.mp h.1)) fun r => Bool.false_ne_true (r.2.symm.trans h.2)
      rw [order h placed, if_neg (mt repeats_iff.mp once), if_neg (mt unordered_iff.mp right), if_neg short,
        if_neg pool]
    · rintro a r rfl
      rfl
    · rintro r rfl
      rfl
    · rintro p rfl
      rfl
    · rintro ⟨⟨p, rfl⟩, unsuited⟩
      cases target
      exact EditOp.placed_unsuited found unsuited
    · exact EditOp.placed_suited target found fun start => by simpa [start] using suited
  case applied =>
    refine ⟨?_, fun list => ?_, fun list => ?_⟩
    · rintro p rfl
      have stored : (((s.putProfile c p.store).imageTouched c).profileOf c) = p.store := by
        rw [State.profileOf, State.imageTouched_chan, State.chan_congr (s.putProfile_chans c p.store),
          State.modChan_chan]
      refine ⟨?_, State.told_log (by simp [State.applyEdit_setProfile]), fun k => ?_⟩
      · exact (State.profileOf_walkRelated _ s c c).trans ((State.profileOf_walk _ c c).trans stored)
      · rw [← s.putProfile_probe c p.store k]
        exact State.probe_congr (by simp [State.applyEdit_setProfile]) k
    · rw [s.applyEdit_eq c list, State.walk_probes]
      exact (s.edited_kept c e).2.2.1
    · obtain ⟨slots, views, -, log⟩ := s.edited_kept c e
      refine ⟨s.edited c e, s.applyEdit_eq c list, s.edited_chan c e, fun d other => s.edited_chan_other other e, slots,
        log, views, ?_, ?_, fun keeps kept => ?_⟩
      · rintro a r rfl
        exact (s.edited_free c _).trans (List.append_nil _)
      · rintro id x rfl found
        rw [s.edited_free, EditOp.removes, found]
        rfl
      · rw [s.edited_free]
        cases e with
        | insertAfter a r => exact absurd rfl (keeps a r)
        | delete id => exact absurd rfl (kept id)
        | replace _ _ | retimeStart _ _ | retimeDuration _ _ | setEnd _ _ | setProfile _ => exact List.append_nil _
  case profile =>
    obtain ⟨mem, ordered⟩ := takenOf_preference p
    exact ⟨rfl, clamp_spec (by decide) _, fun _ => chanOf_eq_some, mem, by simpa using ordered [],
      clamp_spec (by decide) _, clamp_spec (by decide) _, clamp_spec (by decide) _, clamp_spec (by decide) _,
      clamp_spec (by decide) _, clamp_spec (by decide) _, clamp_spec (by decide) _, clamp_spec (by decide) _,
      clamp_spec (by decide) _, rfl⟩

end Sys2Proof.EventRecords

/-! ## The pool of records (R20, R55 to R57)

Every operation keeps the pool: what leaves the free list enters a list or a shadow list, and the other way round. -/

namespace Sys2Proof.Machine.State

/-- The pool indices of a channel's records, of its list and of its shadow list. -/
def held (ch : ChannelRec) : Multiset Nat := ↑(ChannelRec.indices ch)

/-- The pool indices of the free list, of the lists and of the shadow lists, each as often as it stands there (R20). -/
def pool (s : State) : Multiset Nat := ↑s.free + ∑ c : Chan, held (s.chan c)

theorem chans_toList (s : State) : s.chans.toList = List.ofFn s.chan := by
  refine List.ext_getElem (by simp) fun i _ _ => ?_
  rw [List.getElem_ofFn]
  rfl

theorem poolWhole_iff (s : State) : s.PoolWhole ↔ s.pool = Multiset.range 2048 := by
  have indices : ((s.chans.toList.flatMap ChannelRec.indices : List Nat) : Multiset Nat) =
      ∑ c : Chan, held (s.chan c) := by
    rw [chans_toList, ← Multiset.coe_bind, Multiset.bind, Multiset.join, Multiset.map_coe, Multiset.sum_coe,
      List.map_ofFn, List.sum_ofFn]
    rfl
  rw [PoolWhole, ← Multiset.coe_eq_coe, ← Multiset.coe_add, indices]
  rfl

theorem pool_modChan_add (s : State) (c : Chan) (f : ChannelRec → ChannelRec) :
    (s.modChan c f).pool + held (s.chan c) = s.pool + held (f (s.chan c)) := by
  have others : ∀ d ∈ Finset.univ.erase c, held ((s.modChan c f).chan d) = held (s.chan d) := fun d h => by
    rw [modChan_chan_other s c d f (Finset.ne_of_mem_erase h).symm]
  simp only [pool, ← Finset.add_sum_erase _ _ (Finset.mem_univ c), Finset.sum_congr rfl others, modChan_chan,
    modChan_free]
  ac_rfl

theorem pool_freeRecs (s : State) (rs : List Rec) : (s.freeRecs rs).pool = s.pool + ↑(rs.map Rec.idx) := by
  simp only [pool, freeRecs, ← Multiset.coe_add]
  exact add_right_comm ..

variable (s : State)

/-- The pool indices of a shadow list, if one is open. -/
def shadowHeld (sh : Option Shadow) : Multiset Nat := ↑(sh.elim [] fun sh => (shadowRecs sh).map Rec.idx)

@[simp] theorem shadowHeld_none : shadowHeld none = 0 := by rw [shadowHeld]; rfl

@[simp] theorem shadowHeld_some (sh : Shadow) : shadowHeld (some sh) = ↑((shadowRecs sh).map Rec.idx) := by
  rw [shadowHeld]; rfl

@[simp] theorem held_eq (ch : ChannelRec) : held ch = ↑(ch.list.map Rec.idx) + shadowHeld ch.shadow := by
  rw [held, ChannelRec.indices, ← Multiset.coe_add, shadowHeld]

@[simp] theorem pool_modChan (c : Chan) (f : ChannelRec → ChannelRec) (keeps : held (f (s.chan c)) = held (s.chan c)) :
    (s.modChan c f).pool = s.pool :=
  add_right_cancel ((pool_modChan_add s c f).trans (congrArg (s.pool + ·) keeps))

/-- Another free list changes the pool by the difference of the two. -/
theorem pool_setFree_add (free : List Nat) : ({ s with free := free } : State).pool + ↑s.free = s.pool + ↑free := by
  show ↑free + ∑ c : Chan, held (s.chan c) + ↑s.free = ↑s.free + ∑ c : Chan, held (s.chan c) + ↑free
  ac_rfl

/-- A channel that gives up records which return to the free list leaves the pool as it was. -/
theorem pool_release (c : Chan) (f : ChannelRec → ChannelRec) (rs : List Rec)
    (gives : held (f (s.chan c)) + ↑(rs.map Rec.idx) = held (s.chan c)) :
    ((s.modChan c f).freeRecs rs).pool = s.pool := by
  refine add_right_cancel (b := held (f (s.chan c))) ?_
  rw [pool_freeRecs, add_assoc, add_comm (Multiset.ofList _), gives, pool_modChan_add]

theorem pool_congr {s t : State} (free : t.free = s.free) (chans : t.chans = s.chans) : t.pool = s.pool := by
  simp [pool, chan, free, chans]

@[simp] theorem pool_modView (c : Chan) (f : View → View) : (s.modView c f).pool = s.pool := rfl
@[simp] theorem pool_modSlot (n : SlotId) (f : Slot → Slot) : (s.modSlot n f).pool = s.pool := rfl
@[simp] theorem pool_modWatch (c : Chan) (f : WatchRec → WatchRec) : (s.modWatch c f).pool = s.pool := rfl
@[simp] theorem pool_modProbe (p : ProbeId) (f : Probe → Probe) : (s.modProbe p f).pool = s.pool := rfl
@[simp] theorem pool_modPeer (a : Addr) (f : Peer → Peer) : (s.modPeer a f).pool = s.pool := rfl
@[simp] theorem pool_setLine (f : Line → Line) : (s.setLine f).pool = s.pool := rfl
@[simp] theorem pool_setRepl (f : Replication → Replication) : (s.setRepl f).pool = s.pool := rfl
@[simp] theorem pool_setClaims (f : ClaimEngine → ClaimEngine) : (s.setClaims f).pool = s.pool := rfl
@[simp] theorem pool_setTime (f : TimeBase → TimeBase) : (s.setTime f).pool = s.pool := rfl
@[simp] theorem pool_setLoader (f : Loader → Loader) : (s.setLoader f).pool = s.pool := rfl
@[simp] theorem pool_emit (n : SlotId) (w : CueWord) : (s.emit n w).pool = s.pool := rfl
@[simp] theorem pool_clearOut : (s.clearOut).pool = s.pool := rfl

/-- What trimming takes off and what it leaves are the records of the list. -/
theorem map_idx_trimList (l : List Rec) :
    ((trimList l).1.map Rec.idx : Multiset Nat) + ↑((trimList l).2.map Rec.idx) = ↑(l.map Rec.idx) := by
  rw [Multiset.coe_add, ← List.map_append, Multiset.coe_eq_coe]
  exact (trimList_perm l).map Rec.idx

theorem pool_foldl {α : Type} (f : State → α → State) (h : ∀ s x, (f s x).pool = s.pool) (xs : List α) (s : State) :
    (xs.foldl f s).pool = s.pool := foldl_keeps pool h xs s

theorem pool_forChans (f : Chan → State → State) (h : ∀ c s, (f c s).pool = s.pool) (s : State) :
    (forChans f s).pool = s.pool := pool_foldl _ (fun s c => h c s) _ s

theorem pool_forSlots (f : SlotId → State → State) (h : ∀ n s, (f n s).pool = s.pool) (s : State) :
    (forSlots f s).pool = s.pool := pool_foldl _ (fun s n => h n s) _ s

theorem pool_forProbes (f : ProbeId → State → State) (h : ∀ p s, (f p s).pool = s.pool) (s : State) :
    (forProbes f s).pool = s.pool := pool_foldl _ (fun s p => h p s) _ s

@[simp] theorem pool_writeEntry (kind : AsRunKind) (slot : Option SlotId) (chan : Option Chan) (event : Option Nat)
    (lateness : Option Int) (reason : Option ReleaseReason) :
    (s.writeEntry kind slot chan event lateness reason).pool = s.pool := rfl
@[simp] theorem pool_slotEntry (n : SlotId) (kind : AsRunKind) (event : Option Nat) (lateness : Option Int) :
    (s.slotEntry n kind event lateness).pool = s.pool := rfl
@[simp] theorem pool_confirmEntry (seq : Nat) (p : Pos) : (s.confirmEntry seq p).pool = s.pool := rfl
@[simp] theorem pool_setQueue (k : Cls) (q : List QEntry) : (s.setQueue k q).pool = s.pool := rfl
@[simp] theorem pool_startWait : s.startWait.pool = s.pool := rfl
@[simp] theorem pool_enqueue (m : OutMsg) : (s.enqueue m).pool = s.pool := rfl
@[simp] theorem pool_takeBack (k : Cls) (p : OutMsg → Bool) : (s.takeBack k p).pool = s.pool := rfl
@[simp] theorem pool_replaceWaiting (p : OutMsg → Bool) (m : OutMsg) :
    (s.replaceWaiting p m).pool = s.pool := rfl
@[simp] theorem pool_offerBeacon : s.offerBeacon.pool = s.pool := by
  unfold offerBeacon; (repeat' split) <;> rfl
@[simp] theorem pool_putVerdict (p : ProbeId) : (s.putVerdict p).pool = s.pool := by
  unfold putVerdict; dsimp only; (repeat' split) <;> simp
@[simp] theorem pool_beaconRetry : s.beaconRetry.pool = s.pool := by
  unfold beaconRetry; split <;> simp
@[simp] theorem pool_beforeVerdict (k : Nat) : (s.beforeVerdict k).pool = s.pool := by
  unfold beforeVerdict; split
  · exact (pool_forProbes _ (fun p t => by split <;> simp) _).trans (pool_beaconRetry s)
  · rfl
@[simp] theorem pool_offerVerdict (p : ProbeId) : (s.offerVerdict p).pool = s.pool := by
  simp [offerVerdict]
@[simp] theorem pool_offerReply (m : OutMsg) : (s.offerReply m).pool = s.pool := by
  unfold offerReply; (repeat' split) <;> rfl
@[simp] theorem pool_drainInto (ms : List OutMsg) : (drainInto ms s).1.pool = s.pool := by
  induction ms generalizing s with
  | nil => rfl
  | cons m ms ih => unfold drainInto; split; · rw [ih]; simp
                    · rfl
@[simp] theorem pool_offerOutbox : s.offerOutbox.pool = s.pool := by
  exact pool_drainInto s s.line.outbox
@[simp] theorem pool_offerCancels : s.offerCancels.pool = s.pool := by
  exact (pool_drainInto s.offerOutbox s.offerOutbox.line.cancels).trans (pool_offerOutbox s)
@[simp] theorem pool_offerRelease (m : OutMsg) : (s.offerRelease m).pool = s.pool := by
  unfold offerRelease; dsimp only; split <;> simp
@[simp] theorem pool_offerCancel (m : OutMsg) : (s.offerCancel m).pool = s.pool := by
  unfold offerCancel; dsimp only; split <;> simp
@[simp] theorem pool_armIfReady (n : SlotId) : (s.armIfReady n).pool = s.pool := by
  unfold armIfReady; (repeat' split) <;> rfl
@[simp] theorem pool_rearm (n : SlotId) : (s.rearm n).pool = s.pool := by
  unfold rearm; (repeat' split) <;> simp
@[simp] theorem pool_refreshEnd (n : SlotId) : (s.refreshEnd n).pool = s.pool := by
  unfold refreshEnd; split <;> rfl
@[simp] theorem pool_refill (n : SlotId) : (s.refill n).pool = s.pool := by
  unfold refill; split <;> rfl
@[simp] theorem pool_loseEvent (n : SlotId) (c : Chan) (id : Nat) : (s.loseEvent n c id).pool = s.pool := by
  unfold loseEvent; dsimp only; split <;> simp
@[simp] theorem pool_afterWalk (c : Chan) : (s.afterWalk c).pool = s.pool := by
  unfold afterWalk; repeat' split <;> simp
@[simp] theorem pool_imageTouched (c : Chan) : (s.imageTouched c).pool = s.pool := by
  unfold imageTouched; (repeat' split) <;> rfl
@[simp] theorem pool_answerNone (dst : Addr) (chan : Byte) : (s.answerNone dst chan).pool = s.pool := by
  unfold answerNone; split <;> rfl
@[simp] theorem pool_dropService (c : Chan) : (s.dropService c).pool = s.pool := by
  unfold dropService; repeat' split <;> simp
@[simp] theorem pool_trim (c : Chan) : (s.trim c).pool = s.pool := by
  unfold trim
  dsimp only
  split
  · rfl
  · rw [pool_imageTouched]
    refine pool_release s c _ _ ?_
    rw [held_eq, held_eq, ← map_idx_trimList (s.chan c).list]
    exact (add_right_comm ..).trans (congrArg (· + _) (add_comm ..))
@[simp] theorem pool_markPast (c : Chan) : (s.markPast c).pool = s.pool :=
  pool_modChan s c _ (by simp [markPastList_map_idx])
@[simp] theorem pool_walkOwn (c : Chan) : (s.walkOwn c).pool = s.pool := by
  unfold walkOwn
  split
  · rw [pool_afterWalk, pool_trim, pool_markPast]
    exact pool_modChan s c _ (by simp [map_idx_of_map_fixed (walkList_map_fixed ..)])
  · rfl
@[simp] theorem pool_walk (c : Chan) : (s.walk c).pool = s.pool := by
  unfold walk; simp [pool_foldl]
@[simp] theorem pool_writeAnchor (c : Chan) (a : Anchor) : (s.writeAnchor c a).pool = s.pool := by
  rw [writeAnchor, pool_walk]
  exact pool_modChan s c _ (by simp [clearPastFrom_map_idx])
@[simp] theorem pool_removeAnchor (c : Chan) : (s.removeAnchor c).pool = s.pool := by
  simp [removeAnchor]
@[simp] theorem pool_dropLostAnchor (c : Chan) : (s.dropLostAnchor c).pool = s.pool := by
  refine pool_modChan s c _ ?_
  (repeat' split) <;> simp
@[simp] theorem pool_expireAnchor (c : Chan) : (s.expireAnchor c).pool = s.pool := by
  unfold expireAnchor; split <;> simp
@[simp] theorem pool_frameStore (c : Chan) : (s.frameStore c).pool = s.pool := by
  unfold frameStore; dsimp only; repeat' split
  all_goals simp [pool_foldl]
@[simp] theorem pool_freeParked (c : Chan) (p : Parked → Bool) : (s.freeParked c p).pool = s.pool := rfl
@[simp] theorem pool_modRequest (c : Chan) (f : ImageRequest → ImageRequest) :
    (s.modRequest c f).pool = s.pool := pool_modChan s c _ (by simp)
@[simp] theorem pool_putAsk (c : Chan) : (s.putAsk c).pool = s.pool := by
  unfold putAsk; (repeat' split) <;> simp
@[simp] theorem pool_beforeAsk (c : Chan) : (s.beforeAsk c).pool = s.pool := by
  unfold beforeAsk; split
  · exact (pool_forChans _ (fun d t => by split <;> simp) _).trans (pool_beforeVerdict s 4)
  · rfl
@[simp] theorem pool_askTarget (c : Chan) : (s.askTarget c).pool = s.pool := by
  simp [askTarget]
@[simp] theorem pool_chooseTarget (c : Chan) : (s.chooseTarget c).pool = s.pool := by
  unfold chooseTarget; repeat' split <;> simp
@[simp] theorem pool_newRound (c : Chan) : (s.newRound c).pool = s.pool := by
  simp [newRound]
@[simp] theorem pool_beginRequest (c : Chan) : (s.beginRequest c).pool = s.pool := by
  unfold beginRequest; split <;> simp
@[simp] theorem pool_roundAgain (c : Chan) : (s.roundAgain c).pool = s.pool := by
  unfold roundAgain; split <;> simp
@[simp] theorem pool_freeShadow (c : Chan) : (s.freeShadow c).pool = s.pool := by
  unfold freeShadow
  split
  next sh open_ => exact pool_release s c _ _ (by simp [open_])
  next => rfl
@[simp] theorem pool_abandonLoad (c : Chan) : (s.abandonLoad c).pool = s.pool := by
  unfold abandonLoad; split <;> simp
@[simp] theorem pool_setStale (c : Chan) (cause : StaleCause) : (s.setStale c cause).pool = s.pool := by
  unfold setStale; repeat' split <;> simp
@[simp] theorem pool_makeStale (c : Chan) (cause : StaleCause) : (s.makeStale c cause).pool = s.pool := by
  simp [makeStale]
@[simp] theorem pool_epochTouched (c : Chan) (epoch : Nat) : (s.epochTouched c epoch).pool = s.pool := by
  unfold epochTouched; split <;> simp
@[simp] theorem pool_takeChanges (c : Chan) (epoch : Nat) : (s.takeChanges c epoch).pool = s.pool := by
  unfold takeChanges; dsimp only; split <;> simp
@[simp] theorem pool_mainReturns (c : Chan) (epoch : Option Nat) : (s.mainReturns c epoch).pool = s.pool := by
  simp [mainReturns]
@[simp] theorem pool_loadTimeout (c : Chan) : (s.loadTimeout c).pool = s.pool := by
  unfold loadTimeout; (repeat' split) <;> simp
@[simp] theorem pool_targetTimeout (c : Chan) : (s.targetTimeout c).pool = s.pool := by
  unfold targetTimeout; (repeat' split) <;> simp
@[simp] theorem pool_roundRestart (c : Chan) : (s.roundRestart c).pool = s.pool := by
  unfold roundRestart; (repeat' split) <;> simp
@[simp] theorem pool_parkedTimeout (c : Chan) : (s.parkedTimeout c).pool = s.pool := by
  unfold parkedTimeout; (repeat' split) <;> simp
@[simp] theorem pool_authorityTest (c : Chan) : (s.authorityTest c).pool = s.pool := by
  unfold authorityTest; (repeat' split) <;> simp
@[simp] theorem pool_settleHealth (c : Chan) (start : Health) : (s.settleHealth c start).pool = s.pool := rfl
@[simp] theorem pool_evaluate (c : Chan) : (s.evaluate c).pool = s.pool := by
  unfold evaluate; repeat' split <;> simp
@[simp] theorem pool_restartHealth (c : Chan) : (s.restartHealth c).pool = s.pool := rfl
@[simp] theorem pool_updateLink : s.updateLink.pool = s.pool := rfl
@[simp] theorem pool_updatePicture (c : Chan) : (s.updatePicture c).pool = s.pool := rfl
@[simp] theorem pool_updateBeatLost (c : Chan) : (s.updateBeatLost c).pool = s.pool := rfl
@[simp] theorem pool_verdictEnters (c : Chan) (a : Addr) (v : Verdict) :
    (s.verdictEnters c a v).pool = s.pool := rfl
@[simp] theorem pool_frameWatch (c : Chan) : (s.frameWatch c).pool = s.pool := by
  simp [frameWatch]
@[simp] theorem pool_clearOrphan (c : Chan) : (s.clearOrphan c).pool = s.pool := rfl
@[simp] theorem pool_dropHolder (c : Chan) : (s.dropHolder c).pool = s.pool := rfl
@[simp] theorem pool_clearHolder (c : Chan) : (s.clearHolder c).pool = s.pool := by
  simp [clearHolder]
@[simp] theorem pool_orphanHolder (c : Chan) (a : Addr) : (s.orphanHolder c a).pool = s.pool := by
  simp [orphanHolder]
@[simp] theorem pool_setHolder (c : Chan) (a : Addr) (epoch : Nat) (claim : Option Claim) :
    (s.setHolder c a epoch claim).pool = s.pool := by
  simp [setHolder]
@[simp] theorem pool_acceptTake (c : Chan) (a : Addr) (epoch : Nat) (claim : Option Claim) :
    (s.acceptTake c a epoch claim).pool = s.pool := by
  unfold acceptTake; dsimp only; split <;> simp
@[simp] theorem pool_hear (a : Addr) : (s.hear a).pool = s.pool := by
  unfold hear
  dsimp only
  split
  · simp
  · refine (pool_forChans _ (fun c t => ?_) _).trans (pool_modPeer _ _ _)
    split <;> simp
@[simp] theorem pool_peerGone (a : Addr) : (s.peerGone a).pool = s.pool := by
  unfold peerGone
  split
  · refine (pool_modPeer _ _ _).trans ((pool_forChans _ (fun c t => ?_) _).trans (pool_modPeer _ _ _))
    split <;> simp
  · rfl
@[simp] theorem pool_relayGone (a : Addr) : (s.relayGone a).pool = s.pool := by
  unfold relayGone; split <;> rfl
@[simp] theorem pool_startClaim (c : Chan) (forced : Bool) : (s.startClaim c forced).pool = s.pool := by
  unfold startClaim; split <;> simp
@[simp] theorem pool_freeReserved (c : Chan) : (s.freeReserved c).pool = s.pool := by
  unfold freeReserved; split <;> rfl
@[simp] theorem pool_endClaim (c : Chan) (after : Contest) (rival : Option Rival) :
    (s.endClaim c after rival).pool = s.pool := by
  simp [endClaim]
@[simp] theorem pool_beforeClaim : s.beforeClaim.pool = s.pool := by
  unfold beforeClaim; split <;> simp
@[simp] theorem pool_runLatch : s.runLatch.pool = s.pool := by
  unfold runLatch; dsimp only; (repeat' split) <;> simp
@[simp] theorem pool_look : s.look.pool = s.pool := by
  unfold look; dsimp only; (repeat' split) <;> simp
@[simp] theorem pool_review : s.review.pool = s.pool := by
  unfold review; (repeat' split) <;> simp
@[simp] theorem pool_recordDuplicate (c : Chan) (d : Duplicate) : (s.recordDuplicate c d).pool = s.pool := rfl
@[simp] theorem pool_contestOnTake (c : Chan) (accepted : Bool) (rival : Rival) :
    (s.contestOnTake c accepted rival).pool = s.pool := by
  unfold contestOnTake; (repeat' split) <;> simp
@[simp] theorem pool_offerTake : s.offerTake.pool = s.pool := by
  unfold offerTake; dsimp only; (repeat' split) <;> simp
@[simp] theorem pool_deadWinner (c : Chan) : (s.deadWinner c).pool = s.pool := by
  unfold deadWinner; dsimp only; (repeat' split) <;> simp
@[simp] theorem pool_expireExclusions (c : Chan) : (s.expireExclusions c).pool = s.pool := rfl
@[simp] theorem pool_expireIneligible (c : Chan) : (s.expireIneligible c).pool = s.pool := rfl
@[simp] theorem pool_linesOff (n : SlotId) : (s.linesOff n).pool = s.pool :=
  pool_foldl _ (fun t l => by split <;> rfl) _ s
@[simp] theorem pool_cancelPlan (n : SlotId) (c : Chan) (reason : ReleaseReason) :
    (s.cancelPlan n c reason).pool = s.pool := by
  unfold cancelPlan; (repeat' split) <;> simp
@[simp] theorem pool_vacate (n : SlotId) (c : Chan) : (s.vacate n c).pool = s.pool := by
  unfold vacate; dsimp only; split <;> simp
@[simp] theorem pool_releaseView (c : Chan) (reason : ReleaseReason) :
    (s.releaseView c reason).pool = s.pool := by
  unfold releaseView; split <;> simp
@[simp] theorem pool_releaseSlot (n : SlotId) (reason : ReleaseReason) :
    (s.releaseSlot n reason).pool = s.pool := by
  unfold releaseSlot; repeat' split <;> simp
@[simp] theorem pool_releaseBy (n : SlotId) (reason : ReleaseReason) :
    (s.releaseBy n reason).pool = s.pool := by
  simp [releaseBy]
@[simp] theorem pool_takeRelease (n : SlotId) : (s.takeRelease n).pool = s.pool := by
  unfold takeRelease; split <;> simp
@[simp] theorem pool_joinSchedule (c : Chan) (epoch : Nat) : (s.joinSchedule c epoch).pool = s.pool := by
  unfold joinSchedule; repeat' split <;> simp
@[simp] theorem pool_cutOutgoing (n : SlotId) (c : Chan) : (s.cutOutgoing n c).pool = s.pool := by
  unfold cutOutgoing; dsimp only; (repeat' split) <;> simp
@[simp] theorem pool_skipEntries (n : SlotId) (ids : List Nat) : (s.skipEntries n ids).pool = s.pool :=
  pool_foldl (fun t id => t.slotEntry n .skipped (some id) none) (fun _ _ => rfl) ids s
@[simp] theorem pool_startWatch (n : SlotId) : (s.startWatch n).pool = s.pool := rfl
@[simp] theorem pool_leaveFallback (n : SlotId) (src : Source) : (s.leaveFallback n src).pool = s.pool := by
  unfold leaveFallback; split <;> rfl
@[simp] theorem pool_takeCue (n : SlotId) (cue : Cue) : (s.takeCue n cue).pool = s.pool := by
  unfold takeCue; split <;> rfl
@[simp] theorem pool_fireFrom (n : SlotId) (c : Chan) (e : Rec) (firePos : Pos) (lateBy : Nat) (skipped : List Nat) :
    (s.fireFrom n c e firePos lateBy skipped).pool = s.pool := by
  unfold fireFrom; split <;> simp
@[simp] theorem pool_fireArmed (n : SlotId) (c : Chan) (a : Armed) (lateBy : Nat) :
    (s.fireArmed n c a lateBy).pool = s.pool := by
  unfold fireArmed; split <;> simp
@[simp] theorem pool_step1 (n : SlotId) : (s.step1 n).pool = s.pool := by
  unfold step1
  refine (pool_modSlot _ _ _).trans (pool_foldl _ (fun t l => ?_) _ _)
  split <;> simp
@[simp] theorem pool_step2 (n : SlotId) : (s.step2 n).pool = s.pool := by
  unfold step2; (repeat' split) <;> rfl
theorem pool_takeStep (n : SlotId) (i : Nat) (f : State → State) (h : ∀ t, (f t).pool = t.pool) :
    (s.takeStep n i f).pool = s.pool := by
  unfold takeStep; (repeat' split) <;> simp [h]
@[simp] theorem pool_firstSteps (n : SlotId) : (s.firstSteps n).pool = s.pool :=
  (pool_takeStep _ _ _ _ (by simp)).trans (pool_takeStep _ _ _ _ (by simp))
@[simp] theorem pool_lockstep (m : SlotId) (c : Chan) (key : Nat) (was : Option Armed) :
    (s.lockstep m c key was).pool = s.pool := by
  unfold lockstep; dsimp only; (repeat' split) <;> simp
@[simp] theorem pool_handOff (s before : State) (n : SlotId) (c : Chan) (key : Option Nat) :
    (s.handOff before n c key).pool = s.pool := by
  unfold handOff; split
  · rfl
  · exact pool_forSlots _ (fun m t => by split <;> simp) s
@[simp] theorem pool_issueJoinCue (n : SlotId) : (s.issueJoinCue n).pool = s.pool := by
  unfold issueJoinCue; repeat' split <;> simp
@[simp] theorem pool_joinFill (n : SlotId) (c : Chan) : (s.joinFill n c).pool = s.pool := by
  simp [joinFill]
@[simp] theorem pool_fireJoin (n : SlotId) (c : Chan) (p : Plan) : (s.fireJoin n c p).pool = s.pool := by
  unfold fireJoin; repeat' split <;> simp
@[simp] theorem pool_commitCheck (n : SlotId) : (s.commitCheck n).pool = s.pool := by
  unfold commitCheck; dsimp only; (repeat' split) <;> simp
@[simp] theorem pool_fireDue (n : SlotId) (c : Chan) : (s.fireDue n c).pool = s.pool := by
  unfold fireDue; (repeat' split) <;> simp
@[simp] theorem pool_step3 (n : SlotId) : (s.step3 n).pool = s.pool := by
  unfold step3; dsimp only; (repeat' split) <;> simp
@[simp] theorem pool_step4 (n : SlotId) : (s.step4 n).pool = s.pool := by
  unfold step4; (repeat' split) <;> rfl
@[simp] theorem pool_fallBack (n : SlotId) (c : Chan) : (s.fallBack n c).pool = s.pool := rfl
@[simp] theorem pool_step5 (n : SlotId) : (s.step5 n).pool = s.pool := by
  unfold step5; (repeat' split) <;> rfl
@[simp] theorem pool_step6 (n : SlotId) : (s.step6 n).pool = s.pool := by
  unfold step6; dsimp only; (repeat' split) <;> simp
@[simp] theorem pool_confirmCue (n : SlotId) (p : Pos) : (s.confirmCue n p).pool = s.pool := by
  unfold confirmCue; split <;> rfl
@[simp] theorem pool_foundFault (n : SlotId) : (s.foundFault n).pool = s.pool := rfl
@[simp] theorem pool_confirmStep (n : SlotId) : (s.confirmStep n).pool = s.pool := by
  unfold confirmStep; (repeat' split) <;> simp
@[simp] theorem pool_fallbackStep (n : SlotId) : (s.fallbackStep n).pool = s.pool := by
  unfold fallbackStep; (repeat' split) <;> simp
@[simp] theorem pool_step7 (n : SlotId) : (s.step7 n).pool = s.pool := by
  simp [step7]
@[simp] theorem pool_issueOcc (n : SlotId) (o : Occ) : (s.issueOcc n o).pool = s.pool := by
  unfold issueOcc; dsimp only; split <;> simp
@[simp] theorem pool_issueDue (n : SlotId) (k : Nat) : (issueDue n k s).pool = s.pool := by
  induction k generalizing s with
  | zero => rfl
  | succ k ih => unfold issueDue; (repeat' split) <;> simp [ih]
@[simp] theorem pool_step8 (n : SlotId) : (s.step8 n).pool = s.pool := by
  simp [step8]
@[simp] theorem pool_cueArmed (n : SlotId) : (s.cueArmed n).pool = s.pool := by
  unfold cueArmed; repeat' split <;> simp
@[simp] theorem pool_step9 (n : SlotId) : (s.step9 n).pool = s.pool := by
  unfold step9; dsimp only; split <;> simp
@[simp] theorem pool_slotStep (n : SlotId) (k : Nat) : (s.slotStep n k).pool = s.pool := by
  unfold slotStep; split <;> simp
@[simp] theorem pool_slotThrough (n : SlotId) (k : Nat) : (s.slotThrough n k).pool = s.pool := by
  unfold slotThrough
  refine pool_foldl _ (fun t i => ?_) _ _
  split
  · exact pool_takeStep _ _ _ _ (by simp)
  · rfl
@[simp] theorem pool_leaderFirst (n : SlotId) : (s.leaderFirst n).pool = s.pool := by
  unfold leaderFirst; split <;> simp
@[simp] theorem pool_slotRun (n : SlotId) (k : Nat) : (s.slotRun n k).pool = s.pool := by
  unfold slotRun; split <;> simp
@[simp] theorem pool_slotReleaseStep (n : SlotId) : (s.slotReleaseStep n).pool = s.pool := by
  unfold slotReleaseStep; (repeat' split) <;> simp
@[simp] theorem pool_maskChanged (c : Chan) : (s.maskChanged c).pool = s.pool := rfl
@[simp] theorem pool_putProfile (c : Chan) (p : Profile) : (s.putProfile c p).pool = s.pool := by
  unfold putProfile; dsimp only; split <;> simp
@[simp] theorem pool_walkRelated (s old : State) (c : Chan) : (s.walkRelated old c).pool = s.pool := by
  unfold walkRelated
  refine pool_forChans _ (fun d t => ?_) _
  split <;> simp
/-- The pool index an INSERT AFTER takes off the head of the free list (R20). -/
def takenBy (s : State) (e : EditOp) : List Nat := if e.adds then [s.free.headD 0] else []

/-- The list after an edit holds what it held, with the record added and without the record removed. -/
theorem indices_onList {rate : Rate} {i : Nat} {e : EditOp} {l : List Rec} (placed : e.placed l = none) :
    ((e.onList rate i l).map Rec.idx : Multiset Nat) + ↑((e.removes l).map Rec.idx) =
      ↑(l.map Rec.idx) + ↑(if e.adds then [i] else []) := by
  obtain ⟨a, r, rfl⟩ | ⟨id, rfl⟩ | ⟨p, rfl⟩ | ⟨id, -, stays, other, rewritten⟩ := e.kinds
  · have added := (insertRec_perm a ⟨i, r.stated! rate, Derived.fresh⟩ l (splitAt_of_placed placed)).map Rec.idx
    simpa [EditOp.removes, EditOp.adds, EditOp.onList, add_comm] using Multiset.coe_eq_coe.mpr added
  · simpa [EditOp.adds] using (onList_delete_perm rate i id l).map Rec.idx
  · simp [EditOp.onList, EditOp.removes, EditOp.adds]
  · have kept := rewriteRec_map (f := e.rewrites rate) Rec.idx (fun _ => rfl) id l
    cases e with
    | delete d => exact absurd rfl (other d)
    | _ => simp_all [EditOp.removes]

/-- The record an edit adds comes off the free list. -/
theorem pool_editedList_add {c : Chan} {e : EditOp} (room : e.adds = true → s.free ≠ []) :
    (s.editedList c e).pool + ↑(s.takenBy e) =
      (s.modChan c fun ch => { ch with list := e.onList s.rate (s.free.headD 0) ch.list }).pool := by
  unfold editedList takenBy
  cases adds : e.adds with
  | false => simp
  | true =>
    obtain ⟨i, rest, free⟩ := List.exists_cons_of_ne_nil (room adds)
    have taken := pool_setFree_add
      (s.modChan c fun ch => { ch with list := e.onList s.rate (s.free.headD 0) ch.list }) rest
    refine add_right_cancel (b := (rest : Multiset Nat)) ?_
    simpa [free, add_assoc] using taken

/-- An edit that passes its checks leaves the pool whole: what the list gains the free list gives (R20). -/
theorem pool_editedList {c : Chan} {e : EditOp} (h : s.contentCheck c e = none) :
    ((s.editedList c e).freeRecs (e.removes (s.chan c).list)).pool = s.pool := by
  obtain ⟨placed, -, -, -, room⟩ := EditOp.passes_of_check h
  have moved : (s.editedList c e).pool + ↑(s.takenBy e) + held (s.chan c) =
      s.pool + (↑((e.onList s.rate (s.free.headD 0) (s.chan c).list).map Rec.idx) + shadowHeld (s.chan c).shadow) := by
    rw [s.pool_editedList_add fun adds => List.isEmpty_eq_false_iff.mp (room adds), pool_modChan_add, held_eq]
  have list := indices_onList (rate := s.rate) (i := s.free.headD 0) placed
  rw [pool_freeRecs]
  refine add_right_cancel (b := ↑(s.takenBy e) + held (s.chan c)) ?_
  calc (s.editedList c e).pool + ↑((e.removes (s.chan c).list).map Rec.idx) + (↑(s.takenBy e) + held (s.chan c))
    _ = (s.editedList c e).pool + ↑(s.takenBy e) + held (s.chan c) + ↑((e.removes (s.chan c).list).map Rec.idx) := by
      ac_rfl
    _ = s.pool + (↑((e.onList s.rate (s.free.headD 0) (s.chan c).list).map Rec.idx) +
          ↑((e.removes (s.chan c).list).map Rec.idx) + shadowHeld (s.chan c).shadow) := by rw [moved]; ac_rfl
    _ = s.pool + (↑(s.takenBy e) + held (s.chan c)) := by rw [list, held_eq, takenBy]; ac_rfl

/-- An edit that passes its checks takes the record it adds off the free list and returns the one it deletes (R20). -/
theorem pool_applyEdit {c : Chan} {e : EditOp} (h : s.contentCheck c e = none) : (s.applyEdit c e).pool = s.pool := by
  by_cases profile : ∃ p, e = .setProfile p
  · obtain ⟨p, rfl⟩ := profile
    simp [applyEdit]
  · push Not at profile
    rw [applyEdit_eq s c profile, pool_walk, edited, pool_imageTouched, pool_dropLostAnchor, pool_editedList s h]
@[simp] theorem pool_advanceSeq (c : Chan) : (s.advanceSeq c).pool = s.pool := by
  unfold advanceSeq; split <;> simp
@[simp] theorem pool_takeDue (c : Chan) (op : Byte) (operands : List Byte) :
    (s.takeDue c op operands).pool = s.pool := by
  obtain ⟨e, passed, eq⟩ | ⟨code, eq⟩ := s.takeDue_cases c op operands
  · rw [eq, pool_advanceSeq, pool_applyEdit s passed]
  · rw [eq, pool_advanceSeq, pool_makeStale]
@[simp] theorem pool_drainParked (c : Chan) (k : Nat) : (drainParked c k s).pool = s.pool := by
  induction k generalizing s with
  | zero => rfl
  | succ k ih => unfold drainParked; dsimp only; (repeat' split) <;> simp [ih]
@[simp] theorem pool_drain (c : Chan) : (s.drain c).pool = s.pool := by
  simp [drain]
@[simp] theorem pool_park (c : Chan) (src : Addr) (epoch seq : Nat) (op : Byte) (operands : List Byte) :
    (s.park c src epoch seq op operands).pool = s.pool := by
  unfold park; split <;> rfl
@[simp] theorem pool_editAbove (c : Chan) : (s.editAbove c).pool = s.pool := by
  unfold editAbove; (repeat' split) <;> simp
@[simp] theorem pool_editNotCurrent (c : Chan) (src : Addr) (epoch seq : Nat) (op : Byte) (operands : List Byte) :
    (s.editNotCurrent c src epoch seq op operands).pool = s.pool := by
  unfold editNotCurrent; (repeat' split) <;> simp
@[simp] theorem pool_editCurrent (c : Chan) (src : Addr) (epoch seq : Nat) (op : Byte) (operands : List Byte) :
    (s.editCurrent c src epoch seq op operands).pool = s.pool := by
  unfold editCurrent; dsimp only; (repeat' split) <;> simp
@[simp] theorem pool_setWithheld (c : Chan) : (s.setWithheld c).pool = s.pool := pool_modChan s c _ (by simp)
@[simp] theorem pool_editArrives (c : Chan) (src : Addr) (epoch seq : Nat) (op : Byte) (operands : List Byte) :
    (s.editArrives c src epoch seq op operands).pool = s.pool := by
  unfold editArrives; dsimp only; (repeat' split) <;> simp
@[simp] theorem pool_abandonFor (c : Chan) (cause : StaleCause) : (s.abandonFor c cause).pool = s.pool := by
  simp [abandonFor]
theorem pool_install {c : Chan} {sh : Shadow} (h : (s.chan c).shadow = some sh) : (s.install c sh).pool = s.pool := by
  have freed :
      ((s.modChan c fun ch => { ch with list := shadowRecs sh, shadow := none }).freeRecs (s.chan c).list).pool =
      s.pool := pool_release s c _ _ (by simp [h, List.perm_append_comm])
  unfold install
  split <;> simpa using freed
@[simp] theorem pool_completeLoad (c : Chan) : (s.completeLoad c).pool = s.pool := by
  unfold completeLoad
  split
  next sh loading => (repeat' split) <;> simp [pool_install s loading]
  next => rfl
/-- The records a segment stores come off the free list in order, and no other leaves it (R55). -/
theorem storeRecs_free (rate : Rate) (n : Nat) (bs : List Byte) (free held : List Nat) :
    (storeRecs rate n bs free held).1.map Rec.idx ++ (storeRecs rate n bs free held).2.1 = free := by
  induction n generalizing bs free held with
  | zero => rfl
  | succ n ih =>
    unfold storeRecs
    split
    · rfl
    next raw bs _ =>
      split
      · rfl
      next st _ =>
        split
        · rfl
        · split
          · rfl
          next i free =>
            have rest := ih bs free (st.id :: held)
            split
            next rs left ended stored => rw [stored] at rest; simp [rest]

theorem insertSegment_perm (i : Nat) (rs : List Rec) (xs : List (Nat × List Rec)) :
    (insertSegment i rs xs).Perm ((i, rs) :: xs) := by
  induction xs with
  | nil => exact .refl _
  | cons x xs ih =>
    unfold insertSegment
    split
    · exact .refl _
    · exact (ih.cons x).trans (.swap _ _ _)

/-- A segment stored moves its records from the free list to the shadow list. -/
theorem pool_stored {c : Chan} {sh full : Shadow} {i : Nat} {rs : List Rec} {rest : List Nat}
    (loading : (s.chan c).shadow = some sh) (taken : rs.map Rec.idx ++ rest = s.free)
    (segments : full.segments = insertSegment i rs sh.segments) :
    (({ s with free := rest } : State).modChan c fun ch => { ch with shadow := some full }).pool = s.pool := by
  have more : ((shadowRecs full).map Rec.idx : Multiset Nat) = ↑(rs.map Rec.idx) + ↑((shadowRecs sh).map Rec.idx) := by
    have perm := ((insertSegment_perm i rs sh.segments).flatMap_right Prod.snd).map Rec.idx
    rw [shadowRecs, segments, Multiset.coe_add, Multiset.coe_eq_coe]
    simpa [shadowRecs] using perm
  have freed : ({ s with free := rest } : State).pool + ↑(rs.map Rec.idx) = s.pool := by
    refine add_right_cancel (b := (rest : Multiset Nat)) ?_
    rw [add_assoc, Multiset.coe_add, taken, pool_setFree_add]
  have moved := pool_modChan_add { s with free := rest } c fun ch => { ch with shadow := some full }
  refine add_right_cancel (moved.trans ?_)
  calc ({ s with free := rest } : State).pool + held { s.chan c with shadow := some full }
    _ = ({ s with free := rest } : State).pool + ↑(rs.map Rec.idx) + held (s.chan c) := by
      rw [held_eq, held_eq, loading, shadowHeld_some, shadowHeld_some, more]
      dsimp only
      ac_rfl
    _ = s.pool + held (s.chan c) := by rw [freed]

@[simp] theorem pool_storeSegment (c : Chan) (g : Segment) : (s.storeSegment c g).pool = s.pool := by
  unfold storeSegment
  split
  · rfl
  next sh loading =>
    dsimp only
    split
    · simp
    next profile bs _ =>
      have stored := fun full => pool_stored s (full := full) (i := g.index) loading
        (storeRecs_free s.rate g.records bs s.free ((shadowRecs sh).map fun e => e.stated.id))
      split
      · rw [pool_abandonFor]; exact stored _ rfl
      · rw [pool_completeLoad]; exact stored _ rfl
theorem pool_openShadow {c : Chan} (closed : (s.chan c).shadow = none) (g : Segment)
    (prior : ReplicaState × Option StaleCause) : (s.openShadow c g prior).pool = s.pool :=
  pool_modChan s c _ (by simp [closed, shadowRecs])
@[simp] theorem pool_segmentAccepted (c : Chan) : (s.segmentAccepted c).pool = s.pool := by
  rw [segmentAccepted, pool_modChan, pool_modRequest]
  rw [held_eq, held_eq]
  cases ((s.modRequest c _).chan c).shadow <;> rfl
@[simp] theorem pool_takeSegment (c : Chan) (g : Segment) : (s.takeSegment c g).pool = s.pool := by
  unfold takeSegment; dsimp only; (repeat' split) <;> simp [pool_openShadow _ (freeShadow_shadow s c)]
@[simp] theorem pool_imageArrives (c : Chan) (src : Addr) (g : Segment) :
    (s.imageArrives c src g).pool = s.pool := by
  unfold imageArrives; dsimp only; (repeat' split) <;> simp
@[simp] theorem pool_imagereqArrives (src : Addr) (byte : Byte) :
    (s.imagereqArrives src byte).pool = s.pool := by
  unfold imagereqArrives; (repeat' split) <;> simp
@[simp] theorem pool_startImage (c : Chan) : (s.startImage c).pool = s.pool := rfl
@[simp] theorem pool_queueSegment (dst : Addr) (c : Chan) : (s.queueSegment dst c).pool = s.pool := by
  unfold queueSegment; (repeat' split) <;> rfl
@[simp] theorem pool_serveNext : s.serveNext.pool = s.pool := by
  unfold serveNext; (repeat' split) <;> simp
@[simp] theorem pool_imageDone (m : OutMsg) : (s.imageDone m).pool = s.pool := by
  unfold imageDone; repeat' split <;> simp
@[simp] theorem pool_judgeBeat (c : Chan) (b : BeatEntry) : (s.judgeBeat c b).pool = s.pool := by
  unfold judgeBeat; dsimp only; (repeat' split) <;> simp
@[simp] theorem pool_recordBeat (c : Chan) (b : BeatEntry) : (s.recordBeat c b).pool = s.pool := rfl
@[simp] theorem pool_beatArrives (raw : RawBeat) : (s.beatArrives raw).pool = s.pool := by
  unfold beatArrives; (repeat' split) <;> simp
@[simp] theorem pool_relaystateArrives (a : Addr) (link : Nat) :
    (s.relaystateArrives a link).pool = s.pool := by
  unfold relaystateArrives; split <;> rfl
@[simp] theorem pool_verdictArrives (a : Addr) (chan verdict : Nat) :
    (s.verdictArrives a chan verdict).pool = s.pool := by
  unfold verdictArrives; (repeat' split) <;> rfl
@[simp] theorem pool_giveVerdict (p : ProbeId) : (s.giveVerdict p).pool = s.pool := by
  unfold giveVerdict; split <;> simp
@[simp] theorem pool_formVerdict (p : ProbeId) (v : Verdict) : (s.formVerdict p v).pool = s.pool := by
  unfold formVerdict; split <;> simp
@[simp] theorem pool_judgeGrid (p : ProbeId) (c : Chan) (lock : Bool) (cells : List Byte) :
    (s.judgeGrid p c lock cells).pool = s.pool := by
  unfold judgeGrid; dsimp only; split <;> simp
@[simp] theorem pool_gridArrives (probe : Nat) (lock : Bool) (cells : List Byte) :
    (s.gridArrives probe lock cells).pool = s.pool := by
  unfold gridArrives; (repeat' split) <;> simp
@[simp] theorem pool_probeGone (p : ProbeId) : (s.probeGone p).pool = s.pool := by
  unfold probeGone; split <;> simp
@[simp] theorem pool_repeatVerdict (p : ProbeId) : (s.repeatVerdict p).pool = s.pool := by
  unfold repeatVerdict; split <;> simp
@[simp] theorem pool_beaconDuplicate (c : Chan) (a : Addr) (e : Nat) :
    (s.beaconDuplicate c a e).pool = s.pool := by
  unfold beaconDuplicate; dsimp only; (repeat' split) <;> simp
@[simp] theorem pool_beaconHolder (c : Chan) (a : Addr) (e : Nat) : (s.beaconHolder c a e).pool = s.pool := by
  unfold beaconHolder; dsimp only; split <;> simp
@[simp] theorem pool_beaconEntry (a : Addr) (c : Chan) (e : Nat) : (s.beaconEntry a c e).pool = s.pool := by
  unfold beaconEntry; (repeat' split) <;> simp
@[simp] theorem pool_beaconArrives (a : Addr) (b : RawBeacon) : (s.beaconArrives a b).pool = s.pool := by
  unfold beaconArrives; dsimp only; split <;> simp [pool_forChans, pool_foldl, apply_ite pool]
@[simp] theorem pool_claimEchoed (c : Chan) (serial : Nat) : (s.claimEchoed c serial).pool = s.pool := by
  unfold claimEchoed; dsimp only; split <;> simp
@[simp] theorem pool_claimArrives (c : Chan) (a : Addr) (claim : Claim) :
    (s.claimArrives c a claim).pool = s.pool := by
  unfold claimArrives; dsimp only; (repeat' split) <;> simp
@[simp] theorem pool_takeArrives (c : Chan) (a : Addr) (claim : Claim) (epoch : Nat) :
    (s.takeArrives c a claim epoch).pool = s.pool := by
  unfold takeArrives; split <;> simp
@[simp] theorem pool_endCurrent : s.endCurrent.pool = s.pool := rfl
@[simp] theorem pool_takeEchoed (c : Chan) (claim : Claim) (epoch : Nat) :
    (s.takeEchoed c claim epoch).pool = s.pool := by
  unfold takeEchoed; repeat' split <;> simp
@[simp] theorem pool_releaseArrives (c : Chan) (a : Addr) (reason : ReleaseReason) (ret : Option Nat) :
    (s.releaseArrives c a reason ret).pool = s.pool := by
  unfold releaseArrives; dsimp only; (repeat' split) <;> simp
@[simp] theorem pool_forceStart (c : Chan) : (s.forceStart c).1.pool = s.pool := by
  unfold forceStart; repeat' split <;> simp
@[simp] theorem pool_forceResend (c : Chan) : (s.forceResend c).1.pool = s.pool := by
  unfold forceResend; repeat' split <;> simp
@[simp] theorem pool_force (c : Chan) : (s.force c).1.pool = s.pool := by
  unfold force; dsimp only; (repeat' split) <;> simp
@[simp] theorem pool_clearCourtesy (k : Cls) : (s.clearCourtesy k).pool = s.pool := rfl
@[simp] theorem pool_setCourtesy (k : Cls) : (s.setCourtesy k).pool = s.pool := rfl
@[simp] theorem pool_lineBecomesIdle : s.lineBecomesIdle.pool = s.pool := rfl
@[simp] theorem pool_startSending (k : Cls) : (s.startSending k).pool = s.pool := by
  unfold startSending
  split
  · exact pool_congr rfl rfl
  · rfl
@[simp] theorem pool_waitRunsOut : s.waitRunsOut.pool = s.pool := by
  unfold waitRunsOut; split <;> simp
@[simp] theorem pool_lineBecomesBusy : s.lineBecomesBusy.pool = s.pool := by
  unfold lineBecomesBusy; split <;> rfl
@[simp] theorem pool_leaveHead : s.leaveHead.pool = s.pool := by
  unfold leaveHead; split <;> rfl
@[simp] theorem pool_echoLost : s.echoLost.pool = s.pool := rfl
@[simp] theorem pool_askEchoed (c : Chan) (d : Addr) : (s.askEchoed c d).pool = s.pool := pool_modRequest s c _
@[simp] theorem pool_noticeEchoed (c : Chan) (event : Nat) (h : Pos) (ret : Nat) :
    (s.noticeEchoed c event h ret).pool = s.pool := by
  unfold noticeEchoed; split <;> rfl
@[simp] theorem pool_answer (dst : Addr) (tag : Nat) (code : ResultCode) (items : List (List Byte)) :
    (s.answer dst tag code items).pool = s.pool := by
  unfold answer; simp [pool_foldl]
@[simp] theorem pool_queryChannelCmd (src : Addr) (tag : Nat) (c : Chan) :
    (s.queryChannelCmd src tag c).pool = s.pool := by
  simp [queryChannelCmd]
@[simp] theorem pool_queryListCmd (src : Addr) (tag : Nat) (c : Chan) (start count : Nat) :
    (s.queryListCmd src tag c start count).pool = s.pool := by
  unfold queryListCmd; (repeat' split) <;> simp
@[simp] theorem pool_queryAsrunCmd (src : Addr) (tag start count : Nat) :
    (s.queryAsrunCmd src tag start count).pool = s.pool := by
  unfold queryAsrunCmd
  exact pool_answer _ _ _ _ _
@[simp] theorem pool_forceTakeCmd (src : Addr) (tag : Nat) (c : Chan) :
    (s.forceTakeCmd src tag c).pool = s.pool := by
  unfold forceTakeCmd; (repeat' split) <;> simp
@[simp] theorem pool_forceReleaseCmd (src : Addr) (tag : Nat) (c : Chan) :
    (s.forceReleaseCmd src tag c).pool = s.pool := by
  unfold forceReleaseCmd; (repeat' split) <;> simp
@[simp] theorem pool_inhibitCmd (dst src : Addr) (tag : Nat) (c : Chan) (on : Bool) :
    (s.inhibitCmd dst src tag c on).pool = s.pool := by
  unfold inhibitCmd; (repeat' split) <;> simp
@[simp] theorem pool_nextCommand (src : Addr) (tag : Nat) (c : Chan) :
    (s.nextCommand src tag c).pool = s.pool := by
  unfold nextCommand; dsimp only; (repeat' split) <;> simp
@[simp] theorem pool_handbackCmd (src : Addr) (tag : Nat) (c : Chan) (at? : Option Nat) :
    (s.handbackCmd src tag c at?).pool = s.pool := by
  unfold handbackCmd; dsimp only; (repeat' split) <;> simp
@[simp] theorem pool_editRequestCmd (src : Addr) (tag : Nat) (c : Chan) (op : Byte) (operands : List Byte) :
    (s.editRequestCmd src tag c op operands).pool = s.pool := by
  unfold editRequestCmd
  dsimp only
  repeat' split
  case h_2.isFalse.isFalse => simp [pool_applyEdit s ‹_›]
  all_goals simp
@[simp] theorem pool_watchChannel (c : Chan) : (s.watchChannel c).pool = s.pool := by
  unfold watchChannel
  split
  · simp
  · exact pool_release s c _ _ (by simp [add_comm])
@[simp] theorem pool_restartChannel (c : Chan) : (s.restartChannel c).pool = s.pool := by
  unfold restartChannel; repeat' split <;> simp
@[simp] theorem pool_beaconDue : s.beaconDue.pool = s.pool := by
  unfold beaconDue; split <;> simp
@[simp] theorem pool_silences : s.silences.pool = s.pool := by
  unfold silences
  exact (pool_foldl _ (fun t a => pool_relayGone t a) _ _).trans (pool_foldl _ (fun t a => pool_peerGone t a) _ _)
@[simp] theorem pool_offers : s.offers.pool = s.pool := by
  unfold offers; simp [pool_forChans, pool_forProbes]
@[simp] theorem pool_frameChannel (c : Chan) : (s.frameChannel c).pool = s.pool := by
  simp [frameChannel]
@[simp] theorem pool_frameClaims : s.frameClaims.pool = s.pool := by
  unfold frameClaims
  have h : (forChans (fun c t => ((t.expireExclusions c).expireIneligible c).deadWinner c) s).pool = s.pool :=
    pool_forChans _ (fun c t => by simp) _
  simpa using h

end Sys2Proof.Machine.State

/-! ## Every step keeps the pool whole (R20, R55 to R57)

All but a full reset leaves the pool as it is: what is left are the operations that move every block at once, and the
shapes of the commands. -/

namespace Sys2Proof.Machine.State

variable (s : State)

theorem pool_of_held {s t : State} (free : t.free = s.free) (chans : ∀ c, held (t.chan c) = held (s.chan c)) :
    t.pool = s.pool := by
  rw [pool, free, Finset.sum_congr rfl fun c _ => chans c, pool]

/-! ### Station states, marks and frame events -/

@[simp] theorem pool_judgeReady : s.judgeReady.pool = s.pool := by
  rcases s.judgeReady_cases with same | ⟨st, _, _, eq⟩
  · rw [same]
  · rw [eq]; rfl

@[simp] theorem pool_setStation (st : StationState) : (s.setStation st).pool = s.pool := rfl

@[simp] theorem pool_updateStation : s.updateStation.pool = s.pool := by
  unfold updateStation
  repeat' split
  all_goals simp [pool_forChans]

@[simp] theorem pool_referenceChanged : s.referenceChanged.pool = s.pool := by
  unfold referenceChanged
  split <;> simp

@[simp] theorem pool_adoptMark (m : Pos) (d : Int) (entry : Bool) : (s.adoptMark m d entry).pool = s.pool := by
  unfold adoptMark
  dsimp only
  split <;> simp

@[simp] theorem pool_judgeMark : s.judgeMark.pool = s.pool := by
  cases pending : s.time.pendingMark with
  | none => rw [judgeMark_none s pending]
  | some m =>
    by_cases adopted : s.adopts m
    · rw [judgeMark_adopts m pending adopted]; simp
    · rw [judgeMark_disputes m pending adopted]; simp

@[simp] theorem pool_openFrame : s.openFrame.pool = s.pool := by
  refine pool_of_held rfl fun c => ?_
  rw [openFrame_chan, held_eq, held_eq, ChannelRec.tick]
  cases (s.chan c).shadow <;> rfl

@[simp] theorem pool_timePasses (dt : Nat) : (s.timePasses dt).pool = s.pool := rfl

@[simp] theorem pool_pulse (dt : Nat) : (s.pulse dt).pool = s.pool := by
  unfold pulse
  dsimp only
  repeat' split
  all_goals simp

@[simp] theorem pool_loseReference (dt : Nat) : (s.loseReference dt).pool = s.pool := by
  unfold loseReference
  repeat' split
  all_goals simp

@[simp] theorem pool_substitute (dt : Nat) : (s.substitute dt).pool = s.pool := by
  unfold substitute
  repeat' split
  all_goals simp

/-! ### Resets and the start -/

@[simp] theorem pool_afterRelease : s.afterRelease.pool = s.pool := by
  unfold afterRelease
  split <;> rfl

theorem chan_mapChans (f : ChannelRec → ChannelRec) (c : Chan) :
    ({ s with chans := s.chans.map f } : State).chan c = f (s.chan c) := by simp [chan, Vector.get_eq_getElem]

theorem held_unanchored (ch : ChannelRec) : held ch.unanchored = held ch := by
  rw [held_eq, held_eq]; rfl

theorem pool_unanchored : ({ s with chans := s.chans.map ChannelRec.unanchored } : State).pool = s.pool :=
  pool_of_held rfl fun c => by rw [chan_mapChans, held_unanchored]

theorem pool_setBlocks (probes : Vector Probe 4) (peers : Vector Peer 30) (views : Vector View 32)
    (claims : ClaimEngine) (line : Line) :
    ({ s with probes := probes, peers := peers, views := views, claims := claims, line := line } : State).pool =
      s.pool := rfl

theorem pool_setSlots (v : Vector Slot 8) : ({ s with slots := v } : State).pool = s.pool := rfl

/-- An entry into START keeps every list, and a load it ends gives its records back (R36, R63). -/
@[simp] theorem pool_enterStart : s.enterStart.pool = s.pool := by
  unfold enterStart
  dsimp only
  rw [pool_setBlocks, pool_forChans _ fun c t => pool_walk t c, pool_setRepl, pool_unanchored,
    pool_forChans _ fun c t => pool_restartChannel t c, pool_setSlots, pool_setLoader]

@[simp] theorem pool_endPhase : s.endPhase.pool = s.pool := by
  unfold endPhase
  repeat' split
  all_goals simp

@[simp] theorem pool_timeOutPhase : s.timeOutPhase.pool = s.pool := by
  unfold timeOutPhase
  repeat' split
  all_goals simp [pool_forSlots]

@[simp] theorem pool_handOver (cfg : Settings) : (s.handOver cfg).pool = s.pool := by
  calc (s.handOver cfg).pool
    _ = (forChans (fun c t => t.watchChannel c) _).pool := rfl
    _ = s.pool := by
      rw [pool_forChans _ fun c t => pool_watchChannel t c, pool_setLoader]
      split <;> rfl

@[simp] theorem pool_enterListening : s.enterListening.pool = s.pool := by
  unfold enterListening
  dsimp only
  rw [pool_forChans _ fun c t => by split <;> simp, pool_offerBeacon]
  rfl

@[simp] theorem pool_configured (straps : BitVec 5) (block : Option (List Byte)) :
    (s.configured straps block).pool = s.pool := by
  unfold configured
  dsimp only
  split <;> simp

/-! ### The work of a frame event -/

@[simp] theorem pool_frameWork : s.frameWork.pool = s.pool := by
  simp [frameWork, pool_forChans, pool_forSlots]

@[simp] theorem pool_settle : s.settle.pool = s.pool := by
  unfold settle
  split <;> simp

/-! ### The shapes of the commands -/

section
variable {s}

theorem pool_event {f : State → State} (hf : ∀ t, (f t).pool = t.pool) : (s.event f).pool = s.pool := by
  simp [event, hf]

theorem pool_atFrame {f : State → State} (hf : ∀ t, (f t).pool = t.pool) : (s.atFrame f).pool = s.pool := by
  unfold atFrame
  dsimp only
  split <;> simp [hf]

theorem pool_arrival (rx : Reception) {f : Addr → Addr → Msg → Option (State → State)}
    (hf : ∀ src dst m g t, f src dst m = some g → (g t).pool = t.pool) : (s.arrival rx f).pool = s.pool := by
  refine pool_event fun t => ?_
  split
  next src dst m _ =>
    split
    next g taken => rw [hf src dst m g _ taken, pool_hear]
    next => rfl
  next => rfl

theorem pool_console (rx : Reception) (broadcast : Bool) {f : Addr → Addr → Nat → Command → Option (State → State)}
    (hf : ∀ dst src tag k g t, f dst src tag k = some g → (g t).pool = t.pool) :
    (s.console rx broadcast f).pool = s.pool := by
  refine pool_arrival rx fun src dst m g t taken => ?_
  split at taken
  next tag code bs =>
    obtain ⟨k, -, mapped⟩ := Option.bind_eq_some_iff.mp taken
    obtain ⟨effect, own, rfl⟩ := Option.map_eq_some_iff.mp mapped
    simp only [commandTaken]
    repeat' split
    · rfl
    · exact pool_answer ..
    · exact hf dst src tag k effect t own
  next => cases taken

theorem pool_echo {p : OutMsg → Bool} {f : OutMsg → State → State} (hf : ∀ m t, (f m t).pool = t.pool) :
    (s.echo p f).pool = s.pool := by
  refine pool_event fun t => ?_
  split
  · rw [hf, pool_leaveHead]
  · rfl

end

/-! ### The commands -/

@[simp] theorem pool_tallyRises (n : SlotId) : (s.tallyRises n).pool = s.pool := by
  unfold tallyRises
  dsimp only
  split
  · split <;> simp
  · rfl

@[simp] theorem pool_tallyFalls (n : SlotId) : (s.tallyFalls n).pool = s.pool := by
  unfold tallyFalls
  dsimp only
  split
  · split <;> simp
  · rfl

@[simp] theorem pool_restartCmd (src : Addr) (tag : Nat) : (s.restartCmd src tag).pool = s.pool := by
  unfold restartCmd
  dsimp only
  repeat' split
  all_goals simp

theorem PoolWhole.of_pool {s t : State} (h : s.PoolWhole) (e : t.pool = s.pool) : t.PoolWhole :=
  (poolWhole_iff t).mpr (e.trans ((poolWhole_iff s).mp h))

theorem poolWhole_afterFullReset : s.afterFullReset.PoolWhole :=
  reset_poolWhole.of_pool (pool_congr (by simp only [afterFullReset]) (by simp only [afterFullReset]))

/-- Every command completes, and all but a full reset leave the pool as it is. -/
theorem exec_pool (c : Instr) : ∃ t, exec c s = .next t ∧ (c = .fullReset ∨ t.pool = s.pool) := by
  cases c with
  | fullReset => exact ⟨_, rfl, .inl rfl⟩
  | resetReleased => exact ⟨_, rfl, .inr (pool_event pool_afterRelease)⟩
  | configReadComplete straps block =>
    refine ⟨_, rfl, .inr (pool_event fun t => ?_)⟩
    split <;> simp
  | framePulse dt | flywheelEntry dt | substituteFrameEvent dt => exact ⟨_, rfl, .inr (by simp)⟩
  | airbeatReceived rx | relaystateReceived rx | editReceived rx | imageSegmentReceived rx | imagereqReceived rx
  | verdictReceived rx | beaconReceived rx | claimHeard rx | takeHeard rx | releaseHeard rx | handoverHeard rx
  | timemarkReceived rx =>
    refine ⟨_, rfl, .inr (pool_arrival rx fun src dst m g t taken => ?_)⟩
    split at taken
    · obtain rfl := Option.some.inj taken
      repeat' split
      all_goals simp [pool_foldl, apply_ite pool]
    · cases taken
  | queryStation rx | queryChannel rx | queryList rx | queryAsrun rx | forceTake rx | forceRelease rx | inhibit rx
  | nextCmd rx | handback rx | editRequest rx | restart rx =>
    refine ⟨_, rfl, .inr (pool_console rx _ fun dst src tag k g t taken => ?_)⟩
    split at taken
    · obtain rfl := Option.some.inj taken; simp
    · cases taken
  | imagereqEcho | imageEcho | claimEcho | takeEcho | releaseEcho | handoverEcho | messageEcho =>
    refine ⟨_, rfl, .inr (pool_echo fun m t => ?_)⟩
    repeat' split
    all_goals simp
  | badCommand | imageSegmentQueued | lineIdle | ladderWaitExpiry | lineGoesBusy | echoFailed | messageDiscarded
  | gridDelivery | tallyRise | tallyFall =>
    refine ⟨_, rfl, .inr (pool_event fun t => ?_)⟩
    repeat' split
    all_goals simp
  | beatAnchorExpiry | parkedEditTimeout | imagereqOfferRetry | imageTargetTimeout | imageRoundRestart
  | imageLoadTimeout | beatLost | relaySilent | verdictSourceStale | probeSilent | verdictRepeat | verdictOfferRetry
  | beaconOffered | beaconOfferRetry | peerSilent | claimWindowExpiry | takeOfferRetry | deadWinnerExclusion
  | exclusionExpiry | pendingForceLatchRun | ineligibleExpiry | joinCueIssue | joinCueFire | linePulseEnd | lockPoint
  | cueFire | armNextCue | restartPlay | serverFaultAction | scheduleRunOut | confirmWindowExpiry | fallbackTimeout
  | secondaryOccurrence | slotRelease | releaseOutboxOffer | handbackCommitCheck | handbackBoundary
  | handoverCancelOffer | timeMarkJudgement | listeningCountExpiry | releasePhaseEnd | releasePhaseTimeout =>
    exact ⟨_, rfl, .inr (pool_atFrame fun t => by simp)⟩

end Sys2Proof.Machine.State

namespace Sys2Proof.EventRecords
open Sys2Proof.Machine

/-- Settles O58: a step is the front command on the rest of the queue, or what is left of an open frame event; a full
reset frees every record, and all else leaves the pool as it is. -/
theorem everyStepKeepsThePoolWhole : Obligations.EveryStepKeepsThePoolWhole := by
  intro s t h stepped
  unfold step at stepped
  split at stepped
  · obtain rfl := Host.Outcome.next.inj stepped
    split
    · exact h.of_pool (by simp)
    · exact h
  next c rest _ =>
    obtain ⟨u, executed, kept⟩ := State.exec_pool { s with pending := rest } c
    rw [executed] at stepped
    obtain rfl := Host.Outcome.next.inj stepped
    rcases kept with rfl | same
    · obtain rfl := Host.Outcome.next.inj executed
      exact State.poolWhole_afterFullReset _
    · exact h.of_pool same

end Sys2Proof.EventRecords

/-! ## The depths of the queues (R40, R58, R166, R174, R182)

What an operation does to the queues is said once for each: those that leave the line interface and the replication unit
alone keep the depths both ways, the others keep them. -/

namespace Sys2Proof.Machine.State

variable {s t : State}

/-! ### What leaves the line interface and the replication unit alone -/

section
variable (s)

@[simp] theorem armIfReady_line (n : SlotId) : (s.armIfReady n).line = s.line := by
  unfold armIfReady; (repeat' split) <;> rfl
@[simp] theorem rearm_line (n : SlotId) : (s.rearm n).line = s.line := by
  unfold rearm; (repeat' split) <;> simp
@[simp] theorem refreshEnd_line (n : SlotId) : (s.refreshEnd n).line = s.line := by
  unfold refreshEnd; split <;> rfl
@[simp] theorem refill_line (n : SlotId) : (s.refill n).line = s.line := by
  unfold refill; split <;> rfl
@[simp] theorem loseEvent_line (n : SlotId) (c : Chan) (id : Nat) : (s.loseEvent n c id).line = s.line := by
  unfold loseEvent; dsimp only; split <;> simp
@[simp] theorem afterWalk_line (c : Chan) : (s.afterWalk c).line = s.line := by
  unfold afterWalk; (repeat' split) <;> simp
@[simp] theorem armIfReady_repl (n : SlotId) : (s.armIfReady n).repl = s.repl := by
  unfold armIfReady; (repeat' split) <;> rfl
@[simp] theorem rearm_repl (n : SlotId) : (s.rearm n).repl = s.repl := by
  unfold rearm; (repeat' split) <;> simp
@[simp] theorem refreshEnd_repl (n : SlotId) : (s.refreshEnd n).repl = s.repl := by
  unfold refreshEnd; split <;> rfl
@[simp] theorem refill_repl (n : SlotId) : (s.refill n).repl = s.repl := by
  unfold refill; split <;> rfl
@[simp] theorem loseEvent_repl (n : SlotId) (c : Chan) (id : Nat) : (s.loseEvent n c id).repl = s.repl := by
  unfold loseEvent; dsimp only; split <;> simp
@[simp] theorem afterWalk_repl (c : Chan) : (s.afterWalk c).repl = s.repl := by
  unfold afterWalk; (repeat' split) <;> simp

end

theorem QueuesShort.congr (h : s.QueuesShort) (line : t.line = s.line) (repl : t.repl = s.repl) : t.QueuesShort where
  class0 := line ▸ h.class0
  class1 := line ▸ h.class1
  class2 := line ▸ h.class2
  parked := repl ▸ h.parked
  service := repl ▸ h.service
  outbox := line ▸ h.outbox
  cancels := line ▸ h.cancels

theorem queuesShort_congr (line : t.line = s.line) (repl : t.repl = s.repl) : t.QueuesShort ↔ s.QueuesShort :=
  ⟨fun h => h.congr line.symm repl.symm, fun h => h.congr line repl⟩

@[simp] theorem queuesShort_modChan (c : Chan) (f : ChannelRec → ChannelRec) :
    (s.modChan c f).QueuesShort ↔ s.QueuesShort := queuesShort_congr rfl rfl
@[simp] theorem queuesShort_modView (c : Chan) (f : View → View) :
    (s.modView c f).QueuesShort ↔ s.QueuesShort := queuesShort_congr rfl rfl
@[simp] theorem queuesShort_modSlot (n : SlotId) (f : Slot → Slot) :
    (s.modSlot n f).QueuesShort ↔ s.QueuesShort := queuesShort_congr rfl rfl
@[simp] theorem queuesShort_modWatch (c : Chan) (f : WatchRec → WatchRec) :
    (s.modWatch c f).QueuesShort ↔ s.QueuesShort := queuesShort_congr rfl rfl
@[simp] theorem queuesShort_modProbe (p : ProbeId) (f : Probe → Probe) :
    (s.modProbe p f).QueuesShort ↔ s.QueuesShort := queuesShort_congr rfl rfl
@[simp] theorem queuesShort_modPeer (a : Addr) (f : Peer → Peer) :
    (s.modPeer a f).QueuesShort ↔ s.QueuesShort := queuesShort_congr rfl rfl
@[simp] theorem queuesShort_setClaims (f : ClaimEngine → ClaimEngine) :
    (s.setClaims f).QueuesShort ↔ s.QueuesShort := queuesShort_congr rfl rfl
@[simp] theorem queuesShort_setTime (f : TimeBase → TimeBase) :
    (s.setTime f).QueuesShort ↔ s.QueuesShort := queuesShort_congr rfl rfl
@[simp] theorem queuesShort_setLoader (f : Loader → Loader) :
    (s.setLoader f).QueuesShort ↔ s.QueuesShort := queuesShort_congr rfl rfl
@[simp] theorem queuesShort_emit (n : SlotId) (w : CueWord) :
    (s.emit n w).QueuesShort ↔ s.QueuesShort := queuesShort_congr rfl rfl
@[simp] theorem queuesShort_clearOut : s.clearOut.QueuesShort ↔ s.QueuesShort := queuesShort_congr rfl rfl
@[simp] theorem queuesShort_writeEntry (kind : AsRunKind) (slot : Option SlotId) (chan : Option Chan)
    (event : Option Nat) (lateness : Option Int) (reason : Option ReleaseReason) :
    (s.writeEntry kind slot chan event lateness reason).QueuesShort ↔ s.QueuesShort := queuesShort_congr rfl rfl
@[simp] theorem queuesShort_slotEntry (n : SlotId) (kind : AsRunKind) (event : Option Nat) (lateness : Option Int) :
    (s.slotEntry n kind event lateness).QueuesShort ↔ s.QueuesShort := queuesShort_congr rfl rfl
@[simp] theorem queuesShort_freeRecs (rs : List Rec) : (s.freeRecs rs).QueuesShort ↔ s.QueuesShort :=
  queuesShort_congr rfl rfl
@[simp] theorem queuesShort_armIfReady (n : SlotId) : (s.armIfReady n).QueuesShort ↔ s.QueuesShort :=
  queuesShort_congr (by simp) (by simp)
@[simp] theorem queuesShort_refreshEnd (n : SlotId) : (s.refreshEnd n).QueuesShort ↔ s.QueuesShort :=
  queuesShort_congr (by simp) (by simp)
@[simp] theorem queuesShort_refill (n : SlotId) : (s.refill n).QueuesShort ↔ s.QueuesShort :=
  queuesShort_congr (by simp) (by simp)
@[simp] theorem queuesShort_afterWalk (c : Chan) : (s.afterWalk c).QueuesShort ↔ s.QueuesShort :=
  queuesShort_congr (by simp) (by simp)
@[simp] theorem queuesShort_markPast (c : Chan) : (s.markPast c).QueuesShort ↔ s.QueuesShort := queuesShort_congr rfl rfl
@[simp] theorem queuesShort_dropLostAnchor (c : Chan) : (s.dropLostAnchor c).QueuesShort ↔ s.QueuesShort :=
  queuesShort_congr rfl rfl
@[simp] theorem queuesShort_modRequest (c : Chan) (f : ImageRequest → ImageRequest) :
    (s.modRequest c f).QueuesShort ↔ s.QueuesShort := queuesShort_congr rfl rfl
@[simp] theorem queuesShort_freeShadow (c : Chan) : (s.freeShadow c).QueuesShort ↔ s.QueuesShort := by
  unfold freeShadow; split <;> simp
@[simp] theorem queuesShort_abandonLoad (c : Chan) : (s.abandonLoad c).QueuesShort ↔ s.QueuesShort := by
  unfold abandonLoad; split <;> simp
@[simp] theorem queuesShort_maskChanged (c : Chan) : (s.maskChanged c).QueuesShort ↔ s.QueuesShort :=
  queuesShort_congr rfl rfl
@[simp] theorem queuesShort_putProfile (c : Chan) (p : Profile) : (s.putProfile c p).QueuesShort ↔ s.QueuesShort := by
  unfold putProfile; dsimp only; split <;> simp
@[simp] theorem queuesShort_setWithheld (c : Chan) : (s.setWithheld c).QueuesShort ↔ s.QueuesShort :=
  queuesShort_congr rfl rfl
@[simp] theorem queuesShort_openShadow (c : Chan) (g : Segment) (prior : ReplicaState × Option StaleCause) :
    (s.openShadow c g prior).QueuesShort ↔ s.QueuesShort := queuesShort_congr rfl rfl
@[simp] theorem queuesShort_segmentAccepted (c : Chan) : (s.segmentAccepted c).QueuesShort ↔ s.QueuesShort :=
  queuesShort_congr rfl rfl
@[simp] theorem queuesShort_settleHealth (c : Chan) (start : Health) :
    (s.settleHealth c start).QueuesShort ↔ s.QueuesShort := queuesShort_congr rfl rfl
@[simp] theorem queuesShort_restartHealth (c : Chan) : (s.restartHealth c).QueuesShort ↔ s.QueuesShort :=
  queuesShort_congr rfl rfl
@[simp] theorem queuesShort_updateLink : s.updateLink.QueuesShort ↔ s.QueuesShort := queuesShort_congr rfl rfl
@[simp] theorem queuesShort_updatePicture (c : Chan) : (s.updatePicture c).QueuesShort ↔ s.QueuesShort :=
  queuesShort_congr rfl rfl
@[simp] theorem queuesShort_updateBeatLost (c : Chan) : (s.updateBeatLost c).QueuesShort ↔ s.QueuesShort :=
  queuesShort_congr rfl rfl
@[simp] theorem queuesShort_verdictEnters (c : Chan) (a : Addr) (v : Verdict) :
    (s.verdictEnters c a v).QueuesShort ↔ s.QueuesShort := queuesShort_congr rfl rfl
@[simp] theorem queuesShort_verdictArrives (a : Addr) (chan verdict : Nat) :
    (s.verdictArrives a chan verdict).QueuesShort ↔ s.QueuesShort := by
  unfold verdictArrives; (repeat' split) <;> simp
@[simp] theorem queuesShort_relaystateArrives (a : Addr) (link : Nat) :
    (s.relaystateArrives a link).QueuesShort ↔ s.QueuesShort := by
  unfold relaystateArrives; split <;> simp
@[simp] theorem queuesShort_relayGone (a : Addr) : (s.relayGone a).QueuesShort ↔ s.QueuesShort := by
  unfold relayGone; split <;> simp
@[simp] theorem queuesShort_recordBeat (c : Chan) (b : BeatEntry) : (s.recordBeat c b).QueuesShort ↔ s.QueuesShort :=
  queuesShort_congr rfl rfl
@[simp] theorem queuesShort_clearOrphan (c : Chan) : (s.clearOrphan c).QueuesShort ↔ s.QueuesShort :=
  queuesShort_congr rfl rfl
@[simp] theorem queuesShort_dropHolder (c : Chan) : (s.dropHolder c).QueuesShort ↔ s.QueuesShort :=
  queuesShort_congr rfl rfl
@[simp] theorem queuesShort_freeReserved (c : Chan) : (s.freeReserved c).QueuesShort ↔ s.QueuesShort := by
  unfold freeReserved; split <;> simp
@[simp] theorem queuesShort_recordDuplicate (c : Chan) (d : Duplicate) :
    (s.recordDuplicate c d).QueuesShort ↔ s.QueuesShort := queuesShort_congr rfl rfl
@[simp] theorem queuesShort_beaconDuplicate (c : Chan) (a : Addr) (e : Nat) :
    (s.beaconDuplicate c a e).QueuesShort ↔ s.QueuesShort := by
  unfold beaconDuplicate; dsimp only; (repeat' split) <;> simp
@[simp] theorem queuesShort_claimEchoed (c : Chan) (serial : Nat) :
    (s.claimEchoed c serial).QueuesShort ↔ s.QueuesShort := by
  unfold claimEchoed; dsimp only; split <;> simp
@[simp] theorem queuesShort_endCurrent : s.endCurrent.QueuesShort ↔ s.QueuesShort := queuesShort_congr rfl rfl
@[simp] theorem queuesShort_expireExclusions (c : Chan) : (s.expireExclusions c).QueuesShort ↔ s.QueuesShort :=
  queuesShort_congr rfl rfl
@[simp] theorem queuesShort_expireIneligible (c : Chan) : (s.expireIneligible c).QueuesShort ↔ s.QueuesShort :=
  queuesShort_congr rfl rfl
@[simp] theorem queuesShort_noticeEchoed (c : Chan) (event : Nat) (h : Pos) (ret : Nat) :
    (s.noticeEchoed c event h ret).QueuesShort ↔ s.QueuesShort := by
  unfold noticeEchoed; split <;> simp
@[simp] theorem queuesShort_askEchoed (c : Chan) (d : Addr) : (s.askEchoed c d).QueuesShort ↔ s.QueuesShort :=
  queuesShort_congr rfl rfl
@[simp] theorem queuesShort_watchChannel (c : Chan) : (s.watchChannel c).QueuesShort ↔ s.QueuesShort := by
  unfold watchChannel; split <;> simp
@[simp] theorem queuesShort_setStation (st : StationState) : (s.setStation st).QueuesShort ↔ s.QueuesShort :=
  queuesShort_congr rfl rfl
@[simp] theorem queuesShort_judgeReady : s.judgeReady.QueuesShort ↔ s.QueuesShort := by
  unfold judgeReady; dsimp only; (repeat' split) <;> simp
@[simp] theorem queuesShort_adoptMark (m : Pos) (d : Int) (entry : Bool) :
    (s.adoptMark m d entry).QueuesShort ↔ s.QueuesShort := by
  unfold adoptMark; dsimp only; split <;> simp
@[simp] theorem queuesShort_timePasses (dt : Nat) : (s.timePasses dt).QueuesShort ↔ s.QueuesShort :=
  queuesShort_congr rfl rfl

/-! ### Folds of what leaves them alone, and a slot's own steps (R146) -/

theorem queuesShort_foldl {α : Type} {f : State → α → State} (h : ∀ u x, (f u x).QueuesShort ↔ u.QueuesShort)
    (xs : List α) : (xs.foldl f s).QueuesShort ↔ s.QueuesShort := by
  induction xs generalizing s with
  | nil => rfl
  | cons x xs ih => rw [List.foldl_cons, ih, h]

@[simp] theorem queuesShort_linesOff (n : SlotId) : (s.linesOff n).QueuesShort ↔ s.QueuesShort :=
  queuesShort_foldl (fun u l => by split <;> simp) _
@[simp] theorem queuesShort_skipEntries (n : SlotId) (ids : List Nat) :
    (s.skipEntries n ids).QueuesShort ↔ s.QueuesShort := queuesShort_foldl (fun u id => by simp) _
@[simp] theorem queuesShort_cutOutgoing (n : SlotId) (c : Chan) : (s.cutOutgoing n c).QueuesShort ↔ s.QueuesShort := by
  unfold cutOutgoing; dsimp only; (repeat' split) <;> simp
@[simp] theorem queuesShort_startWatch (n : SlotId) : (s.startWatch n).QueuesShort ↔ s.QueuesShort :=
  queuesShort_congr rfl rfl
@[simp] theorem queuesShort_leaveFallback (n : SlotId) (src : Source) :
    (s.leaveFallback n src).QueuesShort ↔ s.QueuesShort := by
  unfold leaveFallback; split <;> simp
@[simp] theorem queuesShort_takeCue (n : SlotId) (cue : Cue) : (s.takeCue n cue).QueuesShort ↔ s.QueuesShort := by
  unfold takeCue; dsimp only; split <;> simp
@[simp] theorem queuesShort_step1 (n : SlotId) : (s.step1 n).QueuesShort ↔ s.QueuesShort := by
  rw [step1, queuesShort_modSlot]
  exact queuesShort_foldl (fun u l => by split <;> simp) _
@[simp] theorem queuesShort_step2 (n : SlotId) : (s.step2 n).QueuesShort ↔ s.QueuesShort := by
  unfold step2; (repeat' split) <;> simp
theorem queuesShort_takeStep (n : SlotId) (i : Nat) {f : State → State} (h : ∀ u, (f u).QueuesShort ↔ u.QueuesShort) :
    (s.takeStep n i f).QueuesShort ↔ s.QueuesShort := by
  unfold takeStep; (repeat' split) <;> simp [h]
@[simp] theorem queuesShort_firstSteps (n : SlotId) : (s.firstSteps n).QueuesShort ↔ s.QueuesShort :=
  (queuesShort_takeStep n 2 fun u => by simp).trans (queuesShort_takeStep n 1 fun u => by simp)
@[simp] theorem queuesShort_issueJoinCue (n : SlotId) : (s.issueJoinCue n).QueuesShort ↔ s.QueuesShort := by
  unfold issueJoinCue; dsimp only; (repeat' split) <;> simp
@[simp] theorem queuesShort_joinFill (n : SlotId) (c : Chan) : (s.joinFill n c).QueuesShort ↔ s.QueuesShort := by
  simp [joinFill]
@[simp] theorem queuesShort_step4 (n : SlotId) : (s.step4 n).QueuesShort ↔ s.QueuesShort := by
  unfold step4; (repeat' split) <;> simp
@[simp] theorem queuesShort_fallBack (n : SlotId) (c : Chan) : (s.fallBack n c).QueuesShort ↔ s.QueuesShort :=
  queuesShort_congr rfl rfl
@[simp] theorem queuesShort_step5 (n : SlotId) : (s.step5 n).QueuesShort ↔ s.QueuesShort := by
  unfold step5; dsimp only; (repeat' split) <;> simp
@[simp] theorem queuesShort_step6 (n : SlotId) : (s.step6 n).QueuesShort ↔ s.QueuesShort := by
  unfold step6; dsimp only; (repeat' split) <;> simp
@[simp] theorem queuesShort_confirmCue (n : SlotId) (p : Pos) : (s.confirmCue n p).QueuesShort ↔ s.QueuesShort := by
  unfold confirmCue; split <;> exact queuesShort_congr rfl rfl
@[simp] theorem queuesShort_foundFault (n : SlotId) : (s.foundFault n).QueuesShort ↔ s.QueuesShort :=
  queuesShort_congr rfl rfl
@[simp] theorem queuesShort_confirmStep (n : SlotId) : (s.confirmStep n).QueuesShort ↔ s.QueuesShort := by
  unfold confirmStep; (repeat' split) <;> simp
@[simp] theorem queuesShort_issueOcc (n : SlotId) (o : Occ) : (s.issueOcc n o).QueuesShort ↔ s.QueuesShort := by
  unfold issueOcc; dsimp only; split <;> simp
@[simp] theorem queuesShort_issueDue (n : SlotId) (k : Nat) : (issueDue n k s).QueuesShort ↔ s.QueuesShort := by
  induction k generalizing s with
  | zero => rfl
  | succ k ih => unfold issueDue; (repeat' split) <;> simp [ih]
@[simp] theorem queuesShort_step8 (n : SlotId) : (s.step8 n).QueuesShort ↔ s.QueuesShort := queuesShort_issueDue n 64
@[simp] theorem queuesShort_cueArmed (n : SlotId) : (s.cueArmed n).QueuesShort ↔ s.QueuesShort := by
  unfold cueArmed; dsimp only; (repeat' split) <;> simp
@[simp] theorem queuesShort_step9 (n : SlotId) : (s.step9 n).QueuesShort ↔ s.QueuesShort := by
  unfold step9; dsimp only; split <;> simp
@[simp] theorem queuesShort_tallyRises (n : SlotId) : (s.tallyRises n).QueuesShort ↔ s.QueuesShort := by
  unfold tallyRises; dsimp only; (repeat' split) <;> simp
@[simp] theorem queuesShort_tallyFalls (n : SlotId) : (s.tallyFalls n).QueuesShort ↔ s.QueuesShort := by
  unfold tallyFalls; dsimp only; (repeat' split) <;> simp
@[simp] theorem queuesShort_handOver (cfg : Settings) : (s.handOver cfg).QueuesShort ↔ s.QueuesShort :=
  calc (s.handOver cfg).QueuesShort
    _ ↔ (forChans (fun c t => t.watchChannel c) _).QueuesShort := queuesShort_congr rfl rfl
    _ ↔ s.QueuesShort := by
      rw [forChans, queuesShort_foldl fun u c => by simp, queuesShort_setLoader]
      split <;> simp

end Sys2Proof.Machine.State

/-! ## What enters and leaves the queues keeps their depths (R40, R58, R166, R174, R182, R183)

A message enters a class queue only where a free entry was seen, an edit is parked and an image request served only where
there is room, and only RELEASEs and HANDOVERs wait for class 0. -/

namespace Sys2Proof.Machine.State

variable {s : State}

/-! ### The class queues -/

theorem QueuesShort.queue_length (h : s.QueuesShort) (k : Cls) : (s.queue k).length ≤ depth k := by
  cases k with
  | zero => exact h.class0
  | one => exact h.class1
  | two => exact h.class2

@[simp] theorem QueuesShort.setQueue (h : s.QueuesShort) {k : Cls} {q : List QEntry} (short : q.length ≤ depth k) :
    (s.setQueue k q).QueuesShort := by
  obtain ⟨class0, class1, class2, parked, service, outbox, cancels⟩ := h
  cases k with
  | zero => exact ⟨short, class1, class2, parked, service, outbox, cancels⟩
  | one => exact ⟨class0, short, class2, parked, service, outbox, cancels⟩
  | two => exact ⟨class0, class1, short, parked, service, outbox, cancels⟩

/-- What changes the line interface but not what waits in it. -/
theorem queuesShort_setLine (f : Line → Line) (q0 : (f s.line).q0 = s.line.q0) (q1 : (f s.line).q1 = s.line.q1)
    (q2 : (f s.line).q2 = s.line.q2) (outbox : (f s.line).outbox = s.line.outbox)
    (cancels : (f s.line).cancels = s.line.cancels) : (s.setLine f).QueuesShort ↔ s.QueuesShort := by
  constructor
  · rintro ⟨class0, class1, class2, parked, service, out, back⟩
    exact ⟨q0 ▸ class0, q1 ▸ class1, q2 ▸ class2, parked, service, outbox ▸ out, cancels ▸ back⟩
  · rintro ⟨class0, class1, class2, parked, service, out, back⟩
    exact ⟨q0.symm ▸ class0, q1.symm ▸ class1, q2.symm ▸ class2, parked, service, outbox.symm ▸ out,
      cancels.symm ▸ back⟩

@[simp] theorem queuesShort_startWait : s.startWait.QueuesShort ↔ s.QueuesShort :=
  queuesShort_setLine _ rfl rfl rfl rfl rfl
@[simp] theorem queuesShort_holdBeacon (b : Bool) :
    (s.setLine fun l => { l with beaconHeld := b }).QueuesShort ↔ s.QueuesShort := queuesShort_setLine _ rfl rfl rfl rfl rfl
@[simp] theorem queuesShort_beaconTimer (n : Nat) :
    (s.setLine fun l => { l with beaconTimer := n }).QueuesShort ↔ s.QueuesShort := queuesShort_setLine _ rfl rfl rfl rfl rfl
@[simp] theorem queuesShort_clearCourtesy (k : Cls) : (s.clearCourtesy k).QueuesShort ↔ s.QueuesShort := by
  cases k <;> exact queuesShort_setLine _ rfl rfl rfl rfl rfl
@[simp] theorem queuesShort_setCourtesy (k : Cls) : (s.setCourtesy k).QueuesShort ↔ s.QueuesShort := by
  cases k <;> exact queuesShort_setLine _ rfl rfl rfl rfl rfl
@[simp] theorem queuesShort_lineBecomesIdle : s.lineBecomesIdle.QueuesShort ↔ s.QueuesShort :=
  queuesShort_startWait.trans (queuesShort_setLine _ rfl rfl rfl rfl rfl)
@[simp] theorem queuesShort_lineBecomesBusy : s.lineBecomesBusy.QueuesShort ↔ s.QueuesShort := by
  unfold lineBecomesBusy
  dsimp only
  split
  · rw [queuesShort_clearCourtesy]; exact queuesShort_setLine _ rfl rfl rfl rfl rfl
  · exact queuesShort_setLine _ rfl rfl rfl rfl rfl
@[simp] theorem queuesShort_echoLost : s.echoLost.QueuesShort ↔ s.QueuesShort := queuesShort_setLine _ rfl rfl rfl rfl rfl

@[simp] theorem QueuesShort.enqueue (h : s.QueuesShort) {m : OutMsg} (room : s.hasRoom m.cls = true) :
    (s.enqueue m).QueuesShort := by
  rw [hasRoom_iff] at room
  exact queuesShort_startWait.mpr (h.setQueue (by simpa using room))

@[simp] theorem QueuesShort.takeBack (h : s.QueuesShort) (k : Cls) (p : OutMsg → Bool) : (s.takeBack k p).QueuesShort :=
  h.setQueue ((List.length_filter_le ..).trans (h.queue_length k))

@[simp] theorem QueuesShort.replaceWaiting (h : s.QueuesShort) (p : OutMsg → Bool) (m : OutMsg) :
    (s.replaceWaiting p m).QueuesShort := h.setQueue ((List.length_map _).le.trans (h.queue_length .one))

/-- A full queue that gives up a waiting REPLY has a free entry (R183). -/
@[simp] theorem QueuesShort.offerReply (h : s.QueuesShort) {m : OutMsg} (cls : m.cls = .one) :
    (s.offerReply m).QueuesShort := by
  unfold State.offerReply
  split
  · exact h.enqueue (by rwa [cls])
  · split
    next waits =>
      have shorter := dropFirst_length isReply (s.queue .one) waits
      have short := h.queue_length .one
      refine (h.setQueue (by omega)).enqueue ?_
      rw [hasRoom_iff, setQueue_queue, cls, if_pos rfl]
      omega
    · exact h

@[simp] theorem QueuesShort.leaveHead (h : s.QueuesShort) : s.leaveHead.QueuesShort := by
  unfold State.leaveHead
  split
  next k _ =>
    rw [queuesShort_setCourtesy, queuesShort_setLine _ rfl rfl rfl rfl rfl]
    exact h.setQueue ((List.drop_sublist ..).length_le.trans (h.queue_length k))
  · exact h

@[simp] theorem QueuesShort.startSending (h : s.QueuesShort) (k : Cls) : (s.startSending k).QueuesShort := by
  unfold State.startSending
  split
  next e rest head =>
    have short := h.queue_length k
    rw [head] at short
    refine QueuesShort.congr (s := (s.setQueue k (⟨e.msg, true⟩ :: rest)).setLine fun l =>
      { l with sending := some k, idle := false }) ?_ rfl rfl
    rw [queuesShort_setLine _ rfl rfl rfl rfl rfl]
    exact h.setQueue short
  · exact queuesShort_startWait.mpr h

@[simp] theorem QueuesShort.waitRunsOut (h : s.QueuesShort) : s.waitRunsOut.QueuesShort := by
  unfold State.waitRunsOut
  split
  next w _ =>
    refine QueuesShort.startSending ?_ w.cls
    rw [queuesShort_setLine _ rfl rfl rfl rfl rfl, queuesShort_clearCourtesy]
    exact h
  · exact h

/-! ### What is offered to classes 0 and 1 (R166, R174, R183) -/

theorem cls_of_release {m : OutMsg} (h : m.kind = .release) : m.cls = .zero := by
  cases m
  case release => rfl
  all_goals cases h
theorem cls_of_handover {m : OutMsg} (h : m.kind = .handover) : m.cls = .zero := by
  cases m
  case handover => rfl
  all_goals cases h

/-- Draining a waiting list of class 0 keeps the depths, and what is left of it is its tail. -/
theorem QueuesShort.drainInto {ms : List OutMsg} (urgent : ∀ m ∈ ms, m.cls = .zero) :
    ∀ {s : State}, s.QueuesShort → (drainInto ms s).1.QueuesShort ∧ (drainInto ms s).2 ⊆ ms := by
  induction ms with
  | nil => exact fun h => ⟨h, fun _ => id⟩
  | cons m ms ih =>
    intro s h
    unfold State.drainInto
    split
    next room =>
      obtain ⟨short, left⟩ := 
        ih (fun x hx => urgent x (List.mem_cons_of_mem _ hx)) (h.enqueue (by rwa [urgent m List.mem_cons_self]))
      exact ⟨short, fun x hx => List.mem_cons_of_mem _ (left hx)⟩
    · exact ⟨h, fun _ => id⟩

@[simp] theorem QueuesShort.offerOutbox (h : s.QueuesShort) : s.offerOutbox.QueuesShort := by
  obtain ⟨short, left⟩ := h.drainInto fun m hm => cls_of_release (h.outbox m hm)
  exact { short with outbox := fun m hm => h.outbox m (left hm) }

@[simp] theorem QueuesShort.offerCancels (h : s.QueuesShort) : s.offerCancels.QueuesShort := by
  have before := h.offerOutbox
  obtain ⟨short, left⟩ := before.drainInto fun m hm => cls_of_handover (before.cancels m hm)
  exact { short with cancels := fun m hm => before.cancels m (left hm) }

@[simp] theorem QueuesShort.offerRelease (h : s.QueuesShort) {m : OutMsg} (release : m.kind = .release) :
    (s.offerRelease m).QueuesShort := by
  have before := h.offerOutbox
  unfold State.offerRelease
  dsimp only
  split
  next room => exact before.enqueue (by rwa [cls_of_release release])
  · exact { before with
      outbox := fun x hx => (List.mem_append.mp hx).elim (before.outbox x) fun last => List.mem_singleton.mp last ▸ release }

@[simp] theorem QueuesShort.offerCancel (h : s.QueuesShort) {m : OutMsg} (handover : m.kind = .handover) :
    (s.offerCancel m).QueuesShort := by
  have before := h.offerCancels
  unfold State.offerCancel
  dsimp only
  split
  next room => exact before.enqueue (by rwa [cls_of_handover handover])
  · exact { before with
      cancels := fun x hx => (List.mem_append.mp hx).elim (before.cancels x) fun last => List.mem_singleton.mp last ▸ handover }

@[simp] theorem QueuesShort.offerBeacon (h : s.QueuesShort) : s.offerBeacon.QueuesShort := by
  unfold State.offerBeacon
  split
  · simp [h]
  · split
    next room => simpa using h.enqueue (m := .beacon) room
    · simpa using h
@[simp] theorem QueuesShort.beaconRetry (h : s.QueuesShort) : s.beaconRetry.QueuesShort := by
  unfold State.beaconRetry; split <;> simp [h]
@[simp] theorem QueuesShort.beaconDue (h : s.QueuesShort) : s.beaconDue.QueuesShort := by
  unfold State.beaconDue; split <;> simp [h]
@[simp] theorem QueuesShort.putVerdict (h : s.QueuesShort) (p : ProbeId) : (s.putVerdict p).QueuesShort := by
  unfold State.putVerdict
  dsimp only
  split
  next c _ _ =>
    split
    · simp [h]
    · split
      next room => simpa using h.enqueue (m := .verdict c (s.probe p).verdict) room
      · exact h
  · exact h
@[simp] theorem QueuesShort.beforeVerdict (h : s.QueuesShort) (k : Nat) : (s.beforeVerdict k).QueuesShort := by
  unfold State.beforeVerdict
  split
  · exact forProbes_keeps (P := QueuesShort) (fun p t ht => by split <;> simp [ht]) _ h.beaconRetry
  · exact h
@[simp] theorem QueuesShort.offerVerdict (h : s.QueuesShort) (p : ProbeId) : (s.offerVerdict p).QueuesShort :=
  (h.beforeVerdict p.val).putVerdict p
@[simp] theorem QueuesShort.answer (h : s.QueuesShort) (dst : Addr) (tag : Nat) (code : ResultCode)
    (items : List (List Byte)) : (s.answer dst tag code items).QueuesShort := by
  unfold State.answer
  dsimp only
  generalize (packItems [] items).zipIdx = parts
  induction parts generalizing s with
  | nil => exact h
  | cons part parts ih => exact ih (h.offerReply rfl)

/-! ### The image server and the walks (R24, R25, R58, R59) -/

theorem QueuesShort.setRepl (h : s.QueuesShort) {f : Replication → Replication} (parked : (f s.repl).parked.length ≤ 16)
    (service : (f s.repl).service.length ≤ 4) : (s.setRepl f).QueuesShort := { h with parked, service }

/-- What changes the replication unit but neither the parked edits nor the image requests served. -/
@[simp] theorem QueuesShort.setServing (h : s.QueuesShort) (sv : Option Serving) :
    (s.setRepl fun r => { r with serving := sv }).QueuesShort := h.setRepl h.parked h.service
@[simp] theorem QueuesShort.setZeroAnswers (h : s.QueuesShort) (xs : List (Addr × Byte)) :
    (s.setRepl fun r => { r with zeroAnswers := xs }).QueuesShort := h.setRepl h.parked h.service
@[simp] theorem QueuesShort.dropHead (h : s.QueuesShort) :
    (s.setRepl fun r => { r with serving := none, service := r.service.drop 1 }).QueuesShort :=
  h.setRepl h.parked ((List.drop_sublist ..).length_le.trans h.service)

@[simp] theorem QueuesShort.imageTouched (h : s.QueuesShort) (c : Chan) : (s.imageTouched c).QueuesShort := by
  unfold State.imageTouched; (repeat' split) <;> simp [h]
@[simp] theorem QueuesShort.epochTouched (h : s.QueuesShort) (c : Chan) (epoch : Nat) :
    (s.epochTouched c epoch).QueuesShort := by unfold State.epochTouched; split <;> simp [h]
@[simp] theorem QueuesShort.answerNone (h : s.QueuesShort) (dst : Addr) (chan : Byte) :
    (s.answerNone dst chan).QueuesShort := by
  unfold State.answerNone
  split
  next free =>
    have room : s.hasRoom .two = true := by simp_all
    exact (h.enqueue (m := .imageNone dst chan s.freeCount) room).congr rfl rfl
  · exact h.setRepl h.parked h.service
@[simp] theorem QueuesShort.dropService (h : s.QueuesShort) (c : Chan) : (s.dropService c).QueuesShort := by
  unfold State.dropService
  split
  next dst d rest head =>
    have fewer : rest.length ≤ 4 := by have := h.service; rw [head] at this; exact (Nat.le_succ _).trans this
    dsimp only
    split
    · refine QueuesShort.answerNone ?_ dst _
      split
      · exact (h.takeBack .two _).setRepl h.parked fewer
      · exact h.setRepl h.parked fewer
    · exact h
  · exact h
@[simp] theorem QueuesShort.trim (h : s.QueuesShort) (c : Chan) : (s.trim c).QueuesShort := by
  unfold State.trim; dsimp only; split <;> simp [h]
@[simp] theorem QueuesShort.walkOwn (h : s.QueuesShort) (c : Chan) : (s.walkOwn c).QueuesShort := by
  unfold State.walkOwn; split <;> simp [h]
theorem QueuesShort.foldl_walkOwn (h : s.QueuesShort) (fs : List Chan) :
    (fs.foldl (fun s f => s.walkOwn f) s).QueuesShort := by
  induction fs generalizing s with
  | nil => exact h
  | cons f fs ih => exact ih (h.walkOwn f)
@[simp] theorem QueuesShort.walk (h : s.QueuesShort) (c : Chan) : (s.walk c).QueuesShort := (h.walkOwn c).foldl_walkOwn _
@[simp] theorem QueuesShort.writeAnchor (h : s.QueuesShort) (c : Chan) (a : Anchor) : (s.writeAnchor c a).QueuesShort := by
  simp [State.writeAnchor, h]
@[simp] theorem QueuesShort.removeAnchor (h : s.QueuesShort) (c : Chan) : (s.removeAnchor c).QueuesShort := by
  simp [State.removeAnchor, h]
@[simp] theorem QueuesShort.expireAnchor (h : s.QueuesShort) (c : Chan) : (s.expireAnchor c).QueuesShort := by
  unfold State.expireAnchor; split <;> simp [h]
@[simp] theorem QueuesShort.frameStore (h : s.QueuesShort) (c : Chan) : (s.frameStore c).QueuesShort := by
  have trimmed : ((s.markPast c).trim c).QueuesShort := by simp [h]
  unfold State.frameStore
  dsimp only
  repeat' split
  · exact h.walk c
  · exact trimmed.foldl_walkOwn _
  · exact trimmed
  · exact h
theorem QueuesShort.walkRelated (h : s.QueuesShort) (old : State) (c : Chan) : (s.walkRelated old c).QueuesShort :=
  forChans_keeps (P := QueuesShort) (fun d t ht => by split <;> simp [ht]) s h

/-! ### Image requests, replica states and the parked edits (R39 to R42, R49 to R57) -/

@[simp] theorem QueuesShort.freeParked (h : s.QueuesShort) (c : Chan) (p : Parked → Bool) :
    (s.freeParked c p).QueuesShort := h.setRepl ((List.length_filter_le ..).trans h.parked) h.service
@[simp] theorem QueuesShort.putAsk (h : s.QueuesShort) (c : Chan) : (s.putAsk c).QueuesShort := by
  unfold State.putAsk
  split
  · split
    next a _ _ _ =>
      split
      next room => simpa using h.enqueue (m := .imagereq c a) room
      · exact h
    · exact h
  · exact h
@[simp] theorem QueuesShort.beforeAsk (h : s.QueuesShort) (c : Chan) : (s.beforeAsk c).QueuesShort := by
  unfold State.beforeAsk
  split
  · exact forChans_keeps (P := QueuesShort) (fun d t ht => by split <;> simp [ht]) _ (h.beforeVerdict 4)
  · exact h
@[simp] theorem QueuesShort.askTarget (h : s.QueuesShort) (c : Chan) : (s.askTarget c).QueuesShort :=
  (h.beforeAsk c).putAsk c
@[simp] theorem QueuesShort.chooseTarget (h : s.QueuesShort) (c : Chan) : (s.chooseTarget c).QueuesShort := by
  unfold State.chooseTarget; dsimp only; (repeat' split) <;> simp [h]
@[simp] theorem QueuesShort.newRound (h : s.QueuesShort) (c : Chan) : (s.newRound c).QueuesShort := by
  simp [State.newRound, h]
@[simp] theorem QueuesShort.beginRequest (h : s.QueuesShort) (c : Chan) : (s.beginRequest c).QueuesShort := by
  unfold State.beginRequest; split <;> simp [h]
@[simp] theorem QueuesShort.roundAgain (h : s.QueuesShort) (c : Chan) : (s.roundAgain c).QueuesShort := by
  unfold State.roundAgain; split <;> simp [h]
@[simp] theorem QueuesShort.setStale (h : s.QueuesShort) (c : Chan) (cause : StaleCause) :
    (s.setStale c cause).QueuesShort := by unfold State.setStale; dsimp only; (repeat' split) <;> simp [h]
@[simp] theorem QueuesShort.makeStale (h : s.QueuesShort) (c : Chan) (cause : StaleCause) :
    (s.makeStale c cause).QueuesShort := (h.setStale c cause).beginRequest c
@[simp] theorem QueuesShort.takeChanges (h : s.QueuesShort) (c : Chan) (epoch : Nat) :
    (s.takeChanges c epoch).QueuesShort := by
  have touched := h.epochTouched c epoch
  unfold State.takeChanges; dsimp only; split <;> simp [touched]
@[simp] theorem QueuesShort.mainReturns (h : s.QueuesShort) (c : Chan) (epoch : Option Nat) :
    (s.mainReturns c epoch).QueuesShort := by
  have touched := h.epochTouched c (epoch.getD (s.chan c).epoch)
  simp [State.mainReturns, touched]
@[simp] theorem QueuesShort.loadTimeout (h : s.QueuesShort) (c : Chan) : (s.loadTimeout c).QueuesShort := by
  unfold State.loadTimeout; (repeat' split) <;> simp [h]
@[simp] theorem QueuesShort.targetTimeout (h : s.QueuesShort) (c : Chan) : (s.targetTimeout c).QueuesShort := by
  unfold State.targetTimeout; (repeat' split) <;> simp [h]
@[simp] theorem QueuesShort.roundRestart (h : s.QueuesShort) (c : Chan) : (s.roundRestart c).QueuesShort := by
  unfold State.roundRestart; (repeat' split) <;> simp [h]
@[simp] theorem QueuesShort.parkedTimeout (h : s.QueuesShort) (c : Chan) : (s.parkedTimeout c).QueuesShort := by
  have stale := h.setStale c .gap
  unfold State.parkedTimeout; (repeat' split) <;> simp [h, stale]
@[simp] theorem QueuesShort.park (h : s.QueuesShort) (c : Chan) (src : Addr) (epoch seq : Nat) (op : Byte)
    (operands : List Byte) : (s.park c src epoch seq op operands).QueuesShort := by
  unfold State.park
  split
  next room => exact h.setRepl (by simpa [parkRoom] using room) h.service
  · exact h
@[simp] theorem QueuesShort.applyEdit (h : s.QueuesShort) (c : Chan) (e : EditOp) : (s.applyEdit c e).QueuesShort := by
  by_cases profile : ∃ p, e = .setProfile p
  · obtain ⟨p, rfl⟩ := profile
    exact QueuesShort.walkRelated (by simp [h]) _ _
  · push Not at profile
    have edited : (s.editedList c e).QueuesShort := h.congr (by unfold editedList; split <;> rfl) (by unfold editedList; split <;> rfl)
    rw [applyEdit_eq s c profile]
    simp [State.edited, edited]
@[simp] theorem QueuesShort.advanceSeq (h : s.QueuesShort) (c : Chan) : (s.advanceSeq c).QueuesShort := by
  unfold State.advanceSeq; split <;> simp [h]
@[simp] theorem QueuesShort.takeDue (h : s.QueuesShort) (c : Chan) (op : Byte) (operands : List Byte) :
    (s.takeDue c op operands).QueuesShort := by
  obtain ⟨e, _, eq⟩ | ⟨code, eq⟩ := s.takeDue_cases c op operands <;> rw [eq] <;> simp [h]

theorem searchDue_sublist (c : Chan) (epoch n : Nat) (l : List Parked) : (searchDue c epoch n l).1.Sublist l := by
  induction l with
  | nil => exact .refl _
  | cons e l ih =>
    unfold searchDue
    dsimp only
    repeat' split
    · exact List.sublist_cons_self e l
    · exact ih.cons e
    · exact ih.cons_cons e

@[simp] theorem QueuesShort.drainParked (h : s.QueuesShort) (c : Chan) (k : Nat) : (drainParked c k s).QueuesShort := by
  induction k generalizing s with
  | zero => exact h
  | succ k ih =>
    unfold Machine.drainParked
    dsimp only
    have searched := h.setRepl (f := fun r =>
      { r with parked := (searchDue c (s.chan c).epoch (s.chan c).nextSeq s.repl.parked).1 })
      ((searchDue_sublist ..).length_le.trans h.parked) h.service
    repeat' split
    · exact ih (searched.takeDue ..)
    · exact searched
    · exact h
@[simp] theorem QueuesShort.drain (h : s.QueuesShort) (c : Chan) : (s.drain c).QueuesShort := h.drainParked c 17
@[simp] theorem QueuesShort.editAbove (h : s.QueuesShort) (c : Chan) : (s.editAbove c).QueuesShort := by
  unfold State.editAbove; split <;> simp [h]
@[simp] theorem QueuesShort.editNotCurrent (h : s.QueuesShort) (c : Chan) (src : Addr) (epoch seq : Nat) (op : Byte)
    (operands : List Byte) : (s.editNotCurrent c src epoch seq op operands).QueuesShort := by
  unfold State.editNotCurrent; (repeat' split) <;> simp [h]
@[simp] theorem QueuesShort.editCurrent (h : s.QueuesShort) (c : Chan) (src : Addr) (epoch seq : Nat) (op : Byte)
    (operands : List Byte) : (s.editCurrent c src epoch seq op operands).QueuesShort := by
  have stale := h.setStale c .overflow
  unfold State.editCurrent; dsimp only; (repeat' split) <;> simp [h, stale]
@[simp] theorem QueuesShort.editArrives (h : s.QueuesShort) (c : Chan) (src : Addr) (epoch seq : Nat) (op : Byte)
    (operands : List Byte) : (s.editArrives c src epoch seq op operands).QueuesShort := by
  unfold State.editArrives; dsimp only; (repeat' split) <;> simp [h]

/-! ### Images (R54 to R59) -/

@[simp] theorem QueuesShort.abandonFor (h : s.QueuesShort) (c : Chan) (cause : StaleCause) :
    (s.abandonFor c cause).QueuesShort := (h.setStale c cause).chooseTarget c
@[simp] theorem QueuesShort.install (h : s.QueuesShort) (c : Chan) (sh : Shadow) : (s.install c sh).QueuesShort := by
  unfold State.install
  dsimp only
  refine QueuesShort.drain (QueuesShort.freeParked ?_ c _) c
  rw [queuesShort_modChan]
  refine QueuesShort.walkRelated (QueuesShort.walk (QueuesShort.imageTouched ?_ c) c) _ c
  split <;> simp [h]
@[simp] theorem QueuesShort.completeLoad (h : s.QueuesShort) (c : Chan) : (s.completeLoad c).QueuesShort := by
  unfold State.completeLoad; (repeat' split) <;> simp [h]
@[simp] theorem QueuesShort.storeSegment (h : s.QueuesShort) (c : Chan) (g : Segment) :
    (s.storeSegment c g).QueuesShort := by
  have stored (free : List Nat) (f : ChannelRec → ChannelRec) : (({ s with free } : State).modChan c f).QueuesShort :=
    h.congr rfl rfl
  unfold State.storeSegment
  split
  · exact h
  · dsimp only
    split
    · exact h.abandonFor c _
    · split
      · exact (stored ..).abandonFor c _
      · exact (stored ..).completeLoad c
@[simp] theorem QueuesShort.takeSegment (h : s.QueuesShort) (c : Chan) (g : Segment) :
    (s.takeSegment c g).QueuesShort := by
  unfold State.takeSegment; dsimp only; (repeat' split) <;> simp [h]
@[simp] theorem QueuesShort.imageArrives (h : s.QueuesShort) (c : Chan) (src : Addr) (g : Segment) :
    (s.imageArrives c src g).QueuesShort := by
  unfold State.imageArrives; dsimp only; (repeat' split) <;> simp [h]
@[simp] theorem QueuesShort.imagereqArrives (h : s.QueuesShort) (src : Addr) (byte : Byte) :
    (s.imagereqArrives src byte).QueuesShort := by
  unfold State.imagereqArrives
  repeat' split
  case h_1.isFalse.isFalse.isTrue room => exact h.setRepl h.parked (by simpa using room)
  all_goals simp [h]
@[simp] theorem QueuesShort.startImage (h : s.QueuesShort) (c : Chan) : (s.startImage c).QueuesShort := by
  unfold State.startImage; exact h.setRepl h.parked h.service
@[simp] theorem QueuesShort.queueSegment (h : s.QueuesShort) (room : s.hasRoom .two = true) (dst : Addr) (c : Chan) :
    (s.queueSegment dst c).QueuesShort := by
  unfold State.queueSegment
  repeat' split
  case h_1.isTrue => exact (h.setServing _).enqueue room
  all_goals exact h
@[simp] theorem QueuesShort.serveNext (h : s.QueuesShort) : s.serveNext.QueuesShort := by
  unfold State.serveNext
  split
  next room =>
    split
    · exact ((h.setZeroAnswers []).answerNone _ _).setZeroAnswers _
    · split
      · split
        · exact QueuesShort.queueSegment (h.startImage _) room _ _
        · exact h.queueSegment room _ _
      · exact h.dropService _
    · exact h
  · exact h
@[simp] theorem QueuesShort.imageDone (h : s.QueuesShort) (m : OutMsg) : (s.imageDone m).QueuesShort := by
  unfold State.imageDone
  repeat' split
  · exact h.setRepl h.parked ((List.drop_sublist ..).length_le.trans h.service)
  all_goals exact h

end Sys2Proof.Machine.State

/-! ## Watching, claims, releases and the slots keep the depths (R60 to R126, R146 to R174) -/

namespace Sys2Proof.Machine.State

variable {s : State}

/-! ### Health, holders and hearing -/

@[simp] theorem QueuesShort.authorityTest (h : s.QueuesShort) (c : Chan) : (s.authorityTest c).QueuesShort := by
  unfold State.authorityTest; (repeat' split) <;> simp [h]
@[simp] theorem QueuesShort.evaluate (h : s.QueuesShort) (c : Chan) : (s.evaluate c).QueuesShort := by
  unfold State.evaluate; dsimp only; (repeat' split) <;> simp [h]
@[simp] theorem QueuesShort.frameWatch (h : s.QueuesShort) (c : Chan) : (s.frameWatch c).QueuesShort := by
  simp [State.frameWatch, h]
@[simp] theorem QueuesShort.clearHolder (h : s.QueuesShort) (c : Chan) : (s.clearHolder c).QueuesShort := by
  simp [State.clearHolder, h]
@[simp] theorem QueuesShort.orphanHolder (h : s.QueuesShort) (c : Chan) (a : Addr) : (s.orphanHolder c a).QueuesShort := by
  simp [State.orphanHolder, h]
@[simp] theorem QueuesShort.setHolder (h : s.QueuesShort) (c : Chan) (a : Addr) (epoch : Nat) (claim : Option Claim) :
    (s.setHolder c a epoch claim).QueuesShort := by simp [State.setHolder, h]
@[simp] theorem QueuesShort.acceptTake (h : s.QueuesShort) (c : Chan) (a : Addr) (epoch : Nat) (claim : Option Claim) :
    (s.acceptTake c a epoch claim).QueuesShort := by unfold State.acceptTake; dsimp only; split <;> simp [h]
@[simp] theorem QueuesShort.hear (h : s.QueuesShort) (a : Addr) : (s.hear a).QueuesShort := by
  unfold State.hear
  dsimp only
  split
  · simp [h]
  · exact forChans_keeps (P := QueuesShort) (fun c t ht => by split <;> simp [ht]) _ (by simp [h])
@[simp] theorem QueuesShort.peerGone (h : s.QueuesShort) (a : Addr) : (s.peerGone a).QueuesShort := by
  unfold State.peerGone
  split
  · rw [queuesShort_modPeer]
    exact forChans_keeps (P := QueuesShort) (fun c t ht => by split <;> simp [ht]) _ (by simp [h])
  · exact h
@[simp] theorem QueuesShort.silences (h : s.QueuesShort) : s.silences.QueuesShort := by
  rw [State.silences, queuesShort_foldl fun u a => by simp]
  generalize (List.range 16).map (· + 1) = peers
  induction peers generalizing s with
  | nil => exact h
  | cons a peers ih => exact ih (h.peerGone a)
@[simp] theorem QueuesShort.judgeBeat (h : s.QueuesShort) (c : Chan) (b : BeatEntry) : (s.judgeBeat c b).QueuesShort := by
  unfold State.judgeBeat; dsimp only; (repeat' split) <;> simp [h]
@[simp] theorem QueuesShort.beatArrives (h : s.QueuesShort) (raw : RawBeat) : (s.beatArrives raw).QueuesShort := by
  unfold State.beatArrives; (repeat' split) <;> simp [h]
theorem QueuesShort.foldl_beatArrives (h : s.QueuesShort) (entries : List RawBeat) :
    (entries.foldl State.beatArrives s).QueuesShort := by
  induction entries generalizing s with
  | nil => exact h
  | cons b entries ih => exact ih (h.beatArrives b)

/-! ### Probes -/

@[simp] theorem QueuesShort.giveVerdict (h : s.QueuesShort) (p : ProbeId) : (s.giveVerdict p).QueuesShort := by
  unfold State.giveVerdict; dsimp only; split <;> simp [h]
@[simp] theorem QueuesShort.formVerdict (h : s.QueuesShort) (p : ProbeId) (v : Verdict) :
    (s.formVerdict p v).QueuesShort := by unfold State.formVerdict; split <;> simp [h]
@[simp] theorem QueuesShort.gridArrives (h : s.QueuesShort) (probe : Nat) (lock : Bool) (cells : List Byte) :
    (s.gridArrives probe lock cells).QueuesShort := by
  have judged (p : ProbeId) (c : Chan) : (s.judgeGrid p c lock cells).QueuesShort := by
    unfold State.judgeGrid; dsimp only; split <;> simp [h]
  unfold State.gridArrives; (repeat' split) <;> simp [h, judged]
@[simp] theorem QueuesShort.probeGone (h : s.QueuesShort) (p : ProbeId) : (s.probeGone p).QueuesShort := by
  unfold State.probeGone; split <;> simp [h]
@[simp] theorem QueuesShort.repeatVerdict (h : s.QueuesShort) (p : ProbeId) : (s.repeatVerdict p).QueuesShort := by
  unfold State.repeatVerdict; split <;> simp [h]

/-! ### The claim engine (R113 to R123) -/

@[simp] theorem QueuesShort.startClaim (h : s.QueuesShort) (room : s.hasRoom .zero = true) (c : Chan) (forced : Bool) :
    (s.startClaim c forced).QueuesShort := by
  unfold State.startClaim
  split
  · exact h
  · exact QueuesShort.enqueue (by simp [h]) room
@[simp] theorem QueuesShort.endClaim (h : s.QueuesShort) (c : Chan) (after : Contest) (rival : Option Rival) :
    (s.endClaim c after rival).QueuesShort := by simp [State.endClaim, h]
@[simp] theorem QueuesShort.beforeClaim (h : s.QueuesShort) : s.beforeClaim.QueuesShort := by
  unfold State.beforeClaim; split <;> simp [h]
@[simp] theorem QueuesShort.runLatch (h : s.QueuesShort) : s.runLatch.QueuesShort := by
  unfold State.runLatch
  dsimp only
  repeat' split
  next room => exact QueuesShort.startClaim (s := s.beforeClaim.setClaims _) (by simp [h]) room _ _
  all_goals simp [h]
@[simp] theorem QueuesShort.look (h : s.QueuesShort) : s.look.QueuesShort := by
  unfold State.look
  dsimp only
  repeat' split
  next room => exact h.runLatch.beforeClaim.startClaim room _ _
  all_goals simp [h]
@[simp] theorem QueuesShort.review (h : s.QueuesShort) : s.review.QueuesShort := by
  unfold State.review; (repeat' split) <;> simp [h]
@[simp] theorem QueuesShort.contestOnTake (h : s.QueuesShort) (c : Chan) (accepted : Bool) (rival : Rival) :
    (s.contestOnTake c accepted rival).QueuesShort := by unfold State.contestOnTake; (repeat' split) <;> simp [h]
@[simp] theorem QueuesShort.offerTake (h : s.QueuesShort) : s.offerTake.QueuesShort := by
  unfold State.offerTake
  dsimp only
  repeat' split
  next room => exact QueuesShort.enqueue (by simp [h]) room
  all_goals simp [h]
@[simp] theorem QueuesShort.deadWinner (h : s.QueuesShort) (c : Chan) : (s.deadWinner c).QueuesShort := by
  unfold State.deadWinner; dsimp only; (repeat' split) <;> simp [h]
@[simp] theorem QueuesShort.frameClaims (h : s.QueuesShort) : s.frameClaims.QueuesShort := by
  unfold State.frameClaims
  exact QueuesShort.look (QueuesShort.review (QueuesShort.offerTake
    (forChans_keeps (P := QueuesShort) (fun c t ht => by simp [ht]) s h)))

/-- A forced claim is queued only with a free entry of class 0, and leaves the queues as they are without one (R122). -/
@[simp] theorem QueuesShort.force (h : s.QueuesShort) (c : Chan) : (s.force c).1.QueuesShort := by
  have start : (s.forceStart c).1.QueuesShort := by
    unfold State.forceStart
    repeat' split
    next room => exact h.startClaim room c true
    all_goals simp [h]
  have resend : (s.forceResend c).1.QueuesShort := by
    unfold State.forceResend
    dsimp only
    repeat' split
    next room => exact QueuesShort.enqueue (by simp [h]) room
    all_goals exact h
  unfold State.force; dsimp only; (repeat' split) <;> simp [h, start, resend]

/-! ### What peers send -/

@[simp] theorem QueuesShort.beaconHolder (h : s.QueuesShort) (c : Chan) (a : Addr) (e : Nat) :
    (s.beaconHolder c a e).QueuesShort := by
  have held := h.setHolder c a e none
  unfold State.beaconHolder; dsimp only; split <;> simp [held]
@[simp] theorem QueuesShort.beaconEntry (h : s.QueuesShort) (a : Addr) (c : Chan) (e : Nat) :
    (s.beaconEntry a c e).QueuesShort := by unfold State.beaconEntry; (repeat' split) <;> simp [h]
theorem QueuesShort.foldl_beaconEntry (h : s.QueuesShort) (a : Addr) (listed : List (Chan × Nat)) :
    (listed.foldl (fun t x => t.beaconEntry a x.1 x.2) s).QueuesShort := by
  induction listed generalizing s with
  | nil => exact h
  | cons x listed ih => exact ih (h.beaconEntry a x.1 x.2)
@[simp] theorem QueuesShort.beaconArrives (h : s.QueuesShort) (a : Addr) (b : RawBeacon) :
    (s.beaconArrives a b).QueuesShort := by
  unfold State.beaconArrives
  dsimp only
  repeat' split
  · exact h
  · exact forChans_keeps (P := QueuesShort) (fun c t ht => by split <;> simp [ht]) _
      (QueuesShort.foldl_beaconEntry (by simp [h]) a _)
  · exact h
@[simp] theorem QueuesShort.claimArrives (h : s.QueuesShort) (c : Chan) (a : Addr) (claim : Claim) :
    (s.claimArrives c a claim).QueuesShort := by unfold State.claimArrives; dsimp only; (repeat' split) <;> simp [h]
@[simp] theorem QueuesShort.takeArrives (h : s.QueuesShort) (c : Chan) (a : Addr) (claim : Claim) (epoch : Nat) :
    (s.takeArrives c a claim epoch).QueuesShort := by unfold State.takeArrives; dsimp only; split <;> simp [h]
@[simp] theorem QueuesShort.joinSchedule (h : s.QueuesShort) (c : Chan) (epoch : Nat) :
    (s.joinSchedule c epoch).QueuesShort := by unfold State.joinSchedule; dsimp only; (repeat' split) <;> simp [h]
@[simp] theorem QueuesShort.takeEchoed (h : s.QueuesShort) (c : Chan) (claim : Claim) (epoch : Nat) :
    (s.takeEchoed c claim epoch).QueuesShort := by
  have accepted := h.acceptTake c s.me epoch (some claim)
  unfold State.takeEchoed; dsimp only; (repeat' split) <;> simp [h, accepted]
@[simp] theorem QueuesShort.releaseArrives (h : s.QueuesShort) (c : Chan) (a : Addr) (reason : ReleaseReason)
    (ret : Option Nat) : (s.releaseArrives c a reason ret).QueuesShort := by
  unfold State.releaseArrives; dsimp only; (repeat' split) <;> simp [h]

/-! ### Releases (R164, R165) -/

@[simp] theorem QueuesShort.cancelPlan (h : s.QueuesShort) (n : SlotId) (c : Chan) (reason : ReleaseReason) :
    (s.cancelPlan n c reason).QueuesShort := by
  unfold State.cancelPlan
  split
  next plan _ =>
    split
    · exact h
    · simpa using h.offerCancel (m := .handover c plan.event plan.boundary plan.returnEpoch true) rfl
  · exact h
@[simp] theorem QueuesShort.vacate (h : s.QueuesShort) (n : SlotId) (c : Chan) : (s.vacate n c).QueuesShort := by
  unfold State.vacate; dsimp only; split <;> simp [h]
@[simp] theorem QueuesShort.releaseView (h : s.QueuesShort) (c : Chan) (reason : ReleaseReason) :
    (s.releaseView c reason).QueuesShort := by unfold State.releaseView; split <;> simp [h]
@[simp] theorem QueuesShort.releaseSlot (h : s.QueuesShort) (n : SlotId) (reason : ReleaseReason) :
    (s.releaseSlot n reason).QueuesShort := by
  unfold State.releaseSlot
  split
  · exact h
  next c _ =>
    have vacated : ((((s.cancelPlan n c reason).emit n .stop).linesOff n).vacate n c).QueuesShort := by simp [h]
    have offered (ret : Option Nat) (phase : Bool) := (vacated.offerRelease (m := .release c reason s.now ret phase)
      rfl).releaseView c reason
    dsimp only
    cases reason <;> simp [offered]
@[simp] theorem QueuesShort.releaseBy (h : s.QueuesShort) (n : SlotId) (reason : ReleaseReason) :
    (s.releaseBy n reason).QueuesShort := h.releaseSlot n _
@[simp] theorem QueuesShort.takeRelease (h : s.QueuesShort) (n : SlotId) : (s.takeRelease n).QueuesShort := by
  unfold State.takeRelease; split <;> simp [h]

/-! ### A slot's own steps that reach the line (R140, R146, R151, R156, R172, R173) -/

@[simp] theorem QueuesShort.fireFrom (h : s.QueuesShort) (n : SlotId) (c : Chan) (e : Rec) (firePos : Pos) (lateBy : Nat)
    (skipped : List Nat) : (s.fireFrom n c e firePos lateBy skipped).QueuesShort := by
  unfold State.fireFrom; dsimp only; split <;> simp [h]
@[simp] theorem QueuesShort.fireArmed (h : s.QueuesShort) (n : SlotId) (c : Chan) (a : Armed) (lateBy : Nat) :
    (s.fireArmed n c a lateBy).QueuesShort := by unfold State.fireArmed; dsimp only; split <;> simp [h]
@[simp] theorem QueuesShort.lockstep (h : s.QueuesShort) (m : SlotId) (c : Chan) (key : Nat) (was : Option Armed) :
    (s.lockstep m c key was).QueuesShort := by unfold State.lockstep; dsimp only; (repeat' split) <;> simp [h]
@[simp] theorem QueuesShort.handOff (h : s.QueuesShort) (before : State) (n : SlotId) (c : Chan) (key : Option Nat) :
    (s.handOff before n c key).QueuesShort := by
  unfold State.handOff
  split
  · exact h
  · exact forSlots_keeps (P := QueuesShort) (fun m t ht => by split <;> simp [ht]) s h
@[simp] theorem QueuesShort.fireJoin (h : s.QueuesShort) (n : SlotId) (c : Chan) (p : Plan) :
    (s.fireJoin n c p).QueuesShort := by unfold State.fireJoin; dsimp only; (repeat' split) <;> simp [h]
@[simp] theorem QueuesShort.commitCheck (h : s.QueuesShort) (n : SlotId) : (s.commitCheck n).QueuesShort := by
  have cancelled (c : Chan) (p : HandbackPlan) :=
    h.offerCancel (m := .handover c p.event p.boundary p.returnEpoch true) rfl
  unfold State.commitCheck; dsimp only; (repeat' split) <;> simp [h, cancelled]
@[simp] theorem QueuesShort.fireDue (h : s.QueuesShort) (n : SlotId) (c : Chan) : (s.fireDue n c).QueuesShort := by
  unfold State.fireDue; (repeat' split) <;> simp [h]
@[simp] theorem QueuesShort.step3 (h : s.QueuesShort) (n : SlotId) : (s.step3 n).QueuesShort := by
  unfold State.step3; dsimp only; (repeat' split) <;> simp [h]
@[simp] theorem QueuesShort.step7 (h : s.QueuesShort) (n : SlotId) : (s.step7 n).QueuesShort := by
  rw [State.step7, State.fallbackStep]; (repeat' split) <;> simp [h]
theorem QueuesShort.takeStep (h : s.QueuesShort) (n : SlotId) (i : Nat) {f : State → State}
    (hf : ∀ {t : State}, t.QueuesShort → (f t).QueuesShort) : (s.takeStep n i f).QueuesShort := by
  unfold State.takeStep; (repeat' split) <;> simp [h, hf]
@[simp] theorem QueuesShort.slotStep (h : s.QueuesShort) (n : SlotId) (k : Nat) : (s.slotStep n k).QueuesShort := by
  unfold State.slotStep; split <;> simp [h]
@[simp] theorem QueuesShort.slotThrough (h : s.QueuesShort) (n : SlotId) (k : Nat) : (s.slotThrough n k).QueuesShort := by
  unfold State.slotThrough
  generalize [1, 2, 3, 4, 5, 6, 7, 8, 9] = steps
  induction steps generalizing s with
  | nil => exact h
  | cons i steps ih => exact ih (by dsimp only; split; exacts [h.takeStep n i fun ht => ht.slotStep n i, h])
@[simp] theorem QueuesShort.slotRun (h : s.QueuesShort) (n : SlotId) (k : Nat) : (s.slotRun n k).QueuesShort := by
  unfold State.slotRun State.leaderFirst; (repeat' split) <;> simp [h]
@[simp] theorem QueuesShort.slotReleaseStep (h : s.QueuesShort) (n : SlotId) : (s.slotReleaseStep n).QueuesShort := by
  unfold State.slotReleaseStep; (repeat' split) <;> simp [h]

end Sys2Proof.Machine.State

/-! ## Every step keeps the queues short (R40, R58, R182) -/

namespace Sys2Proof.Machine.State

variable {s : State}

/-! ### Station states, marks and frame events -/

@[simp] theorem QueuesShort.updateStation (h : s.QueuesShort) : s.updateStation.QueuesShort := by
  have tested : (forChans (fun c t => t.authorityTest c) (s.setStation .ready)).QueuesShort :=
    forChans_keeps (P := QueuesShort) (fun c t ht => ht.authorityTest c) _ (by simp [h])
  unfold State.updateStation; (repeat' split) <;> simp [h, tested]
@[simp] theorem QueuesShort.referenceChanged (h : s.QueuesShort) : s.referenceChanged.QueuesShort := by
  unfold State.referenceChanged; split <;> simp [h]
@[simp] theorem QueuesShort.judgeMark (h : s.QueuesShort) : s.judgeMark.QueuesShort := by
  unfold State.judgeMark; dsimp only; (repeat' split) <;> simp [h]
@[simp] theorem QueuesShort.openFrame (h : s.QueuesShort) : s.openFrame.QueuesShort :=
  { h with parked := (List.length_map _).trans_le h.parked }
@[simp] theorem QueuesShort.pulse (h : s.QueuesShort) (dt : Nat) : (s.pulse dt).QueuesShort := by
  unfold State.pulse; dsimp only; (repeat' split) <;> simp [h]
@[simp] theorem QueuesShort.loseReference (h : s.QueuesShort) (dt : Nat) : (s.loseReference dt).QueuesShort := by
  unfold State.loseReference; (repeat' split) <;> simp [h]
@[simp] theorem QueuesShort.substitute (h : s.QueuesShort) (dt : Nat) : (s.substitute dt).QueuesShort := by
  unfold State.substitute; (repeat' split) <;> simp [h]

/-! ### Resets and the start -/

theorem queuesShort_atStart (parked : s.repl.parked.length ≤ 16) (service : s.repl.service.length ≤ 4) (l : Line)
    (line : s.line = l.atStart) : s.QueuesShort := by
  constructor <;> simp [line, Line.atStart, Line.reset, parked, service]

theorem queuesShort_afterFullReset (s : State) : s.afterFullReset.QueuesShort :=
  queuesShort_atStart (by simp [afterFullReset, reset, Replication.reset]) (by simp [afterFullReset, reset, Replication.reset]) s.line rfl
@[simp] theorem QueuesShort.afterRelease (h : s.QueuesShort) : s.afterRelease.QueuesShort := by
  unfold State.afterRelease
  split
  · rw [queuesShort_setLine _ rfl rfl rfl rfl rfl]; simp [h]
  · exact h

@[simp] theorem QueuesShort.restartChannel (h : s.QueuesShort) (c : Chan) : (s.restartChannel c).QueuesShort := by
  unfold State.restartChannel; dsimp only; (repeat' split) <;> simp [h]
/-- What an entry into START empties: every queue but the parked edits and the image service before the walks, and the
line interface after them (R63, R178, R190). -/
@[simp] theorem QueuesShort.enterStart (h : s.QueuesShort) : s.enterStart.QueuesShort := by
  unfold State.enterStart
  lift_lets
  intro started vacated restarted unanchored emptied walked
  have short : vacated.QueuesShort := h.congr rfl rfl
  have short : restarted.QueuesShort :=
    forChans_keeps (P := QueuesShort) (f := fun c t => t.restartChannel c) (fun c t ht => ht.restartChannel c) vacated short
  clear_value restarted
  have short : unanchored.QueuesShort := short.congr rfl rfl
  have short : emptied.QueuesShort :=
    short.setRepl (Nat.zero_le _) (Nat.zero_le _)
  have short : walked.QueuesShort := 
    forChans_keeps (P := QueuesShort) (f := fun c t => t.walk c) (fun c t ht => ht.walk c) emptied short
  clear_value walked
  exact queuesShort_atStart short.parked short.service walked.line rfl
@[simp] theorem QueuesShort.endPhase (h : s.QueuesShort) : s.endPhase.QueuesShort := by
  unfold State.endPhase; (repeat' split) <;> simp [h]
@[simp] theorem QueuesShort.timeOutPhase (h : s.QueuesShort) : s.timeOutPhase.QueuesShort := by
  have released : (forSlots (fun n t => t.slotReleaseStep n) s).QueuesShort :=
    forSlots_keeps (P := QueuesShort) (fun n t ht => ht.slotReleaseStep n) s h
  unfold State.timeOutPhase; (repeat' split) <;> simp [h, released]
@[simp] theorem QueuesShort.enterListening (h : s.QueuesShort) : s.enterListening.QueuesShort := by
  unfold State.enterListening
  dsimp only
  exact forChans_keeps (P := QueuesShort) (fun c t ht => by split <;> simp [ht]) _
    (QueuesShort.offerBeacon (by simp [h]))
@[simp] theorem QueuesShort.configured (h : s.QueuesShort) (straps : BitVec 5) (block : Option (List Byte)) :
    (s.configured straps block).QueuesShort := by unfold State.configured; dsimp only; split <;> simp [h]

/-! ### The work of a frame event -/

@[simp] theorem QueuesShort.offers (h : s.QueuesShort) : s.offers.QueuesShort := by
  unfold State.offers
  dsimp only
  have probes := forProbes_keeps (P := QueuesShort)
    (f := fun p t => ((t.probeGone p).review.repeatVerdict p).review.offerVerdict p)
    (fun p t ht => ((ht.probeGone p).review.repeatVerdict p).review.offerVerdict p) _ h.offerCancels.beaconDue.beaconRetry
  exact forChans_keeps (P := QueuesShort) (fun c t ht => ht.askTarget c) _ probes
@[simp] theorem QueuesShort.frameChannel (h : s.QueuesShort) (c : Chan) : (s.frameChannel c).QueuesShort :=
  (((((h.expireAnchor c).frameStore c).parkedTimeout c).targetTimeout c).loadTimeout c).roundRestart c
@[simp] theorem QueuesShort.frameWork (h : s.QueuesShort) : s.frameWork.QueuesShort := by
  unfold State.frameWork
  dsimp only
  have stored := forChans_keeps (P := QueuesShort) (f := fun c t => t.frameChannel c) (fun c t ht => ht.frameChannel c) _
    h.judgeMark.silences.offers
  have watched := forChans_keeps (P := QueuesShort) (f := fun c t => t.frameWatch c) (fun c t ht => ht.frameWatch c) _ stored
  have released := forSlots_keeps (P := QueuesShort) (f := fun n t => t.slotReleaseStep n) (fun n t ht => ht.slotReleaseStep n) _
    watched.updateStation.review
  have worked := forSlots_keeps (P := QueuesShort) (f := fun n t => t.slotRun n 9) (fun n t ht => ht.slotRun n 9) _ released
  exact worked.frameClaims.endPhase.timeOutPhase
@[simp] theorem QueuesShort.settle (h : s.QueuesShort) : s.settle.QueuesShort := by
  unfold State.settle; split <;> simp [h]

/-! ### The shapes of the commands -/

theorem QueuesShort.event (h : s.QueuesShort) {f : State → State} (hf : ∀ {t : State}, t.QueuesShort → (f t).QueuesShort) :
    (s.event f).QueuesShort := (hf (QueuesShort.settle (queuesShort_clearOut.mpr h))).review

theorem QueuesShort.atFrame (h : s.QueuesShort) {f : State → State}
    (hf : ∀ {t : State}, t.QueuesShort → (f t).QueuesShort) : (s.atFrame f).QueuesShort := by
  have cleared := queuesShort_clearOut.mpr h
  unfold State.atFrame
  dsimp only
  split
  · exact (hf cleared.judgeMark).review
  · exact cleared

theorem QueuesShort.arrival (h : s.QueuesShort) (rx : Reception) {f : Addr → Addr → Msg → Option (State → State)}
    (hf : ∀ src dst m g {t : State}, f src dst m = some g → t.QueuesShort → (g t).QueuesShort) :
    (s.arrival rx f).QueuesShort := by
  refine h.event fun {t} ht => ?_
  split
  next src dst m _ =>
    split
    next g taken => exact hf src dst m g taken (ht.hear src)
    next => exact ht
  next => exact ht

theorem QueuesShort.console (h : s.QueuesShort) (rx : Reception) (broadcast : Bool)
    {f : Addr → Addr → Nat → Command → Option (State → State)}
    (hf : ∀ dst src tag k g {t : State}, f dst src tag k = some g → t.QueuesShort → (g t).QueuesShort) :
    (s.console rx broadcast f).QueuesShort := by
  refine h.arrival rx fun src dst m g t taken ht => ?_
  split at taken
  next tag code bs =>
    obtain ⟨k, -, mapped⟩ := Option.bind_eq_some_iff.mp taken
    obtain ⟨effect, own, rfl⟩ := Option.map_eq_some_iff.mp mapped
    simp only [commandTaken]
    repeat' split
    · exact ht
    · exact ht.answer ..
    · exact hf dst src tag k effect own ht
  next => cases taken

theorem QueuesShort.echo (h : s.QueuesShort) {p : OutMsg → Bool} {f : OutMsg → State → State}
    (hf : ∀ m {t : State}, t.QueuesShort → (f m t).QueuesShort) : (s.echo p f).QueuesShort := by
  refine h.event fun ht => ?_
  split
  · exact hf _ ht.leaveHead
  · exact ht

/-! ### The console commands (R61, R155, R168 to R170, R191 to R197) -/

@[simp] theorem QueuesShort.queryListCmd (h : s.QueuesShort) (src : Addr) (tag : Nat) (c : Chan) (start count : Nat) :
    (s.queryListCmd src tag c start count).QueuesShort := by unfold State.queryListCmd; (repeat' split) <;> simp [h]
@[simp] theorem QueuesShort.forceTakeCmd (h : s.QueuesShort) (src : Addr) (tag : Nat) (c : Chan) :
    (s.forceTakeCmd src tag c).QueuesShort := by unfold State.forceTakeCmd; (repeat' split) <;> simp [h]
@[simp] theorem QueuesShort.forceReleaseCmd (h : s.QueuesShort) (src : Addr) (tag : Nat) (c : Chan) :
    (s.forceReleaseCmd src tag c).QueuesShort := by unfold State.forceReleaseCmd; (repeat' split) <;> simp [h]
@[simp] theorem QueuesShort.inhibitCmd (h : s.QueuesShort) (dst src : Addr) (tag : Nat) (c : Chan) (on : Bool) :
    (s.inhibitCmd dst src tag c on).QueuesShort := by unfold State.inhibitCmd; (repeat' split) <;> simp [h]
@[simp] theorem QueuesShort.nextCommand (h : s.QueuesShort) (src : Addr) (tag : Nat) (c : Chan) :
    (s.nextCommand src tag c).QueuesShort := by unfold State.nextCommand; dsimp only; (repeat' split) <;> simp [h]
@[simp] theorem QueuesShort.handbackCmd (h : s.QueuesShort) (src : Addr) (tag : Nat) (c : Chan) (at? : Option Nat) :
    (s.handbackCmd src tag c at?).QueuesShort := by
  unfold State.handbackCmd
  dsimp only
  have noticed (room : s.hasRoom .zero = true) (n : SlotId) (f : Slot → Slot) (event : Nat) (p : Pos) (ret : Nat) :
      ((s.modSlot n f).enqueue (.handover c event p ret false)).QueuesShort := QueuesShort.enqueue (by simp [h]) room
  (repeat' split) <;> simp_all

/-- An edit applied leaves class 1 as it is: of the queues it touches the image service alone (R59). -/
@[simp] theorem applyEdit_queueOne (s : State) (c : Chan) (e : EditOp) : (s.applyEdit c e).queue .one = s.queue .one := by
  have touched (t : State) (d : Chan) : (t.imageTouched d).line.q1 = t.line.q1 := by
    unfold imageTouched; (repeat' split) <;> rfl
  have walkedOwn (t : State) (d : Chan) : (t.walkOwn d).line.q1 = t.line.q1 := by
    unfold walkOwn trim; dsimp only; (repeat' split) <;> simp [touched, freeRecs, markPast]
  have walked (t : State) (d : Chan) : (t.walk d).line.q1 = t.line.q1 :=
    (foldl_keeps (fun u : State => u.line.q1) walkedOwn _ _).trans (walkedOwn t d)
  have related (t : State) : (t.walkRelated s c).line.q1 = t.line.q1 :=
    foldl_keeps (fun u : State => u.line.q1) (fun u d => by dsimp only; split <;> simp [walked]) _ t
  by_cases profile : ∃ p, e = .setProfile p
  · obtain ⟨p, rfl⟩ := profile
    simp [applyEdit, queue, related, walked, touched, putProfile, apply_ite, maskChanged]
  · push Not at profile
    rw [applyEdit_eq s c profile]
    simp [queue, edited, walked, touched, editedList, dropLostAnchor, freeRecs]
    split <;> rfl
@[simp] theorem QueuesShort.editRequestCmd (h : s.QueuesShort) (src : Addr) (tag : Nat) (c : Chan) (op : Byte)
    (operands : List Byte) : (s.editRequestCmd src tag c op operands).QueuesShort := by
  unfold State.editRequestCmd
  dsimp only
  repeat' split
  case h_2.isFalse.isFalse room =>
    refine QueuesShort.answer (QueuesShort.advanceSeq ((h.applyEdit c _).enqueue ?_) c) ..
    simpa [hasRoom, OutMsg.cls] using room
  all_goals simp [h]
@[simp] theorem QueuesShort.restartCmd (h : s.QueuesShort) (src : Addr) (tag : Nat) :
    (s.restartCmd src tag).QueuesShort := by unfold State.restartCmd; dsimp only; (repeat' split) <;> simp [h]

/-! ### The commands -/

/-- Every command completes and keeps the depths of the queues. -/
theorem QueuesShort.exec (h : s.QueuesShort) (c : Instr) : ∃ t, exec c s = .next t ∧ t.QueuesShort := by
  cases c with
  | fullReset => exact ⟨_, rfl, queuesShort_afterFullReset s⟩
  | resetReleased => exact ⟨_, rfl, h.event QueuesShort.afterRelease⟩
  | configReadComplete straps block =>
    refine ⟨_, rfl, h.event fun ht => ?_⟩
    split <;> simp [ht]
  | framePulse dt | flywheelEntry dt | substituteFrameEvent dt => exact ⟨_, rfl, by simp [h]⟩
  | airbeatReceived rx =>
    refine ⟨_, rfl, h.arrival rx fun src dst m g t taken ht => ?_⟩
    split at taken
    · obtain rfl := Option.some.inj taken
      exact ht.foldl_beatArrives _
    · cases taken
  | relaystateReceived rx | editReceived rx | imageSegmentReceived rx | imagereqReceived rx
  | verdictReceived rx | beaconReceived rx | claimHeard rx | takeHeard rx | releaseHeard rx | handoverHeard rx
  | timemarkReceived rx =>
    refine ⟨_, rfl, h.arrival rx fun src dst m g t taken ht => ?_⟩
    split at taken
    · obtain rfl := Option.some.inj taken
      repeat' split
      all_goals simp [ht, apply_ite QueuesShort]
    · cases taken
  | queryStation rx | queryChannel rx | queryList rx | queryAsrun rx | forceTake rx | forceRelease rx | inhibit rx
  | nextCmd rx | handback rx | editRequest rx | restart rx =>
    refine ⟨_, rfl, h.console rx _ fun dst src tag k g t taken ht => ?_⟩
    split at taken
    · obtain rfl := Option.some.inj taken; simp [ht, State.queryChannelCmd, State.queryAsrunCmd]
    · cases taken
  | imagereqEcho | imageEcho | claimEcho | takeEcho | releaseEcho | handoverEcho | messageEcho =>
    refine ⟨_, rfl, h.echo fun m t ht => ?_⟩
    repeat' split
    all_goals simp [ht]
  | badCommand | imageSegmentQueued | lineIdle | ladderWaitExpiry | lineGoesBusy | echoFailed | messageDiscarded
  | gridDelivery | tallyRise | tallyFall =>
    refine ⟨_, rfl, h.event fun ht => ?_⟩
    repeat' split
    all_goals simp [ht]
  | beatAnchorExpiry | parkedEditTimeout | imagereqOfferRetry | imageTargetTimeout | imageRoundRestart
  | imageLoadTimeout | beatLost | relaySilent | verdictSourceStale | probeSilent | verdictRepeat | verdictOfferRetry
  | beaconOffered | beaconOfferRetry | peerSilent | claimWindowExpiry | takeOfferRetry | deadWinnerExclusion
  | exclusionExpiry | pendingForceLatchRun | ineligibleExpiry | joinCueIssue | joinCueFire | linePulseEnd | lockPoint
  | cueFire | armNextCue | restartPlay | serverFaultAction | scheduleRunOut | confirmWindowExpiry | fallbackTimeout
  | secondaryOccurrence | slotRelease | releaseOutboxOffer | handbackCommitCheck | handbackBoundary
  | handoverCancelOffer | timeMarkJudgement | listeningCountExpiry | releasePhaseEnd | releasePhaseTimeout =>
    exact ⟨_, rfl, h.atFrame fun ht => by simp [ht]⟩

end Sys2Proof.Machine.State

namespace Sys2Proof.KeepingCurrent
open Sys2Proof.Machine

/-- Settles O59: a step is the front command on the rest of the queue, or what is left of an open frame event, and each
operation of either keeps the depths. -/
theorem everyStepKeepsTheQueuesShort : Obligations.EveryStepKeepsTheQueuesShort := by
  intro s t h stepped
  unfold step at stepped
  split at stepped
  · obtain rfl := Host.Outcome.next.inj stepped
    have cleared := State.queuesShort_clearOut.mpr h
    split
    · exact cleared.settle
    · exact h
  next c rest _ =>
    obtain ⟨u, executed, short⟩ := State.QueuesShort.exec (s := { s with pending := rest }) (h.congr rfl rfl) c
    rw [executed] at stepped
    exact Host.Outcome.next.inj stepped ▸ short

end Sys2Proof.KeepingCurrent

/-! ## Beats leave the rest of the watch records alone (R33, R49, R60) -/

namespace Sys2Proof.Machine.State

section
variable (s : State)

/-! ### What a walk, a queue and a request leave of the watch records -/

@[simp] theorem armIfReady_watch (n : SlotId) : (s.armIfReady n).watch = s.watch := by
  unfold armIfReady; (repeat' split) <;> rfl
@[simp] theorem rearm_watch (n : SlotId) : (s.rearm n).watch = s.watch := by
  unfold rearm; (repeat' split) <;> simp
@[simp] theorem refreshEnd_watch (n : SlotId) : (s.refreshEnd n).watch = s.watch := by
  unfold refreshEnd; split <;> rfl
@[simp] theorem refill_watch (n : SlotId) : (s.refill n).watch = s.watch := by
  unfold refill; split <;> rfl
@[simp] theorem loseEvent_watch (n : SlotId) (c : Chan) (id : Nat) : (s.loseEvent n c id).watch = s.watch := by
  unfold loseEvent; dsimp only; split <;> simp
@[simp] theorem afterWalk_watch (c : Chan) : (s.afterWalk c).watch = s.watch := by
  unfold afterWalk; (repeat' split) <;> simp
@[simp] theorem setQueue_watch (k : Cls) (q : List QEntry) : (s.setQueue k q).watch = s.watch := by cases k <;> rfl
@[simp] theorem startWait_watch : s.startWait.watch = s.watch := rfl
@[simp] theorem enqueue_watch (m : OutMsg) : (s.enqueue m).watch = s.watch := by simp [enqueue]
@[simp] theorem takeBack_watch (k : Cls) (p : OutMsg → Bool) : (s.takeBack k p).watch = s.watch := by simp [takeBack]
@[simp] theorem replaceWaiting_watch (p : OutMsg → Bool) (m : OutMsg) : (s.replaceWaiting p m).watch = s.watch := by
  simp [replaceWaiting]
@[simp] theorem offerBeacon_watch : s.offerBeacon.watch = s.watch := by
  unfold offerBeacon; (repeat' split) <;> simp
@[simp] theorem beaconRetry_watch : s.beaconRetry.watch = s.watch := by
  unfold beaconRetry; split <;> simp
@[simp] theorem putVerdict_watch (p : ProbeId) : (s.putVerdict p).watch = s.watch := by
  unfold putVerdict; dsimp only; (repeat' split) <;> simp
@[simp] theorem beforeVerdict_watch (k : Nat) : (s.beforeVerdict k).watch = s.watch := by
  unfold beforeVerdict; split
  · exact forProbes_keeps (P := fun t => t.watch = s.watch) (fun p t h => by split <;> simp [h]) _ (by simp)
  · rfl
@[simp] theorem imageTouched_watch (c : Chan) : (s.imageTouched c).watch = s.watch := by
  unfold imageTouched; (repeat' split) <;> simp
@[simp] theorem trim_watch (c : Chan) : (s.trim c).watch = s.watch := by
  unfold trim; dsimp only; split
  · rfl
  · rw [imageTouched_watch]; rfl
@[simp] theorem walkOwn_watch (c : Chan) : (s.walkOwn c).watch = s.watch := by
  unfold walkOwn; split
  · simp [markPast]
  · rfl
@[simp] theorem walk_watch (c : Chan) : (s.walk c).watch = s.watch := by
  rw [walk, foldl_keeps (fun t => t.watch) (fun t f => walkOwn_watch t f)]
  exact walkOwn_watch s c
@[simp] theorem writeAnchor_watch (c : Chan) (a : Anchor) : (s.writeAnchor c a).watch = s.watch := walk_watch _ c
@[simp] theorem answerNone_watch (dst : Addr) (b : Byte) : (s.answerNone dst b).watch = s.watch := by
  unfold answerNone; split <;> simp
@[simp] theorem dropService_watch (c : Chan) : (s.dropService c).watch = s.watch := by
  unfold dropService; dsimp only; (repeat' split) <;> simp
@[simp] theorem freeShadow_watch (c : Chan) : (s.freeShadow c).watch = s.watch := by
  unfold freeShadow; split <;> rfl
@[simp] theorem setStale_watch (c : Chan) (cause : StaleCause) : (s.setStale c cause).watch = s.watch := by
  unfold setStale; dsimp only; (repeat' split) <;> simp
@[simp] theorem putAsk_watch (c : Chan) : (s.putAsk c).watch = s.watch := by
  unfold putAsk; (repeat' split) <;> simp [modRequest]
@[simp] theorem beforeAsk_watch (c : Chan) : (s.beforeAsk c).watch = s.watch := by
  unfold beforeAsk; split
  · exact forChans_keeps (P := fun t => t.watch = s.watch) (fun d t h => by split <;> simp [h]) _ (by simp)
  · rfl
@[simp] theorem chooseTarget_watch (c : Chan) : (s.chooseTarget c).watch = s.watch := by
  unfold chooseTarget; (repeat' split) <;> simp [modRequest, askTarget]
@[simp] theorem beginRequest_watch (c : Chan) : (s.beginRequest c).watch = s.watch := by
  unfold beginRequest; split <;> simp [newRound, modRequest]
@[simp] theorem makeStale_watch (c : Chan) (cause : StaleCause) : (s.makeStale c cause).watch = s.watch := by
  simp [makeStale]
@[simp] theorem judgeBeat_watch (c : Chan) (b : BeatEntry) : (s.judgeBeat c b).watch = s.watch := by
  unfold judgeBeat; dsimp only; (repeat' split) <;> simp

end

end Sys2Proof.Machine.State

/-! ## A carried beat entry and its form (R65) -/

namespace Sys2Proof.Machine

theorem chanOf_eq_none {n : Nat} : chanOf n = none ↔ n = 0 ∨ 32 < n := by
  unfold chanOf
  split
  next range => simp only [reduceCtorEq, false_iff]; omega
  next range => simp only [true_iff]; omega

theorem MainState.ofCode_eq_none : ∀ {n : Nat}, MainState.ofCode n = none ↔ n = 0 ∨ 3 < n
  | 0 | 1 | 2 | 3 => by simp [MainState.ofCode]
  | n + 4 => by simp [MainState.ofCode]

theorem MainState.ofCode_eq_some {n : Nat} {m : MainState} (h : MainState.ofCode n = some m) :
    n = m.code := by
  match n with
  | 0 | n + 4 => cases h
  | 1 | 2 | 3 => cases h; rfl

theorem flagOf_eq_none : ∀ {n : Nat}, flagOf n = none ↔ 1 < n
  | 0 | 1 => by simp [flagOf]
  | n + 2 => by simp [flagOf]

theorem flagOf_eq_some {n : Nat} {f : Bool} (h : flagOf n = some f) : f = decide (n = 1) := by
  match n with
  | 0 | 1 => cases h; rfl
  | n + 2 => cases h

/-- An entry is read when each field of its form is, and says what they carry (R65). -/
theorem RawBeat.entry_eq_some {r : Rate} {raw : RawBeat} {c : Chan} {b : BeatEntry} :
    raw.entry r = some (c, b) ↔ ∃ main present, chanOf raw.chan = some c ∧ MainState.ofCode raw.main = some main ∧
      flagOf raw.present = some present ∧ raw.report.frame < r.fpd ∧
      b = ⟨raw.epoch, main, raw.event, raw.offset, raw.report,
        if present && decide (raw.preparedPos.frame < r.fpd) then some (raw.preparedEvent, raw.preparedPos) else none⟩ := by
  simp only [RawBeat.entry, Option.bind_eq_bind, Option.bind_eq_some_iff]
  constructor
  · rintro ⟨d, hd, main, hm, present, hp, h⟩
    split at h
    next frame => cases h; exact ⟨main, present, hd, hm, hp, frame, rfl⟩
    next => cases h
  · rintro ⟨main, present, hd, hm, hp, frame, rfl⟩
    exact ⟨c, hd, main, hm, present, hp, if_pos frame⟩

theorem RawBeat.entry_eq_none {r : Rate} {raw : RawBeat} :
    raw.entry r = none ↔ raw.chan = 0 ∨ 32 < raw.chan ∨ raw.main = 0 ∨ 3 < raw.main ∨ 1 < raw.present ∨
      r.fpd ≤ raw.report.frame := by
  rcases hc : chanOf raw.chan with _ | c
  · have := chanOf_eq_none.mp hc
    simp only [RawBeat.entry, hc, Option.bind_eq_bind, Option.bind_none, true_iff]; omega
  have chanForm : ¬(raw.chan = 0 ∨ 32 < raw.chan) := fun h => by simp [chanOf_eq_none.mpr h] at hc
  rcases hm : MainState.ofCode raw.main with _ | m
  · have := MainState.ofCode_eq_none.mp hm
    simp only [RawBeat.entry, hc, hm, Option.bind_eq_bind, Option.bind_none, Option.bind_some, true_iff]; omega
  have mainForm : ¬(raw.main = 0 ∨ 3 < raw.main) := fun h => by simp [MainState.ofCode_eq_none.mpr h] at hm
  rcases hp : flagOf raw.present with _ | f
  · have := flagOf_eq_none.mp hp
    simp only [RawBeat.entry, hc, hm, hp, Option.bind_eq_bind, Option.bind_none, Option.bind_some, true_iff]; omega
  have flagForm : ¬1 < raw.present := fun h => by simp [flagOf_eq_none.mpr h] at hp
  simp only [RawBeat.entry, hc, hm, hp, Option.bind_eq_bind, Option.bind_some]
  split <;> simp only [reduceCtorEq, false_iff, true_iff] <;> omega

end Sys2Proof.Machine

/-! ## A beat entry recorded and judged (R33, R60, R65 to R67) -/

namespace Sys2Proof.Machine

theorem EvFlag.put_value (f : EvFlag) (now : Pos) (v : Bool) : (f.put now v).value = v := by
  unfold EvFlag.put; split
  · assumption
  · rfl

namespace State

variable {s : State}

theorem exec_airbeatReceived {rx : Reception} {src dst : Addr} {entries : List RawBeat}
    (delivered : s.found.receive rx = .deliver src dst (.airbeat entries)) :
    exec (.airbeatReceived rx) s = .next (entries.foldl State.beatArrives (s.found.hear src)).review :=
  congrArg Host.Outcome.next
    (arrival_taken s rx _ src dst _ (fun t => entries.foldl State.beatArrives t) delivered rfl)

/-! ### Which entries are taken (R65) -/

theorem beatArrives_unread {raw : RawBeat} (unread : raw.entry s.rate = none) : s.beatArrives raw = s := by
  simp only [beatArrives, unread]

theorem beatArrives_unwatched {raw : RawBeat} {c : Chan} {b : BeatEntry} (read : raw.entry s.rate = some (c, b))
    (unwatched : (s.chan c).watched = false) : s.beatArrives raw = s := by
  simp only [beatArrives, read, unwatched, if_true]

theorem beatArrives_old {raw : RawBeat} {c : Chan} {b : BeatEntry} (read : raw.entry s.rate = some (c, b))
    (set : s.time.timeState = .set) (old : (s.cfg.tb : Int) < Pos.diff s.rate b.report s.now) :
    s.beatArrives raw = s := by
  simp only [beatArrives, read, if_pos (And.intro set (show (s.cfg.tb : Int) < s.age b.report from old)), ite_self]

theorem beatArrives_taken {raw : RawBeat} {c : Chan} {b : BeatEntry} (read : raw.entry s.rate = some (c, b))
    (watched : (s.chan c).watched = true) (young : s.time.timeState = .set → Pos.diff s.rate b.report s.now ≤ s.cfg.tb) :
    s.beatArrives raw = (s.recordBeat c b).judgeBeat c b := by
  have fresh : ¬(s.time.timeState = .set ∧ (s.cfg.tb : Int) < s.age b.report) := fun h =>
    absurd (young h.1) (Int.not_le.mpr h.2)
  simp only [beatArrives, read, watched, Bool.true_eq_false, if_false, if_neg fresh]

/-! ### What an entry does to its watch record (R66, R67) -/

theorem recordBeat_watchRec {c : Chan} {b : BeatEntry} {w : WatchRec} (h : s.watchRec c = some w) (tb : 0 < s.cfg.tb) :
    ∃ w', (s.recordBeat c b).watchRec c = some w' ∧ w'.beatTimer = 0 ∧ w'.beatLost.value = false ∧
      w'.sources = w.sources ∧ w'.health = w.health ∧ (w.lastBeat = none → w'.lastBeat = some b) ∧
      (∀ old, w.lastBeat = some old →
        w'.lastBeat = some (if Pos.atOrPast s.rate b.report old.report then b else old)) ∧
      (w'.mainFault.value = true ↔ ∃ x, w'.lastBeat = some x ∧ x.main = .fault) := by
  rw [recordBeat, modWatch_watchRec, h]
  refine ⟨_, rfl, rfl, ?_, rfl, rfl, fun none => ?_, fun old some => ?_, ?_⟩
  · exact (EvFlag.put_value ..).trans (decide_eq_false (Nat.not_le.mpr tb))
  · simp only [WatchRec.setFault, WatchRec.setBeatLost, none]
  · simp only [WatchRec.setFault, WatchRec.setBeatLost, some]
  · simp [WatchRec.setFault, WatchRec.setBeatLost, EvFlag.put_value]

theorem judgeBeat_watchRec (s : State) (c : Chan) (b : BeatEntry) : (s.judgeBeat c b).watchRec = s.watchRec :=
  funext fun d => congrArg (fun ws => ws.get d) (judgeBeat_watch s c b)

/-! ### How the replication unit judges an entry (R60) -/

section
variable {c : Chan} {b : BeatEntry}

theorem judgeBeat_passed (h : (s.chan c).authority ≠ .main ∨ b.main ≠ .onAir ∨ b.epoch < (s.chan c).epoch) :
    s.judgeBeat c b = s := by
  unfold judgeBeat
  dsimp only
  split
  next live => rw [if_pos ((h.resolve_left (not_not_intro live.1)).resolve_left (not_not_intro live.2))]
  next => rfl

variable (main : (s.chan c).authority = .main) (onAir : b.main = .onAir)
include main onAir

theorem judgeBeat_ahead (ahead : (s.chan c).epoch < b.epoch) :
    s.judgeBeat c b = match (s.chan c).replica with
      | .current => s.makeStale c .epoch
      | .stale => s.setStale c .epoch
      | _ => s :=
  (if_pos (And.intro main onAir)).trans ((if_neg (Nat.lt_asymm ahead)).trans (if_pos ahead))

variable (epoch : b.epoch = (s.chan c).epoch)
include epoch

/-- What an entry at the channel's epoch does: nothing behind a later BEAT anchor, else it anchors or mismatches. -/
theorem judgeBeat_level :
    s.judgeBeat c b =
      if (s.chan c).anchor.elim false fun a => decide (a.source = .beat) && Pos.before s.rate b.report a.report then s
      else if (findEvent b.event (s.chan c).list).isSome then
        s.writeAnchor c ⟨b.event, b.report.sub s.rate b.offset, .beat, b.report⟩
      else if (s.chan c).replica = .current then s.makeStale c .mismatch
      else s := by
  rw [judgeBeat, if_pos ⟨main, onAir⟩, if_neg (by omega), if_neg (by omega)]

theorem judgeBeat_older {a : Anchor} (anchored : (s.chan c).anchor = some a) (beat : a.source = .beat)
    (older : Pos.before s.rate b.report a.report = true) : s.judgeBeat c b = s := by
  rw [judgeBeat_level main onAir epoch, if_pos (by simp [anchored, beat, older])]

variable (newer : ∀ a, (s.chan c).anchor = some a → a.source = .beat → Pos.before s.rate b.report a.report = false)
include newer

theorem judgeBeat_newer :
    s.judgeBeat c b =
      if (findEvent b.event (s.chan c).list).isSome then
        s.writeAnchor c ⟨b.event, b.report.sub s.rate b.offset, .beat, b.report⟩
      else if (s.chan c).replica = .current then s.makeStale c .mismatch
      else s := by
  rw [judgeBeat_level main onAir epoch, if_neg]
  rcases anchored : (s.chan c).anchor with _ | a
  · simp
  · simpa using newer a anchored

theorem judgeBeat_anchors (named : (findEvent b.event (s.chan c).list).isSome = true) :
    s.judgeBeat c b = s.writeAnchor c ⟨b.event, b.report.sub s.rate b.offset, .beat, b.report⟩ := by
  rw [judgeBeat_newer main onAir epoch newer, if_pos named]

theorem judgeBeat_mismatch (unnamed : findEvent b.event (s.chan c).list = none) :
    s.judgeBeat c b = if (s.chan c).replica = .current then s.makeStale c .mismatch else s := by
  rw [judgeBeat_newer main onAir epoch newer, if_neg (by simp [unnamed])]

end

end State

theorem clearPastFrom_none {id : Nat} {list : List Rec} (h : splitAt id list = none) : clearPastFrom id list = list := by
  simp only [clearPastFrom, h]

theorem clearPastFrom_some {id : Nat} {list before after : List Rec} {e : Rec}
    (h : splitAt id list = some (before, e, after)) :
    clearPastFrom id list = if e.derived.past then
      before ++ (e :: after).map fun x => { x with derived := { x.derived with past := false } } else list := by
  simp only [clearPastFrom, h]

end Sys2Proof.Machine

/-! ## Beats settle their obligation -/

namespace Sys2Proof.KeepingCurrent

open Sys2Proof.Machine

/-- Settles O23: the arrival; the form of an entry; what an entry taken does to the watch record, which the judging
leaves, and each row of the judging; the STALE replica; the anchors; the past flags cleared. -/
theorem beatsAreRecordedAndAnchored : Obligations.BeatsAreRecordedAndAnchored := by
  refine ⟨fun rx s src dst entries heard => State.exec_airbeatReceived heard,
    fun s raw => State.beatArrives_unread, fun r raw => ⟨RawBeat.entry_eq_none, fun c b read => ?form⟩,
    fun s raw c b read => ⟨State.beatArrives_unwatched read, State.beatArrives_old read, fun watched young => ?taken⟩,
    fun s c cause held => ?stale, fun s c a => ⟨rfl, rfl⟩,
    fun list id => ⟨clearPastFrom_none, fun before e after found => ?past⟩⟩
  case form =>
    obtain ⟨main, present, chan, code, flag, -, rfl⟩ := RawBeat.entry_eq_some.mp read
    refine ⟨chanOf_eq_some.mp chan, (MainState.ofCode_eq_some code).trans (by cases main <;> rfl), rfl, rfl, rfl, rfl, ?_⟩
    simp only [flagOf_eq_some flag, Bool.and_eq_true, decide_eq_true_eq]
  case taken =>
    rw [State.beatArrives_taken read watched young]
    refine ⟨fun w rec tb => ?_, State.judgeBeat_anchors (s := s.recordBeat c b),
      State.judgeBeat_passed (s := s.recordBeat c b), fun main onAir ahead => ?_,
      fun a main onAir epoch => State.judgeBeat_older (s := s.recordBeat c b) main onAir epoch, fun main onAir epoch newer unnamed => ?_⟩
    · rw [State.judgeBeat_watchRec]
      exact State.recordBeat_watchRec rec tb
    · have judged := State.judgeBeat_ahead (s := s.recordBeat c b) main onAir ahead
      refine ⟨fun current => ?_, fun stale => ?_, ?_⟩
      · rw [judged, show ((s.recordBeat c b).chan c).replica = .current from current]
      · rw [judged, show ((s.recordBeat c b).chan c).replica = .stale from stale]
      · rintro (empty | loading)
        · rw [judged, show ((s.recordBeat c b).chan c).replica = .empty from empty]
        · rw [judged, show ((s.recordBeat c b).chan c).replica = .loading from loading]
    · have judged := State.judgeBeat_mismatch (s := s.recordBeat c b) main onAir epoch newer unnamed
      exact ⟨fun current => judged.trans (if_pos current), fun other => judged.trans (if_neg other)⟩
  case stale =>
    obtain ⟨replica, why⟩ := State.makeStale_stale (s := s) cause held
    obtain ⟨-, -, list⟩ := State.makeStale_kept (s := s) c cause
    exact ⟨replica, why, list, State.setStale_chan s cause held⟩
  case past =>
    rw [clearPastFrom_some found]
    exact ⟨fun clear => if_neg (by simp [clear]), fun past => if_pos past⟩

end Sys2Proof.KeepingCurrent

/-! ## An open frame event through the mark's judgement (R11, R12) -/

namespace Sys2Proof.Machine.State

variable {s : State}

theorem judgeMark_frameOpen (s : State) : s.judgeMark.time.frameOpen = s.time.frameOpen := by
  cases h : s.time.pendingMark with
  | none => rw [judgeMark_none s h]
  | some m =>
    by_cases adopted : s.adopts m
    · rw [judgeMark_adopts m h adopted, base_time (base_review _), (updateStation_moves _).time, adoptMark_time]
    · rw [judgeMark_disputes m h adopted, base_time (base_review _), (updateStation_moves _).time]; rfl

theorem atStep_frameOpen (openFrame : s.time.frameOpen = true) : s.atStep.time.frameOpen = true :=
  (judgeMark_frameOpen s.clearOut).trans openFrame

/-! ## The IMAGEREQ to the present target (R53, R183) -/

/-! ### What goes before it (R183) -/

theorem beforeVerdict_all (openFrame : s.time.frameOpen = true) :
    s.beforeVerdict 4 = forProbes (fun p t => t.putVerdict p) s.beaconRetry := by
  have all : (fun (p : ProbeId) (t : State) => if p.val < 4 then t.putVerdict p else t) = fun p t => t.putVerdict p :=
    funext fun p => funext fun t => if_pos p.isLt
  rw [beforeVerdict, if_pos openFrame, all]

theorem beforeAsk_open (c : Chan) (openFrame : s.time.frameOpen = true) :
    s.beforeAsk c = forChans (fun d u => if d < c then u.putAsk d else u)
      (forProbes (fun p u => u.putVerdict p) (if s.active && s.line.beaconHeld then s.offerBeacon else s)) := by
  rw [beforeAsk, if_pos openFrame, beforeVerdict_all openFrame, beaconRetry]

theorem modRequest_request (s : State) (c : Chan) (f : ImageRequest → ImageRequest) :
    ((s.modRequest c f).chan c).request = (s.chan c).request.map f := by
  rw [modRequest, modChan_chan]

theorem putAsk_chan_other (s : State) {c d : Chan} (other : d ≠ c) : (s.putAsk d).chan c = s.chan c := by
  unfold putAsk
  repeat' split
  case isTrue => exact (modChan_chan_other _ d c _ other).trans (chan_congr (enqueue_chans s _) c)
  all_goals rfl

/-- The IMAGEREQs of lower channels leave the request of this one (R183). -/
theorem beforeAsk_chan (s : State) (c : Chan) : (s.beforeAsk c).chan c = s.chan c := by
  unfold beforeAsk
  split
  · refine (foldl_keeps (fun t => t.chan c) (fun t d => ?_) _ _).trans (chan_congr (beforeVerdict_chans s 4) c)
    dsimp only
    split
    next lower => exact putAsk_chan_other t (ne_of_lt lower)
    next => rfl
  · rfl

/-! ### The IMAGEREQ itself (R53) -/

section
variable {c : Chan} {q : ImageRequest} {d : Addr} (asks : (s.chan c).request = some q) (asking : q.stage = .asking)
  (unqueued : q.ask = .unqueued) (target : q.target = some d)
include asks asking unqueued target

theorem putAsk_room (room : s.hasRoom .one = true) :
    s.putAsk c = (s.enqueue (.imagereq c d)).modRequest c fun q => { q with ask := .queued } := by
  simp only [putAsk, asks, asking, unqueued, target, room, if_true]

theorem putAsk_full (full : s.hasRoom .one = false) : s.putAsk c = s := by
  simp only [putAsk, asks, asking, unqueued, target, full, Bool.false_eq_true, if_false]

end

theorem putAsk_idle {c : Chan}
    (idle : ∀ q, (s.chan c).request = some q → q.stage ≠ .asking ∨ q.ask ≠ .unqueued ∨ q.target = none) :
    s.putAsk c = s := by
  unfold putAsk
  split
  next q asks =>
    split
    next asking unqueued target =>
      rcases idle q asks with h | h | h
      · exact absurd asking h
      · exact absurd unqueued h
      · rw [h] at target; cases target
    next => rfl
  next => rfl

/-- An IMAGEREQ offered moves only how far it has come. -/
theorem askTarget_request {c : Chan} {q : ImageRequest} (asks : (s.chan c).request = some q) :
    ∃ ask, ((s.askTarget c).chan c).request = some { q with ask := ask } := by
  have before : ((s.beforeAsk c).chan c).request = some q := by rw [beforeAsk_chan, asks]
  rw [askTarget, putAsk, before]
  dsimp only
  split
  next t asking unqueued target =>
    split
    · refine ⟨.queued, (modRequest_request _ c _).trans ?_⟩
      rw [chan_congr (enqueue_chans _ _), before]; rfl
    · exact ⟨q.ask, before⟩
  next => exact ⟨q.ask, before⟩

/-! ### The request's timers (R53) -/

theorem targetTimeout_due {c : Chan} {q : ImageRequest} (asks : (s.chan c).request = some q) (asking : q.stage = .asking)
    (echoed : q.ask = .echoed) (late : 100 ≤ q.timer) : s.targetTimeout c = s.chooseTarget c := by
  simp only [targetTimeout, asks, if_pos (And.intro asking (And.intro echoed late))]

theorem targetTimeout_early {c : Chan}
    (early : ∀ q, (s.chan c).request = some q → q.stage ≠ .asking ∨ q.ask ≠ .echoed ∨ q.timer < 100) :
    s.targetTimeout c = s := by
  unfold targetTimeout
  split
  next q asks =>
    refine if_neg fun ⟨asking, echoed, late⟩ => ?_
    exact ((early q asks).resolve_left (not_not_intro asking)).elim (· echoed) (Nat.not_lt.mpr late)
  next => rfl

theorem roundRestart_due {c : Chan} {q : ImageRequest} (asks : (s.chan c).request = some q) (waits : q.stage = .waiting)
    (late : 250 ≤ q.timer) : s.roundRestart c = s.newRound c := by
  simp only [roundRestart, asks, if_pos (And.intro waits late)]

theorem roundRestart_early {c : Chan}
    (early : ∀ q, (s.chan c).request = some q → q.stage ≠ .waiting ∨ q.timer < 250) : s.roundRestart c = s := by
  unfold roundRestart
  split
  next q asks =>
    exact if_neg fun ⟨waits, late⟩ => (early q asks).elim (· waits) (Nat.not_lt.mpr late)
  next => rfl

/-! ## The choice of a target (R52, R53) -/

theorem chooseTarget_waits {c : Chan} {q : ImageRequest} (asks : (s.chan c).request = some q)
    (all : ∀ a ∈ s.candidates c, a ∈ q.asked) :
    s.chooseTarget c =
      s.modRequest c fun q => { q with target := none, timer := 0, stage := .waiting, ask := .unqueued } := by
  have none : (s.candidates c).find? (fun a => decide (a ∉ q.asked)) = none :=
    List.find?_eq_none.mpr fun a mem => by simp [all a mem]
  simp only [chooseTarget, asks, none]

theorem chooseTarget_takes {c : Chan} {q : ImageRequest} (asks : (s.chan c).request = some q) {as bs : List Addr}
    {a : Addr} (order : s.candidates c = as ++ a :: bs) (tried : ∀ x ∈ as, x ∈ q.asked) (new : a ∉ q.asked) :
    ∃ q', ((s.chooseTarget c).chan c).request = some q' ∧ q'.target = some a ∧ q'.timer = 0 ∧ q'.stage = .asking ∧
      q'.asked = q.asked := by
  have first : (s.candidates c).find? (fun a => decide (a ∉ q.asked)) = some a := by
    rw [order, List.find?_append, List.find?_eq_none.mpr fun x mem => by simp [tried x mem], Option.none_or,
      List.find?_cons_of_pos (by simp [new])]
  simp only [chooseTarget, asks, first]
  obtain ⟨ask, chosen⟩ := askTarget_request ((modRequest_request s c _).trans (congrArg (Option.map _) asks))
  exact ⟨_, chosen, rfl, rfl, rfl, rfl⟩

theorem mem_relays (a : Nat) : a ∈ [17, 18, 19, 20] ↔ 17 ≤ a ∧ a ≤ 20 := by
  simp only [List.mem_cons, List.not_mem_nil, or_false]; omega

theorem mem_peerAddresses (a : Nat) : a ∈ (List.range 16).map (· + 1) ↔ 1 ≤ a ∧ a ≤ 16 := by
  simp only [List.mem_map, List.mem_range]
  exact ⟨fun ⟨n, low, eq⟩ => by omega, fun ⟨low, high⟩ => ⟨a - 1, by omega, by omega⟩⟩

/-- The candidates R52 puts first: the relays, or the holder. -/
def firstCandidates (s : State) (c : Chan) : List Addr :=
  match (s.chan c).authority with
  | .main => [17, 18, 19, 20].filter fun a => (s.peer a).link = .up
  | .site => (s.view c).holder.toList.filter fun a => a ≠ s.me

/-- The candidates R52 puts after them: the other peers that show the channel CURRENT. -/
def peerCandidates (s : State) (c : Chan) : List Addr :=
  ((List.range 16).map (· + 1)).filter fun a =>
    (s.peer a).current.getLsbD c.val && decide (a ≠ s.me) && decide (a ∉ s.firstCandidates c)

theorem candidates_eq (s : State) (c : Chan) : s.candidates c = s.firstCandidates c ++ s.peerCandidates c := rfl

theorem mem_firstCandidates_main {c : Chan} (main : (s.chan c).authority = .main) (a : Addr) :
    a ∈ s.firstCandidates c ↔ 17 ≤ a ∧ a ≤ 20 ∧ (s.peer a).link = .up := by
  simp only [firstCandidates, main]
  rw [List.mem_filter, mem_relays, decide_eq_true_eq, and_assoc]

theorem mem_firstCandidates_site {c : Chan} (site : (s.chan c).authority = .site) (a : Addr) :
    a ∈ s.firstCandidates c ↔ (s.view c).holder = some a ∧ a ≠ s.me := by
  simp only [firstCandidates, site]
  rw [List.mem_filter, Option.mem_toList, decide_eq_true_eq]

theorem pairwise_firstCandidates (s : State) (c : Chan) : (s.firstCandidates c).Pairwise (· < ·) := by
  unfold firstCandidates
  split
  · exact .filter _ (by decide)
  · refine .filter _ ?_
    cases (s.view c).holder with
    | none => exact .nil
    | some a => exact List.pairwise_singleton _ a

theorem mem_peerCandidates {c : Chan} (a : Addr) :
    a ∈ s.peerCandidates c ↔ 1 ≤ a ∧ a ≤ 16 ∧ a ≠ s.me ∧ (s.peer a).current.getLsbD c.val = true ∧
      a ∉ s.firstCandidates c := by
  rw [peerCandidates, List.mem_filter, mem_peerAddresses]
  simp only [Bool.and_eq_true, decide_eq_true_eq]
  tauto

theorem pairwise_peerCandidates (s : State) (c : Chan) : (s.peerCandidates c).Pairwise (· < ·) :=
  .filter _ ((List.pairwise_lt_range (n := 16)).map _ fun _ _ => Nat.succ_lt_succ)

end Sys2Proof.Machine.State

/-! ## Image requests settle their obligation -/

namespace Sys2Proof.KeepingCurrent

open Sys2Proof.Machine

/-- Settles O20: each command of the request at an open frame event, and the echo; the target that is chosen; the order
of the candidates. -/
theorem imageRequestsTryTheirTargets : Obligations.ImageRequestsTryTheirTargets := by
  refine ⟨fun c s => ⟨fun openFrame => ?frame, fun d heard => ?echo⟩, fun c s q asks =>
    ⟨State.chooseTarget_waits asks, fun as a bs => State.chooseTarget_takes asks, ?candidates⟩⟩
  case frame =>
    have offer : exec (.imagereqOfferRetry c) s = .next (s.atStep.askTarget c).review :=
      congrArg Host.Outcome.next (s.atFrame_open _ openFrame)
    have timeout : exec (.imageTargetTimeout c) s = .next (s.atStep.targetTimeout c).review :=
      congrArg Host.Outcome.next (s.atFrame_open _ openFrame)
    have restart : exec (.imageRoundRestart c) s = .next (s.atStep.roundRestart c).review :=
      congrArg Host.Outcome.next (s.atFrame_open _ openFrame)
    refine ⟨State.beforeAsk_open c (State.atStep_frameOpen openFrame),
      fun q d asks asking unqueued target => ⟨fun room => ?_, fun full => ?_⟩, fun idle => ?_,
      congrArg ChannelRec.request (State.beforeAsk_chan _ c), fun q asks asking echoed late => ?_, fun early => ?_,
      fun q asks waits late => ?_, fun early => ?_⟩
    · rw [offer, State.askTarget, State.putAsk_room asks asking unqueued target room]
    · rw [offer, State.askTarget, State.putAsk_full asks asking unqueued target full]
    · rw [offer, State.askTarget, State.putAsk_idle idle]
    · rw [timeout, State.targetTimeout_due asks asking echoed late]
    · rw [timeout, State.targetTimeout_early early]
    · rw [restart, State.roundRestart_due asks waits late]
    · rw [restart, State.roundRestart_early early]
  case echo => exact congrArg Host.Outcome.next (State.echo_taken s _ _ _ heard)
  case candidates =>
    exact ⟨s.firstCandidates c, s.peerCandidates c, s.candidates_eq c, s.pairwise_firstCandidates c,
      s.pairwise_peerCandidates c, State.mem_firstCandidates_main, State.mem_firstCandidates_site,
      State.mem_peerCandidates⟩

end Sys2Proof.KeepingCurrent

/-! ## The image server (R58, R59, R188) -/

namespace Sys2Proof.Machine

/-! ### The segments of an image (R188) -/

theorem packSegments_bytes (rs : List (List Byte)) (n : Nat) (cur : List Byte) :
    (packSegments n cur rs).flatMap Prod.snd = cur ++ rs.flatten := by
  induction rs generalizing n cur with
  | nil => simp [packSegments]
  | cons r rs ih =>
    unfold packSegments
    split
    · rw [ih, List.append_assoc, List.flatten_cons]
    · rw [List.flatMap_cons, ih, List.flatten_cons]

theorem packSegments_count (rs : List (List Byte)) (n : Nat) (cur : List Byte) :
    ((packSegments n cur rs).map Prod.fst).sum = n + rs.length := by
  induction rs generalizing n cur with
  | nil => simp [packSegments]
  | cons r rs ih =>
    unfold packSegments
    split
    · rw [ih, List.length_cons]; omega
    · rw [List.map_cons, List.sum_cons, ih, List.length_cons]; omega

/-- A record starts a segment of its own where it would pass 222 bytes, so each segment fits as each record does. -/
theorem packSegments_fits (rs : List (List Byte)) (n : Nat) (cur : List Byte) (begun : cur.length ≤ 222)
    (records : ∀ r ∈ rs, r.length ≤ 222) : ∀ x ∈ packSegments n cur rs, x.2.length ≤ 222 := by
  induction rs generalizing n cur with
  | nil => simpa [packSegments] using begun
  | cons r rs ih =>
    obtain ⟨head, tail⟩ := List.forall_mem_cons.mp records
    unfold packSegments
    split
    next fits => exact ih _ _ (by rw [List.length_append]; exact fits) tail
    next => exact List.forall_mem_cons.mpr ⟨begun, ih _ _ head tail⟩

theorem packSegments_ne_nil (rs : List (List Byte)) (n : Nat) (cur : List Byte) : packSegments n cur rs ≠ [] := by
  induction rs generalizing n cur with
  | nil => exact List.cons_ne_nil _ _
  | cons r rs ih =>
    unfold packSegments
    split
    · exact ih _ _
    · exact List.cons_ne_nil _ _

namespace State

variable {s : State}

/-! ### The answers of count 0, and requests taken (R58) -/

theorem answerNone_room {dst : Addr} {byte : Byte} (idle : s.repl.zeroAnswers = []) (room : s.hasRoom .two = true) :
    s.answerNone dst byte =
      { s.enqueue (.imageNone dst byte s.freeCount) with freeCount := s.freeCount + 1 } := by
  rw [answerNone, idle, room]; rfl

theorem answerNone_waits {dst : Addr} {byte : Byte} (busy : s.repl.zeroAnswers ≠ [] ∨ s.hasRoom .two = false) :
    s.answerNone dst byte = { s with repl := { s.repl with zeroAnswers := s.repl.zeroAnswers ++ [(dst, byte)] } } := by
  have busy : ¬(s.repl.zeroAnswers.isEmpty && s.hasRoom .two) = true := by
    rcases busy with h | h <;> simp [h]
  rw [answerNone, if_neg busy]; rfl

theorem exec_imagereqReceived {rx : Reception} {src dst : Addr} {byte : Byte}
    (heard : s.found.receive rx = .deliver src dst (.imagereq byte)) :
    exec (.imagereqReceived rx) s =
      .next (if dst = 0 then s.found.hear src else (s.found.hear src).imagereqArrives src byte).review :=
  congrArg Host.Outcome.next
    (arrival_taken s rx _ src dst _ (fun t => if dst = 0 then t else t.imagereqArrives src byte) heard rfl)

theorem imagereqArrives_unnamed {src : Addr} {byte : Byte} (unnamed : chanOf byte.toNat = none) :
    s.imagereqArrives src byte = s.answerNone src byte := by simp only [imagereqArrives, unnamed]

section
variable {src : Addr} {byte : Byte} {c : Chan} (named : chanOf byte.toNat = some c)
include named

theorem imagereqArrives_unheld (unheld : (s.chan c).watched = false ∨ (s.chan c).replica ≠ .current) :
    s.imagereqArrives src byte = s.answerNone src byte := by
  simp only [imagereqArrives, named, if_pos unheld]

variable (watched : (s.chan c).watched = true) (current : (s.chan c).replica = .current)
include watched current

theorem imagereqArrives_held : s.imagereqArrives src byte =
    if (src, c) ∈ s.repl.service then s
    else if s.repl.service.length < 4 then s.setRepl fun r => { r with service := r.service ++ [(src, c)] }
    else s.answerNone src byte := by
  have held : ¬((s.chan c).watched = false ∨ (s.chan c).replica ≠ .current) := by simp [watched, current]
  simp only [imagereqArrives, named, if_neg held]

end

/-! ### What restarts or ends a service (R59) -/

theorem imageTouched_restarts {c : Chan} {sv : Serving} {dst : Addr} {rest : List (Addr × Chan)}
    (serving : s.repl.serving = some sv) (head : s.repl.service = (dst, c) :: rest) (more : sv.next < sv.count) :
    s.imageTouched c = { s with
      repl := { s.repl with serving := none }
      line := { s.line with q2 := s.line.q2.filter fun e => e.begun || !isImage dst sv.imageId e.msg } } := by
  have started : s.imageTouched c = if c = c ∧ sv.next < sv.count then
      (s.takeBack .two (isImage dst sv.imageId)).setRepl fun r => { r with serving := none } else s := by
    simp only [imageTouched, serving, head]
  rw [started, if_pos ⟨rfl, more⟩]
  rfl

theorem imageTouched_idle {c : Chan}
    (idle : ∀ sv dst rest, s.repl.serving = some sv → s.repl.service = (dst, c) :: rest → sv.count ≤ sv.next) :
    s.imageTouched c = s := by
  unfold imageTouched
  split
  next sv dst d rest serving head =>
    refine if_neg fun ⟨same, more⟩ => ?_
    exact Nat.not_lt.mpr (idle sv dst rest serving (same ▸ head)) more
  next => rfl

theorem dropService_none {c : Chan} (none : s.repl.service = []) : s.dropService c = s := by
  simp only [dropService, none]

section
variable {c d : Chan} {dst : Addr} {rest : List (Addr × Chan)} (head : s.repl.service = (dst, d) :: rest)
include head

theorem dropService_other (other : d ≠ c) : s.dropService c = s := by
  simp only [dropService, head, if_neg fun h => other (And.left h)]

theorem dropService_queued {sv : Serving} (serving : s.repl.serving = some sv) (all : sv.count ≤ sv.next) :
    s.dropService c = s := by
  simp only [dropService, head, serving, Option.elim_some, all, decide_true, Bool.true_eq_false, and_false, if_false]

theorem dropService_drops (same : d = c) (more : ∀ sv, s.repl.serving = some sv → sv.next < sv.count) :
    s.dropService c = ({ s with
      repl := { s.repl with serving := none, service := rest }
      line := { s.line with q2 := match s.repl.serving with
        | some sv => s.line.q2.filter fun e => e.begun || !isImage dst sv.imageId e.msg
        | none => s.line.q2 } } : State).answerNone dst (BitVec.ofNat 8 (chanNo c)) := by
  subst same
  rcases serving : s.repl.serving with _ | sv
  · simp only [dropService, head, serving, Option.elim_none, and_self, if_true]
    rfl
  · have unfinished : decide (sv.count ≤ sv.next) = false := decide_eq_false (Nat.not_le.mpr (more sv serving))
    simp only [dropService, head, serving, Option.elim_some, unfinished, and_self, if_true]
    rfl

end

/-! ### The server's next step (R58, R59) -/

theorem serveNext_full (full : s.hasRoom .two = false) : s.serveNext = s := by
  rw [serveNext, full]; rfl

theorem serveNext_nothing (answered : s.repl.zeroAnswers = []) (none : s.repl.service = []) : s.serveNext = s := by
  simp only [serveNext, answered, none, ite_self]

section
variable (room : s.hasRoom .two = true) {dst : Addr}
include room

theorem serveNext_answers {b : Byte} {rest : List (Addr × Byte)} (waits : s.repl.zeroAnswers = (dst, b) :: rest) :
    s.serveNext = { s.enqueue (.imageNone dst b s.freeCount) with
      freeCount := s.freeCount + 1, repl := { s.repl with zeroAnswers := rest } } := by
  have answered := answerNone_room (s := s.setRepl fun r => { r with zeroAnswers := [] }) (dst := dst) (byte := b) rfl room
  simp only [serveNext, room, if_true, waits, answered]
  rfl

variable {c : Chan} {rest : List (Addr × Chan)} (answered : s.repl.zeroAnswers = [])
  (head : s.repl.service = (dst, c) :: rest)
include answered head

theorem serveNext_drops (other : (s.chan c).replica ≠ .current) : s.serveNext = s.dropService c := by
  simp only [serveNext, room, if_true, answered, head, if_neg other]

theorem serveNext_goesOn {sv : Serving} (current : (s.chan c).replica = .current) (serving : s.repl.serving = some sv) :
    s.serveNext = s.queueSegment dst c := by
  simp only [serveNext, room, answered, head, current, serving, Option.isNone_some, Bool.false_eq_true, if_true, if_false]

theorem serveNext_starts (current : (s.chan c).replica = .current) (idle : s.repl.serving = none) :
    s.serveNext = (s.startImage c).queueSegment dst c := by
  simp only [serveNext, room, answered, head, current, idle, Option.isNone_none, if_true]

end

theorem queueSegment_done {dst : Addr} {c : Chan} {sv : Serving} (serving : s.repl.serving = some sv)
    (all : sv.count ≤ sv.next) : s.queueSegment dst c = s := by
  simp only [queueSegment, serving, if_neg (Nat.not_lt.mpr all)]
  split <;> rfl

theorem queueSegment_next {dst : Addr} {c : Chan} {sv : Serving} {n : Nat} {body : List Byte}
    (serving : s.repl.serving = some sv) (more : sv.next < sv.count)
    (segment : ((s.chan c).segments s.rate)[sv.next]? = some (n, body)) :
    s.queueSegment dst c =
      ({ s with repl := { s.repl with serving := some { sv with next := sv.next + 1 } } } : State).enqueue
        (.image dst c sv.epoch sv.imageId sv.base sv.next sv.count n body) := by
  simp only [queueSegment, serving, segment, if_pos more]
  rfl

/-- An image just started queues its segment 0, which carries the profile. -/
theorem startImage_queues {dst : Addr} {c : Chan} {n : Nat} {body : List Byte} {more : List (Nat × List Byte)}
    (segments : (s.chan c).segments s.rate = (n, body) :: more) :
    (s.startImage c).queueSegment dst c = ({ s with repl := { s.repl with
        imageId := s.nextImageId
        serving := some ⟨s.nextImageId, (s.chan c).epoch, (s.chan c).nextSeq, more.length + 1, 1⟩ } } : State).enqueue
      (.image dst c (s.chan c).epoch s.nextImageId (s.chan c).nextSeq 0 (more.length + 1) n body) := by
  have count : ((s.chan c).segments s.rate).length = more.length + 1 := by rw [segments, List.length_cons]
  rw [← count]
  refine queueSegment_next (s := s.startImage c) rfl (by show 0 < ((s.chan c).segments s.rate).length; omega) ?_
  show ((s.chan c).segments s.rate)[0]? = _
  rw [segments, List.getElem?_cons_zero]

/-! ### The echo of a segment (R59) -/

theorem leaveHead_repl (s : State) : s.leaveHead.repl = s.repl := by
  unfold leaveHead; split <;> rfl

theorem imageDone_last {dst : Addr} {c : Chan} {epoch id base index count n : Nat} {body : List Byte} {sv : Serving}
    (serving : s.repl.serving = some sv) (same : id = sv.imageId) (last : index + 1 = count) (all : sv.next = sv.count) :
    s.imageDone (.image dst c epoch id base index count n body) =
      { s with repl := { s.repl with service := s.repl.service.drop 1, serving := none } } := by
  simp only [imageDone, serving, if_pos (And.intro same (And.intro last all))]
  rfl

theorem imageDone_other {dst : Addr} {c : Chan} {epoch id base index count n : Nat} {body : List Byte}
    (other : ∀ sv, s.repl.serving = some sv → id ≠ sv.imageId ∨ index + 1 ≠ count ∨ sv.next ≠ sv.count) :
    s.imageDone (.image dst c epoch id base index count n body) = s := by
  rcases serving : s.repl.serving with _ | sv
  · simp only [imageDone, serving]
  · have short : ¬(id = sv.imageId ∧ index + 1 = count ∧ sv.next = sv.count) := fun ⟨same, last, all⟩ =>
      ((other sv serving).resolve_left (not_not_intro same)).elim (· last) (· all)
    simp only [imageDone, serving, if_neg short]

theorem exec_imageEcho {m : OutMsg} (heard : s.found.sendingHead (fun m => decide (m.kind = .image)) = some m) :
    exec .imageEcho s = .next (s.found.leaveHead.imageDone m).review :=
  congrArg Host.Outcome.next (echo_taken s _ (fun m t => t.imageDone m) m heard)

end State

end Sys2Proof.Machine

/-! ## Images served settle their obligation -/

namespace Sys2Proof.KeepingCurrent

open Sys2Proof.Machine

/-- Settles O22: the request; the server's step and the echo, each on the state it finds; what restarts and drops a
service; the segments. -/
theorem imagesAreServedWhole : Obligations.ImagesAreServedWhole := by
  refine ⟨fun rx s src dst byte => ?request, fun s => ?server, fun s c => ?service, fun rate ch profile records => ?pack⟩
  case request =>
    intro t heard
    have work := State.exec_imagereqReceived heard
    refine ⟨fun all => ?_, fun one unnamed => ?_, fun c one named => ⟨fun unheld => ?_, fun watched current => ?_⟩⟩
    · rw [work, if_pos all]
    · rw [work, if_neg one, State.imagereqArrives_unnamed unnamed]
    · rw [work, if_neg one, State.imagereqArrives_unheld named unheld]
    · have held := State.imagereqArrives_held (src := src) named watched current
      refine ⟨fun known => ?_, fun new room => ?_, fun new full => ?_⟩
      · rw [work, if_neg one, held, if_pos known]
      · rw [work, if_neg one, held, if_neg new, if_pos room]; rfl
      · rw [work, if_neg one, held, if_neg new, if_neg (Nat.not_lt.mpr full)]
  case server =>
    intro t
    have work : exec .imageSegmentQueued s = .next t.serveNext.review := rfl
    refine ⟨fun full => ?_, fun answered none => ?_, fun dst b rest room waits => ?_,
      fun dst c rest room answered head other => ?_, fun dst c rest room answered head current => ?_,
      fun dst c epoch id base index count n body heard => ⟨fun sv serving same last all => ?_, fun other => ?_⟩,
      fun dst b k heard => State.exec_imageEcho heard⟩
    · rw [work, State.serveNext_full full]
    · rw [work, State.serveNext_nothing answered none]
    · rw [work, State.serveNext_answers room waits]
    · rw [work, State.serveNext_drops room answered head other]
    · refine ⟨fun sv serving all => ?_, fun sv n body serving more segment => ?_, fun n body more idle segments => ?_⟩
      · rw [work, State.serveNext_goesOn room answered head current serving, State.queueSegment_done serving all]
      · rw [work, State.serveNext_goesOn room answered head current serving,
          State.queueSegment_next serving more segment]
      · rw [work, State.serveNext_starts room answered head current idle, State.startImage_queues segments]
        rfl
    · rw [State.exec_imageEcho heard, State.imageDone_last ((congrArg _ (State.leaveHead_repl t)).trans serving) same last all,
        State.leaveHead_repl]
    · rw [State.exec_imageEcho heard, State.imageDone_other fun sv serving => other sv (State.leaveHead_repl t ▸ serving)]
  case service =>
    refine ⟨fun sv dst rest => State.imageTouched_restarts, State.imageTouched_idle, if_pos rfl, fun e new => if_neg new,
      State.dropService_none, fun dst d rest head => ⟨State.dropService_other head, fun sv => State.dropService_queued head,
        State.dropService_drops head⟩, fun dst byte => ⟨State.answerNone_room, State.answerNone_waits⟩⟩
  case pack =>
    refine ⟨?_, ?_, packSegments_fits _ 0 _ profile (List.forall_mem_map.mpr records), packSegments_ne_nil _ 0 _⟩
    · rw [ChannelRec.segments, packSegments_bytes, List.flatMap_def]
    · rw [ChannelRec.segments, packSegments_count, List.length_map, Nat.zero_add]

end Sys2Proof.KeepingCurrent

/-! ## EDIT REQUEST and the lock checks (R61, R62, R138, R150, R196) -/

namespace Sys2Proof.Machine.State

variable {s : State} {n : SlotId} {c : Chan}

/-! ### The request in the order of its refusals (R61, R196) -/

/-- A request directed to this station outside a release phase reaches its own judging (R196). -/
theorem exec_editRequest {rx : Reception} {src dst : Addr} {tag code : Nat} {bs : List Byte} {op : Byte}
    {operands : List Byte} (heard : s.found.receive rx = .deliver src dst (.command tag code bs)) (one : dst ≠ 0)
    (normal : (s.found.hear src).loader.releasePhase = none)
    (read : readCommand code bs = some (.editRequest c op operands)) :
    exec (.editRequest rx) s = .next ((s.found.hear src).editRequestCmd src tag c op operands).review := by
  refine congrArg Host.Outcome.next ((console_taken s rx false _ src dst tag code bs _
    (fun t => t.editRequestCmd src tag c op operands) heard read rfl).trans (congrArg State.review ?_))
  rw [commandTaken, if_neg fun h => one h.1, if_neg (by rw [show s.clearOut.settle = s.found from rfl, normal]; decide)]
  rfl

theorem editRequestCmd_unwatched {src : Addr} {tag : Nat} {op : Byte} {operands : List Byte}
    (unwatched : (s.chan c).watched = false) :
    s.editRequestCmd src tag c op operands = s.answer src tag .notWatched [] := by
  simp only [editRequestCmd, if_pos unwatched]

section
variable {src : Addr} {tag : Nat} {op : Byte} {operands : List Byte} (watched : (s.chan c).watched = true)
include watched

theorem editRequestCmd_elsewhere (elsewhere : (s.view c).holder ≠ some s.me) :
    s.editRequestCmd src tag c op operands = s.answer src tag .notOnAirHere [] := by
  simp only [editRequestCmd, watched, Bool.true_eq_false, if_false, if_pos elsewhere]

variable (mine : (s.view c).holder = some s.me)
include mine

theorem editRequestCmd_stale (other : (s.chan c).replica ≠ .current) :
    s.editRequestCmd src tag c op operands = s.answer src tag .notCurrent [] := by
  simp only [editRequestCmd, watched, Bool.true_eq_false, if_false, mine, ne_eq, not_true_eq_false, if_pos other]

variable (current : (s.chan c).replica = .current)
include current

theorem editRequestCmd_unread (unread : readEdit op operands = none) :
    s.editRequestCmd src tag c op operands = s.answer src tag .badCommand [] := by
  simp only [editRequestCmd, watched, Bool.true_eq_false, if_false, mine, ne_eq, not_true_eq_false, current, unread]

variable {e : EditOp} {rest : List Byte} (read : readEdit op operands = some (e, rest))
include read

theorem editRequestCmd_content {code : ResultCode} (fails : s.contentCheck c e = some code) :
    s.editRequestCmd src tag c op operands = s.answer src tag code [] := by
  simp only [editRequestCmd, watched, Bool.true_eq_false, if_false, mine, ne_eq, not_true_eq_false, current, read, fails]

variable (passes : s.contentCheck c e = none)
include passes

/-- A request whose content passes is judged by the locks, then by the room for its EDIT (R61). -/
theorem editRequestCmd_passes :
    s.editRequestCmd src tag c op operands =
      if (s.holdingSlot c).elim false fun n => s.lockRefuses n c e then s.answer src tag .locked []
      else if !s.hasRoom .one then s.answer src tag .busy []
      else (((s.applyEdit c e).enqueue (.edit c (s.chan c).epoch (s.chan c).nextSeq op
        (operands.take (operands.length - rest.length)))).advanceSeq c).answer src tag .done [] := by
  simp only [editRequestCmd, watched, Bool.true_eq_false, if_false, mine, ne_eq, not_true_eq_false, current, read, passes]

end

theorem locks_iff (e : EditOp) : ((s.holdingSlot c).elim false fun n => s.lockRefuses n c e) = true ↔
    ∃ n, s.holdingSlot c = some n ∧ s.lockRefuses n c e = true := by
  cases s.holdingSlot c <;> simp

/-! ### The place of the current event (R62, R138, R150) -/

/-- An event id, where the channel's list holds it. -/
def inList (s : State) (c : Chan) (id : Option Nat) : Option Nat :=
  id.bind fun id => if (findEvent id (s.chan c).list).isSome then some id else none

theorem lockPlace_joining (joining : (s.slot n).state = .joining) :
    s.lockPlace n c = s.inList c ((s.slot n).join.bind Plan.event) := by
  simp only [lockPlace, if_pos joining, inList]

theorem lockPlace_current {cue : Cue} {id : Nat} (runs : (s.slot n).state ≠ .joining)
    (current : (s.slot n).cur = some cue) (event : cue.event = some id) : s.lockPlace n c = s.inList c (some id) := by
  simp only [lockPlace, if_neg runs, current, Option.bind_some, event, inList]

theorem lockPlace_fill (runs : (s.slot n).state ≠ .joining) (fill : (s.slot n).cur.bind Cue.event = none) :
    s.lockPlace n c = s.inList c (s.chan c).airEvent := by
  simp only [lockPlace, if_neg runs, fill, inList]

theorem airEvent_air {ch : ChannelRec} {a : Anchor} (anchored : ch.anchor = some a) (air : a.source = .air) :
    ch.airEvent = some a.event := by
  simp [ChannelRec.airEvent, anchored, air]

theorem airEvent_none {ch : ChannelRec} (others : ∀ a, ch.anchor = some a → a.source ≠ .air) : ch.airEvent = none := by
  rcases anchored : ch.anchor with _ | a
  · simp [ChannelRec.airEvent, anchored]
  · simp [ChannelRec.airEvent, anchored, others a anchored]

/-- The current event itself and the events before it are at or before it (R62). -/
theorem atOrBefore_iff {place id : Nat} {before after : List Rec} {cur : Rec} (current : s.lockPlace n c = some place)
    (found : splitAt place (s.chan c).list = some (before, cur, after)) :
    s.atOrBefore n c id = true ↔ id = place ∨ ∃ z ∈ before, z.stated.id = id := by
  obtain ⟨-, named, -⟩ := splitAt_eq_some.mp found
  simp only [atOrBefore, current, Option.bind_some, found, Bool.or_eq_true, decide_eq_true_eq, List.any_eq_true, named,
    eq_comm (a := id)]

/-! ### The rows of the lock checks (R62, R138) -/

/-- A new duration of the current cue's event whose end is far enough off. -/
theorem newEndAllowed_iff {e : EditOp} {id : Nat} : s.newEndAllowed n e id = true ↔
    ∃ d cue, e.duration = some d ∧ (s.slot n).cur = some cue ∧ (s.slot n).state ≠ .joining ∧ cue.event = some id ∧
      Pos.atOrPast s.rate (cue.anchored.add s.rate d) (s.now.add s.rate s.cfg.lockLead) = true := by
  unfold newEndAllowed
  split
  next d cue duration current => simp [duration, current, and_assoc]
  next other =>
    refine iff_of_false Bool.false_ne_true ?_
    rintro ⟨d, cue, duration, current, -⟩
    exact other d cue duration current

/-- The event of a handback plan, or of a locked next cue (R138). -/
def Barred (s : State) (n : SlotId) (id : Nat) : Prop :=
  (∃ h, (s.slot n).handback = some h ∧ h.event = id) ∨
    (∃ a, (s.slot n).armed = some a ∧ a.locked = true ∧ a.event = id)

theorem nextLocked_iff (x : Slot) : x.armed.elim false Armed.locked = true ↔ ∃ a, x.armed = some a ∧ a.locked = true := by
  cases x.armed <;> simp

theorem lockRefuses_first (r : RawRecord) : s.lockRefuses n c (.insertAfter none r) = true ↔
    (s.lockPlace n c ≠ none ∨ ∃ a, (s.slot n).armed = some a ∧ a.locked = true) := by
  simp only [lockRefuses, Bool.or_eq_true, nextLocked_iff, Option.isSome_iff_ne_none]

theorem lockRefuses_after (a : Nat) (r : RawRecord) : s.lockRefuses n c (.insertAfter (some a) r) =
    if s.lockPlace n c = some a then
      decide ((s.slot n).state = .joining) || (s.slot n).armed.elim false Armed.locked
    else s.atOrBefore n c a := rfl

/-- An edit on an event is refused at or before the current one but for a new end, and on a barred event. -/
theorem lockRefuses_target {e : EditOp} {id : Nat} (target : e.target = some id) : s.lockRefuses n c e = true ↔
    (s.atOrBefore n c id = true ∧ s.newEndAllowed n e id = false) ∨ s.Barred n id := by
  have row : s.lockRefuses n c e = ((s.atOrBefore n c id && !s.newEndAllowed n e id) ||
      ((s.slot n).armed.elim false fun a => a.locked && decide (a.event = id)) ||
      ((s.slot n).handback.elim false fun h => decide (h.event = id))) := by
    cases e with
    | insertAfter | setProfile => cases target
    | delete | replace | retimeStart | retimeDuration | setEnd => cases target; rfl
  have locked : ((s.slot n).armed.elim false fun a => a.locked && decide (a.event = id)) = true ↔
      ∃ a, (s.slot n).armed = some a ∧ a.locked = true ∧ a.event = id := by
    cases (s.slot n).armed <;> simp
  have handed : ((s.slot n).handback.elim false fun h => decide (h.event = id)) = true ↔
      ∃ h, (s.slot n).handback = some h ∧ h.event = id := by
    cases (s.slot n).handback <;> simp
  rw [row, Barred, Bool.or_eq_true, Bool.or_eq_true, locked, handed, Bool.and_eq_true, Bool.not_eq_true', or_assoc,
    or_comm (a := ∃ h, _)]

/-- Without a new end that is far enough off, an edit at or before the current event is refused. -/
theorem lockRefuses_behind {e : EditOp} {id : Nat} (target : e.target = some id) (behind : s.atOrBefore n c id = true)
    (kept : e.duration = none ∨ (s.slot n).state = .joining ∨ (s.slot n).cur.bind Cue.event ≠ some id) :
    s.lockRefuses n c e = true := by
  refine (lockRefuses_target target).mpr (.inl ⟨behind, Bool.eq_false_iff.mpr fun allowed => ?_⟩)
  obtain ⟨d, cue, duration, current, runs, event, -⟩ := newEndAllowed_iff.mp allowed
  rcases kept with none | joining | other
  · rw [none] at duration; cases duration
  · exact runs joining
  · exact other (by rw [current, Option.bind_some, event])

section
variable {place : Nat} {before after : List Rec} {cur : Rec} (here : s.lockPlace n c = some place)
  (found : splitAt place (s.chan c).list = some (before, cur, after))
include here found

theorem lockRefuses_before {e : EditOp} {z : Rec} (target : e.target = some z.stated.id) (mem : z ∈ before)
    (kept : (s.slot n).state = .joining ∨ (s.slot n).cur.bind Cue.event ≠ some z.stated.id) :
    s.lockRefuses n c e = true :=
  lockRefuses_behind target ((atOrBefore_iff here found).mpr (.inr ⟨z, mem, rfl⟩)) (.inr kept)

theorem lockRefuses_afterBefore {z : Rec} (r : RawRecord) (mem : z ∈ before) (other : z.stated.id ≠ place) :
    s.lockRefuses n c (.insertAfter (some z.stated.id) r) = true := by
  rw [lockRefuses_after, if_neg (by rw [here, Option.some_inj]; exact other.symm)]
  exact (atOrBefore_iff here found).mpr (.inr ⟨z, mem, rfl⟩)

theorem lockRefuses_place {e : EditOp} (target : e.target = some place)
    (kept : e.duration = none ∨ (s.slot n).state = .joining ∨ (s.slot n).cur.bind Cue.event ≠ some place) :
    s.lockRefuses n c e = true :=
  lockRefuses_behind target ((atOrBefore_iff here found).mpr (.inl rfl)) kept

theorem lockRefuses_newEnd {e : EditOp} {d : Nat} {cue : Cue} (target : e.target = some place)
    (duration : e.duration = some d) (runs : (s.slot n).state ≠ .joining) (current : (s.slot n).cur = some cue)
    (event : cue.event = some place) (free : ¬s.Barred n place) : s.lockRefuses n c e = false ↔
      Pos.atOrPast s.rate (cue.anchored.add s.rate d) (s.now.add s.rate s.cfg.lockLead) = true := by
  have behind : s.atOrBefore n c place = true := (atOrBefore_iff here found).mpr (.inl rfl)
  have allowed : s.newEndAllowed n e place = Pos.atOrPast s.rate (cue.anchored.add s.rate d) (s.now.add s.rate s.cfg.lockLead) := by
    simp [newEndAllowed, duration, current, runs, event]
  rw [← allowed, ← Bool.not_eq_true, lockRefuses_target target]
  simp [behind, free]

theorem lockRefuses_behindNone {id : Nat} (other : id ≠ place) (later : ∀ z ∈ before, z.stated.id ≠ id) :
    s.atOrBefore n c id = false :=
  Bool.eq_false_iff.mpr fun h => ((atOrBefore_iff here found).mp h).elim other fun ⟨z, mem, same⟩ => later z mem same

end

end Sys2Proof.Machine.State

/-! ## Edit requests settle their obligation -/

namespace Sys2Proof.KeepingCurrent

open Sys2Proof.Machine

/-- Settles O54: the refusals in their order and the request that passes; what bars an edit whatever the place; the
place of the current event, and the rows of the lock checks about it. -/
theorem editRequestsAreJudgedInOrder : Obligations.EditRequestsAreJudgedInOrder := by
  refine ⟨fun rx s src dst tag code bs c op operands => ?request, fun s n c => ?barred, fun s n c => ?place⟩
  case request =>
    intro t heard one normal read out refused begun
    have work : out = .next (t.editRequestCmd src tag c op operands).review :=
      State.exec_editRequest heard one normal read
    refine ⟨fun unwatched => ?_, fun watched elsewhere => ?_, fun watched mine other => ?_,
      fun ⟨watched, mine, current⟩ unread => ?_, fun e rest ⟨watched, mine, current⟩ read => ?_⟩
    · rw [work, State.editRequestCmd_unwatched unwatched]
    · rw [work, State.editRequestCmd_elsewhere watched elsewhere]
    · rw [work, State.editRequestCmd_stale watched mine other]
    · rw [work, State.editRequestCmd_unread watched mine current unread]
    · refine ⟨fun k fails => ?_, fun passes locked => ?_, fun passes free full => ?_, fun passes free room => ?_⟩
      · rw [work, State.editRequestCmd_content watched mine current read fails]
      all_goals rw [work, State.editRequestCmd_passes watched mine current read passes]
      · rw [if_pos ((State.locks_iff e).mpr locked)]
      · rw [if_neg (mt (State.locks_iff e).mp free), if_pos (by rw [full]; rfl)]
      · rw [if_neg (mt (State.locks_iff e).mp free), if_neg (by rw [room]; decide)]
  case barred =>
    exact ⟨fun p => rfl, State.lockRefuses_first, fun e id target barred => (State.lockRefuses_target target).mpr (.inr barred)⟩
  case place =>
    refine ⟨State.lockPlace_joining, fun cue id => State.lockPlace_current, fun runs fill => ⟨fun a anchored air => ?_,
      fun none => ?_⟩, fun place before cur after here found => ?_⟩
    · rw [State.lockPlace_fill runs fill, State.airEvent_air anchored air]; rfl
    · rw [State.lockPlace_fill runs fill, State.airEvent_none none]; rfl
    · refine ⟨fun e z target mem _ kept => State.lockRefuses_before here found target mem kept,
        fun z r => State.lockRefuses_afterBefore here found r, fun r => ?_, fun e => State.lockRefuses_place here found,
        fun e d cue => State.lockRefuses_newEnd here found, fun id other later => ⟨fun r => ?_, fun e target free => ?_⟩⟩
      · rw [State.lockRefuses_after, if_pos here, Bool.or_eq_true, decide_eq_true_eq, State.nextLocked_iff]
      · rw [State.lockRefuses_after, if_neg (by rw [here, Option.some_inj]; exact other.symm)]
        exact State.lockRefuses_behindNone here found other later
      · rw [← Bool.not_eq_true, State.lockRefuses_target target, State.lockRefuses_behindNone here found other later]
        exact fun h => h.elim (fun ⟨behind, _⟩ => Bool.false_ne_true behind) free

end Sys2Proof.KeepingCurrent

/-! ## A list whose front alone is trimmed (R23, R24)

A list installed bears no past flag. Each walk may mark events before a standing anchor's past and trim them to four;
what stands from the anchor on, or the whole list without one, stays. -/

namespace Sys2Proof.Machine

/-- What the walk does not write of a record: its pool index and its stated fields. -/
def Rec.key (e : Rec) : Nat × Stated := (e.idx, e.stated)

/-- A list whose `tail` stands with no past flag, and of whose front at least four records stand, or all. -/
def Trimmed (front tail : List (Nat × Stated)) (l : List Rec) : Prop :=
  ∃ k rest, l = k ++ rest ∧ (k.map Rec.key).Sublist front ∧ min 4 front.length ≤ k.length ∧
    rest.map Rec.key = tail ∧ ∀ x ∈ rest, x.derived.past = false

/-- The anchor's event begins the tail, or without an anchor there is no front. -/
def BeginsAtAnchor (a : Option Anchor) (front tail : List (Nat × Stated)) : Prop :=
  (a = none ∧ front = []) ∨
    ∃ b x xs, a = some b ∧ tail = x :: xs ∧ x.2.id = b.event ∧ ∀ y ∈ front, y.2.id ≠ b.event

section
variable {front tail : List (Nat × Stated)} {l m : List Rec}

theorem map_key_of_map_fixed (h : l.map Rec.fixed = m.map Rec.fixed) : l.map Rec.key = m.map Rec.key := by
  have keys := congrArg (List.map fun x => (x.1, x.2.1)) h
  rw [List.map_map, List.map_map] at keys
  exact keys

theorem forall_past_of_map_fixed (h : l.map Rec.fixed = m.map Rec.fixed) (clear : ∀ x ∈ m, x.derived.past = false) :
    ∀ x ∈ l, x.derived.past = false := by
  have flags : l.map (fun x => x.derived.past) = m.map fun x => x.derived.past := by
    simpa [Function.comp_def, Rec.fixed] using congrArg (List.map fun x => x.2.2) h
  rw [← List.forall_mem_map (P := (· = false)), flags]
  exact List.forall_mem_map.mpr clear

theorem Trimmed.of_map_fixed (h : Trimmed front tail l) (same : m.map Rec.fixed = l.map Rec.fixed) :
    Trimmed front tail m := by
  obtain ⟨k, rest, rfl, sub, four, keys, clear⟩ := h
  rw [List.map_append] at same
  obtain ⟨k', rest', rfl, sameFront, sameRest⟩ := List.map_eq_append_iff.mp same
  refine ⟨k', rest', rfl, map_key_of_map_fixed sameFront ▸ sub, ?_, (map_key_of_map_fixed sameRest).trans keys,
    forall_past_of_map_fixed sameRest clear⟩
  rwa [show k'.length = k.length by simpa using congrArg List.length sameFront]

/-- Marking past touches only the front (R23). -/
theorem Trimmed.markPast {a : Option Anchor} (h : Trimmed front tail l) (begins : BeginsAtAnchor a front tail)
    (r : Rate) (now : Pos) : Trimmed front tail (markPastList r now a l) := by
  rcases begins with ⟨rfl, -⟩ | ⟨b, x, xs, rfl, rfl, named, others⟩
  · exact h
  · obtain ⟨k, rest, rfl, sub, four, keys, clear⟩ := h
    obtain ⟨e, es, rfl, key, -⟩ := List.map_eq_cons_iff.mp keys
    have split : splitAt b.event (k ++ e :: es) = some (k, e, es) := by
      refine splitAt_eq_some.mpr ⟨rfl, by rw [← named, ← key]; rfl, fun y mem => ?_⟩
      exact others y.key (sub.subset (List.mem_map_of_mem mem))
    rw [markPastList_found r now b _ k es e split]
    exact ⟨k.map (Rec.marked r now), e :: es, rfl, by rw [List.map_map]; exact sub, by rwa [List.length_map], keys, clear⟩

theorem takePast_append (k rest : List Rec) (n : Nat) (short : n ≤ pastCount k) :
    (takePast n (k ++ rest)).2 = (takePast n k).2 ++ rest := by
  induction k generalizing n with
  | nil =>
    obtain rfl : n = 0 := Nat.le_zero.mp short
    cases rest <;> rfl
  | cons e es ih =>
    cases n with
    | zero => rfl
    | succ n =>
      cases past : e.derived.past with
      | true =>
        have short : n ≤ pastCount es := by simpa [pastCount, past] using short
        simpa [takePast, past] using ih n short
      | false =>
        have short : n + 1 ≤ pastCount es := by simpa [pastCount, past] using short
        simpa [takePast, past] using ih (n + 1) short

theorem takePast_length (k : List Rec) (n : Nat) (short : n ≤ pastCount k) :
    (takePast n k).2.length + n = k.length := by
  obtain ⟨taken, -, -⟩ := takePast_spec n k
  have all := (takePast_perm n k).length_eq
  rw [List.length_append, taken, List.length_take] at all
  rw [pastCount] at short
  omega

/-- Trimming takes only from the front, and leaves four of it, or all (R24). -/
theorem Trimmed.trim (h : Trimmed front tail l) : Trimmed front tail (trimList l).2 := by
  obtain ⟨k, rest, rfl, sub, four, keys, clear⟩ := h
  have count : pastCount (k ++ rest) = pastCount k := by
    have none : (rest.filter fun x => x.derived.past) = [] := List.filter_eq_nil_iff.mpr fun x mem => by simp [clear x mem]
    rw [pastCount, List.filter_append, none, List.append_nil, pastCount]
  have few : pastCount k ≤ k.length := List.length_filter_le ..
  have left := takePast_length k (pastCount k - 4) (Nat.sub_le ..)
  rw [trimList, count, takePast_append k rest _ (Nat.sub_le ..)]
  refine ⟨_, rest, rfl, ((takePast_sublist _ k).map _).trans sub, ?_, keys, clear⟩
  omega

theorem trimmed_of_clear {front tail : List Rec} (clear : ∀ x ∈ front ++ tail, x.derived.past = false) :
    Trimmed (front.map Rec.key) (tail.map Rec.key) (front ++ tail) :=
  ⟨front, tail, rfl, List.Sublist.refl _, by rw [List.length_map]; omega, rfl,
    fun x mem => clear x (List.mem_append_right _ mem)⟩

end

namespace State

theorem trimmed_walked {s : State} {c : Chan} {front tail : List (Nat × Stated)}
    (h : Trimmed front tail (s.chan c).list) (begins : BeginsAtAnchor (s.chan c).anchor front tail) :
    Trimmed front tail (trimList (s.walked c)).2 :=
  ((h.of_map_fixed (walkList_map_fixed ..)).markPast begins _ _).trim

/-! ### The walks of an install (R23 to R25, R48) -/

/-- What walks of any channels leave of a state, channel `c`'s list apart. -/
structure WalkedFrom (s : State) (c : Chan) (front tail : List (Nat × Stated)) (t : State) : Prop where
  chan : ∃ l, t.chan c = { s.chan c with list := l } ∧ Trimmed front tail l
  free : s.free <+: t.free
  probes : t.probes = s.probes
  parked : t.parkedEdits = s.parkedEdits

section
variable {s t : State} {c : Chan} {front tail : List (Nat × Stated)}

theorem WalkedFrom.refl (h : Trimmed front tail (s.chan c).list) : s.WalkedFrom c front tail s :=
  ⟨⟨_, rfl, h⟩, List.prefix_rfl, rfl, rfl⟩

theorem WalkedFrom.walkOwn (h : s.WalkedFrom c front tail t) (begins : BeginsAtAnchor (s.chan c).anchor front tail)
    (d : Chan) : s.WalkedFrom c front tail (t.walkOwn d) where
  chan := by
    obtain ⟨l, record, trimmed⟩ := h.chan
    by_cases same : c = d
    · subst same
      cases watched : (t.chan c).watched with
      | false => rw [walkOwn_of_unwatched t watched]; exact h.chan
      | true =>
        refine ⟨_, (walkOwn_chan t watched).trans (by rw [record]), trimmed_walked ?_ ?_⟩
        · rw [record]; exact trimmed
        · rw [record]; exact begins
    · rw [walkOwn_chan_other t same]; exact h.chan
  free := h.free.trans (walkOwn_free_prefix t d)
  probes := (walkOwn_probes t d).trans h.probes
  parked := (parkedEdits_walkOwn t d).trans h.parked

theorem WalkedFrom.walk (h : s.WalkedFrom c front tail t) (begins : BeginsAtAnchor (s.chan c).anchor front tail)
    (d : Chan) : s.WalkedFrom c front tail (t.walk d) :=
  List.foldlRecOn _ _ (h.walkOwn begins d) fun _ ih f _ => ih.walkOwn begins f

theorem WalkedFrom.walkRelated (h : s.WalkedFrom c front tail t) (begins : BeginsAtAnchor (s.chan c).anchor front tail)
    (old : State) : s.WalkedFrom c front tail (t.walkRelated old c) := by
  refine forChans_keeps (P := s.WalkedFrom c front tail) (fun d u ih => ?_) t h
  split
  · exact ih.walk begins d
  · exact ih

end

end State

end Sys2Proof.Machine

/-! ## Image segments and the shadow list (R53 to R57) -/

namespace Sys2Proof.Machine

/-! ### Places of segments and records (R55) -/

theorem insertSegment_between {i : Nat} {rs : List Rec} {as bs : List (Nat × List Rec)} (lower : ∀ x ∈ as, x.1 < i)
    (higher : ∀ x ∈ bs, i < x.1) : insertSegment i rs (as ++ bs) = as ++ (i, rs) :: bs := by
  induction as with
  | nil =>
    cases bs with
    | nil => rfl
    | cons b bs => exact if_pos (higher b (List.mem_cons_self ..))
  | cons a as ih =>
    obtain ⟨first, lower⟩ := List.forall_mem_cons.mp lower
    rw [List.cons_append, insertSegment, if_neg (Nat.lt_asymm first), ih lower, List.cons_append]

section
variable {rate : Rate} {n : Nat} {bs rest : List Byte} {free held : List Nat} {raw : RawRecord} {st : Stated}

theorem storeRecs_unread (unread : readRecord bs = none) :
    storeRecs rate (n + 1) bs free held = ([], free, .failed .diverged) := by simp only [storeRecs, unread]

theorem storeRecs_unsound {code : ResultCode} (read : readRecord bs = some (raw, rest))
    (unsound : raw.judge rate = .error code) :
    storeRecs rate (n + 1) bs free held = ([], free, .failed .diverged) := by simp only [storeRecs, read, unsound]

theorem storeRecs_repeated (read : readRecord bs = some (raw, rest)) (sound : raw.judge rate = .ok st)
    (bad : st.id ∈ held ∨ 512 ≤ held.length) :
    storeRecs rate (n + 1) bs free held = ([], free, .failed .diverged) := by
  simp only [storeRecs, read, sound, if_pos bad]

theorem storeRecs_empty (read : readRecord bs = some (raw, rest)) (sound : raw.judge rate = .ok st)
    (new : st.id ∉ held) (short : held.length < 512) :
    storeRecs rate (n + 1) bs [] held = ([], [], .failed .poolFull) := by
  simp only [storeRecs, read, sound, if_neg (not_or.mpr ⟨new, Nat.not_le.mpr short⟩)]

theorem storeRecs_takes {i : Nat} {more : List Nat} (read : readRecord bs = some (raw, rest))
    (sound : raw.judge rate = .ok st) (new : st.id ∉ held) (short : held.length < 512) :
    storeRecs rate (n + 1) bs (i :: more) held =
      (⟨i, st, Derived.fresh⟩ :: (storeRecs rate n rest more (st.id :: held)).1,
        (storeRecs rate n rest more (st.id :: held)).2) := by
  simp only [storeRecs, read, sound, if_neg (not_or.mpr ⟨new, Nat.not_le.mpr short⟩)]

end

/-- Records stored bear fresh derived fields. -/
theorem storeRecs_fresh (rate : Rate) (n : Nat) (bs : List Byte) (free held : List Nat) :
    ∀ e ∈ (storeRecs rate n bs free held).1, e.derived = Derived.fresh := by
  induction n generalizing bs free held with
  | zero => simp [storeRecs]
  | succ n ih =>
    rcases read : readRecord bs with _ | ⟨raw, rest⟩
    · simp [storeRecs_unread read]
    rcases sound : raw.judge rate with code | st
    · simp [storeRecs_unsound read sound]
    by_cases bad : st.id ∈ held ∨ 512 ≤ held.length
    · simp [storeRecs_repeated read sound bad]
    obtain ⟨new, short⟩ := not_or.mp bad
    cases free with
    | nil => simp [storeRecs_empty read sound new (Nat.lt_of_not_le short)]
    | cons i more =>
      rw [storeRecs_takes read sound new (Nat.lt_of_not_le short)]
      exact List.forall_mem_cons.mpr ⟨rfl, ih _ _ _⟩

theorem ChannelRec.admits_iff {ch : ChannelRec} {epoch base : Nat} :
    ch.admits epoch base = true ↔ ch.epoch < epoch ∨ (epoch = ch.epoch ∧ ch.nextSeq ≤ base) := by
  simp [ChannelRec.admits]

namespace State

variable {s : State} {c : Chan}

/-! ### Which segments are taken (R53, R54) -/

theorem exec_imageSegmentReceived {rx : Reception} {src dst : Addr} {g : Segment}
    (heard : s.found.receive rx =
      .deliver src dst (.image (chanNo c) g.epoch g.imageId g.base g.index g.count g.records g.body)) :
    exec (.imageSegmentReceived rx) s = .next ((s.found.hear src).imageArrives c src g).review := by
  refine congrArg Host.Outcome.next ((arrival_taken s rx _ src dst _ _ heard rfl).trans ?_)
  simp only [chanOf_chanNo]
  rfl

theorem imageArrives_other {src : Addr} {g : Segment}
    (other : ¬((s.chan c).watched = true ∧ (s.chan c).request.bind ImageRequest.target = some src)) :
    s.imageArrives c src g = s := by
  rw [imageArrives, if_pos]
  by_cases watched : (s.chan c).watched = true
  · simpa [watched] using other
  · simp [watched]

section
variable {src : Addr} {g : Segment}
  (ours : (s.chan c).watched = true ∧ (s.chan c).request.bind ImageRequest.target = some src)
include ours

theorem imageArrives_ours : s.imageArrives c src g =
    if g.count = 0 then s.chooseTarget c
    else if g.index < g.count ∧ (s.chan c).admits g.epoch g.base then s.takeSegment c g
    else s := by
  rw [imageArrives, if_neg (by simp [ours.1, ours.2])]

theorem imageArrives_none (none : g.count = 0) : s.imageArrives c src g = s.chooseTarget c := by
  rw [imageArrives_ours ours, if_pos none]

theorem imageArrives_late (some : g.count ≠ 0) (late : ¬(g.index < g.count ∧
    ((s.chan c).epoch < g.epoch ∨ (g.epoch = (s.chan c).epoch ∧ (s.chan c).nextSeq ≤ g.base)))) :
    s.imageArrives c src g = s := by
  rw [imageArrives_ours ours, if_neg some, if_neg (by rwa [ChannelRec.admits_iff])]

theorem imageArrives_passes (passes : g.index < g.count ∧
    ((s.chan c).epoch < g.epoch ∨ (g.epoch = (s.chan c).epoch ∧ (s.chan c).nextSeq ≤ g.base))) :
    s.imageArrives c src g = s.takeSegment c g := by
  rw [imageArrives_ours ours, if_neg (Nat.ne_zero_of_lt passes.1), if_pos (by rwa [ChannelRec.admits_iff])]

end

/-! ### What a segment taken does (R54, R57) -/

theorem freeShadow_none (none : (s.chan c).shadow = none) : s.freeShadow c = s := by simp only [freeShadow, none]

theorem takeSegment_current {g : Segment} (current : (s.chan c).replica = .current) : s.takeSegment c g = s := by
  simp only [takeSegment, current]

theorem takeSegment_opens {g : Segment} (idle : (s.chan c).replica = .empty ∨ (s.chan c).replica = .stale)
    (none : (s.chan c).shadow = none) : s.takeSegment c g =
      ((s.openShadow c g ((s.chan c).replica, (s.chan c).cause)).segmentAccepted c).storeSegment c g := by
  rcases idle with state | state <;> simp only [takeSegment, state, freeShadow_none none]

section
variable {g : Segment} {sh : Shadow} (loading : (s.chan c).replica = .loading) (shadow : (s.chan c).shadow = some sh)
include loading shadow

theorem takeSegment_restarts (other : sh.imageId ≠ g.imageId) : s.takeSegment c g =
    (((s.freeShadow c).openShadow c g sh.prior).segmentAccepted c).storeSegment c g := by
  simp only [takeSegment, loading, shadow, if_pos other]

theorem takeSegment_goesOn (same : sh.imageId = g.imageId) (count : sh.count = g.count)
    (new : ∀ x ∈ sh.segments, x.1 ≠ g.index) : s.takeSegment c g = (s.segmentAccepted c).storeSegment c g := by
  have fits : ¬((sh.segments.any fun x => decide (x.1 = g.index)) || decide (sh.count ≠ g.count)) = true := by
    rw [Bool.or_eq_true, not_or, List.any_eq_true]
    exact ⟨fun ⟨x, mem, same⟩ => new x mem (of_decide_eq_true same), by simp [count]⟩
  simp only [takeSegment, loading, shadow, if_neg (not_not_intro same), if_neg fits]

theorem takeSegment_repeats (same : sh.imageId = g.imageId)
    (bad : sh.count ≠ g.count ∨ ∃ x ∈ sh.segments, x.1 = g.index) : s.takeSegment c g = s := by
  have refused : ((sh.segments.any fun x => decide (x.1 = g.index)) || decide (sh.count ≠ g.count)) = true := by
    simpa [or_comm] using bad
  simp only [takeSegment, loading, shadow, if_neg (not_not_intro same), if_pos refused]

end

theorem segmentAccepted_chan (s : State) (c : Chan) : (s.segmentAccepted c).chan c = { s.chan c with
    request := (s.chan c).request.map fun q => { q with timer := 0, stage := .loading }
    shadow := (s.chan c).shadow.map fun sh => { sh with age := 0 } } := by
  rw [segmentAccepted, modChan_chan, modRequest, modChan_chan]

theorem segmentAccepted_chan_other {d : Chan} (other : d ≠ c) : (s.segmentAccepted c).chan d = s.chan d :=
  (modChan_chan_other _ c d _ other.symm).trans (modChan_chan_other s c d _ other.symm)

/-! ### The storing of a segment (R55) -/

/-- A segment's records stored in an open shadow, whose profile becomes `p`, and what that leads to. -/
def keepRecords (s : State) (c : Chan) (g : Segment) (sh : Shadow) (p : Option Profile) (bs : List Byte) : State :=
  let x := storeRecs s.rate g.records bs s.free ((shadowRecs sh).map fun e => e.stated.id)
  let t := ({ s with free := x.2.1 } : State).modChan c fun ch =>
    { ch with shadow := some { sh with segments := insertSegment g.index x.1 sh.segments, profile := p } }
  match x.2.2 with
  | .failed cause => t.abandonFor c cause
  | .whole => t.completeLoad c

section
variable {g : Segment} {sh : Shadow} (shadow : (s.chan c).shadow = some sh)
include shadow

theorem storeSegment_later (later : g.index ≠ 0) : s.storeSegment c g = s.keepRecords c g sh sh.profile g.body := by
  simp only [storeSegment, shadow, if_neg later]
  rfl

theorem storeSegment_first {raw : RawProfile} {bs : List Byte} (first : g.index = 0)
    (read : readProfile g.body = some (raw, bs)) :
    s.storeSegment c g = s.keepRecords c g sh (some raw.store) bs := by
  simp only [storeSegment, shadow, if_pos first, read, Option.map_some]
  rfl

theorem storeSegment_unread (first : g.index = 0) (unread : readProfile g.body = none) :
    s.storeSegment c g = s.abandonFor c .diverged := by
  simp only [storeSegment, shadow, if_pos first, unread, Option.map_none]

end

section
variable {g : Segment} {sh : Shadow} {p : Option Profile} {bs : List Byte} {recs : List Rec} {left : List Nat}

theorem keepRecords_whole (stored : storeRecs s.rate g.records bs s.free ((shadowRecs sh).map fun e => e.stated.id) =
    (recs, left, .whole)) : s.keepRecords c g sh p bs = (({ s with free := left } : State).modChan c fun ch =>
      { ch with shadow := some { sh with segments := insertSegment g.index recs sh.segments, profile := p } }).completeLoad c := by
  simp only [keepRecords, stored]

theorem keepRecords_failed {cause : StaleCause}
    (stored : storeRecs s.rate g.records bs s.free ((shadowRecs sh).map fun e => e.stated.id) =
      (recs, left, .failed cause)) : s.keepRecords c g sh p bs = (({ s with free := left } : State).modChan c fun ch =>
      { ch with shadow := some { sh with segments := insertSegment g.index recs sh.segments, profile := p } }).abandonFor c
        cause := by
  simp only [keepRecords, stored]

end

/-! ### A whole load judged, and a load abandoned (R55 to R57) -/

section
variable {sh : Shadow} (shadow : (s.chan c).shadow = some sh)
include shadow

theorem completeLoad_waits (missing : sh.segments.length < sh.count) : s.completeLoad c = s := by
  simp only [completeLoad, shadow, if_pos missing]

theorem completeLoad_whole (all : sh.count ≤ sh.segments.length) : s.completeLoad c =
    if inOrder s.rate (shadowRecs sh) && (s.chan c).admits sh.epoch sh.base then s.install c sh
    else s.abandonFor c .diverged := by
  simp only [completeLoad, shadow, if_neg (Nat.not_lt.mpr all)]

theorem setStale_loading (cause : StaleCause) (loading : (s.chan c).replica = .loading) : s.setStale c cause =
    ((s.modChan c fun ch => { ch with shadow := none }).freeRecs (shadowRecs sh)).modChan c fun ch =>
      { ch with replica := .stale, cause := some cause } := by
  simp [setStale, loading, freeShadow, shadow]

end

theorem candidates_congr {t : State} (authority : (t.chan c).authority = (s.chan c).authority) (peers : t.peers = s.peers)
    (views : t.views = s.views) (me : t.me = s.me) : t.candidates c = s.candidates c := by
  simp only [candidates, authority, me, peer, peers, view, views]
  rfl

section
variable (loading : (s.chan c).replica = .loading) (cause : StaleCause)
include loading

theorem setStale_request : ((s.setStale c cause).chan c).request = (s.chan c).request := by
  rw [setStale_chan s cause (by rw [loading]; decide)]

/-- A load abandoned leaves the replica STALE with its cause, and its list (R57). -/
theorem abandonFor_chan : ((s.abandonFor c cause).chan c).replica = .stale ∧
    ((s.abandonFor c cause).chan c).cause = some cause ∧ ((s.abandonFor c cause).chan c).shadow = none ∧
    ((s.abandonFor c cause).chan c).list = (s.chan c).list := by
  rw [abandonFor, chan_of_bare (bare_chooseTarget (s.setStale c cause) c c),
    setStale_chan s cause (by rw [loading]; decide)]
  exact ⟨rfl, rfl, rfl, rfl⟩

variable {sh : Shadow} (shadow : (s.chan c).shadow = some sh)
include shadow

theorem candidates_setStale : (s.setStale c cause).candidates c = s.candidates c := by
  refine candidates_congr ?_ ?_ (setStale_views s c cause) ?_
  · rw [setStale_chan s cause (by rw [loading]; decide)]
  · rw [setStale_loading shadow cause loading]; rfl
  · rw [setStale_loading shadow cause loading]; rfl

/-- The records of an abandoned load return to the free list (R57). -/
theorem abandonFor_free : (s.abandonFor c cause).free = s.free ++ (shadowRecs sh).map Rec.idx := by
  rw [abandonFor, free_of_stock (stock_chooseTarget ..), setStale_free s c cause (by rw [loading]; decide), shadow]
  rfl

end

theorem chooseTarget_none (none : (s.chan c).request = none) : s.chooseTarget c = s := by
  simp only [chooseTarget, none]

end State

end Sys2Proof.Machine

/-! ## The install of a whole image (R23, R24, R35, R41, R56, R98) -/

namespace Sys2Proof.Machine.State

variable {s : State} {c : Chan}

/-- A drain with no parked edit of the channel does nothing (R41). -/
theorem drain_none (current : (s.chan c).replica = .current) (others : ∀ e ∈ s.repl.parked, e.chan ≠ c) :
    s.drain c = s := by
  have stay : s.repl.parked.filter (Parked.stays c (s.chan c).epoch (s.chan c).nextSeq) = s.repl.parked :=
    List.filter_eq_self.mpr fun e mem => by simp [Parked.stays, others e mem]
  refine (drainParked_none s current (fun e mem due => others e mem due.1) 16).trans ?_
  rw [stay]
  rfl

/-- The channel's record as its load replaces the list, before a profile of the image. -/
def relisted (s : State) (c : Chan) (sh : Shadow) : State :=
  ((s.modChan c fun ch => { ch with list := shadowRecs sh, shadow := none }).freeRecs (s.chan c).list).modChan c
    fun ch => { ch with epoch := sh.epoch, nextSeq := sh.base }

/-- The state before the walks of an install: the list, the profile, a lost anchor dropped (R35, R56). -/
def imageListed (s : State) (c : Chan) (sh : Shadow) : State :=
  ((match sh.profile with
    | some p => (s.relisted c sh).putProfile c p
    | none => s.relisted c sh).dropLostAnchor c).imageTouched c

/-- The state before the drain of an install (R56). -/
def installed (s : State) (c : Chan) (sh : Shadow) : State :=
  ((((s.imageListed c sh).walk c).walkRelated s c).modChan c fun ch =>
    { ch with replica := .current, cause := none, withheld := false, request := none }).freeParked c fun e =>
      decide (e.epoch ≠ sh.epoch) || decide (e.seq < sh.base)

theorem install_eq (s : State) (c : Chan) (sh : Shadow) : s.install c sh = (s.installed c sh).drain c := rfl

section
variable (s c) (sh : Shadow)

theorem relisted_chan : (s.relisted c sh).chan c = { s.chan c with
    list := shadowRecs sh, shadow := none, epoch := sh.epoch, nextSeq := sh.base } := by
  refine (modChan_chan _ c _).trans ?_
  rw [show ((s.modChan c fun ch => { ch with list := shadowRecs sh, shadow := none }).freeRecs
    (s.chan c).list).chan c = _ from modChan_chan s c _]

theorem imageListed_chan : (s.imageListed c sh).chan c = { s.chan c with
    list := shadowRecs sh, shadow := none, epoch := sh.epoch, nextSeq := sh.base
    profile := sh.profile.getD (s.chan c).profile
    anchor := keptAnchor (shadowRecs sh) (s.chan c).anchor } := by
  rw [imageListed, imageTouched_chan, dropLostAnchor_chan]
  rcases sh.profile with _ | p
  · dsimp only
    rw [relisted_chan]
    rfl
  · dsimp only
    rw [chan_congr (putProfile_chans ..), modChan_chan, relisted_chan]
    rfl

theorem imageListed_free : (s.imageListed c sh).free = s.free ++ (s.chan c).list.map Rec.idx := by
  rw [imageListed, imageTouched_free, dropLostAnchor, modChan_free]
  rcases sh.profile with _ | p
  · rfl
  · dsimp only
    unfold putProfile
    split <;> rfl

theorem imageListed_parked : (s.imageListed c sh).parkedEdits = s.parkedEdits := by
  rw [imageListed, parkedEdits_imageTouched, dropLostAnchor, parkedEdits_modChan]
  rcases sh.profile with _ | p
  · rfl
  · exact parkedEdits_putProfile ..

variable {s c sh}

theorem imageListed_probes (bare : sh.profile = none) : (s.imageListed c sh).probes = s.probes := by
  rw [imageListed, imageTouched_probes, bare]
  rfl

theorem imageListed_probe {p : Profile} (brought : sh.profile = some p) (k : ProbeId) : (s.imageListed c sh).probe k =
    if (s.probe k).chan = some c ∧ p.mask ≠ (s.chan c).profile.mask then
      { s.probe k with reference := none, gridCount := 0, darkRun := 0, flatRun := 0, freezeRun := 0 }
    else s.probe k := by
  rw [imageListed, probe_congr (imageTouched_probes ..), brought]
  refine (putProfile_probe (s.relisted c sh) c p k).trans ?_
  rw [relisted_chan]
  rfl

/-! ### The list as it is installed -/

theorem past_shadowRecs (fresh : ∀ e ∈ shadowRecs sh, e.derived = Derived.fresh) :
    ∀ e ∈ shadowRecs sh, e.derived.past = false := fun e mem => by rw [fresh e mem]; rfl

theorem keptAnchor_none {l : List Rec} {anchor : Option Anchor}
    (lost : ∀ a, anchor = some a → findEvent a.event l = none) : keptAnchor l anchor = none := by
  rcases anchor with _ | a
  · rfl
  · rw [keptAnchor, Option.bind_some, lost a rfl]; rfl

theorem keptAnchor_found {l before after : List Rec} {a : Anchor} {e : Rec}
    (found : splitAt a.event l = some (before, e, after)) : keptAnchor l (some a) = some a := by
  rw [keptAnchor, Option.bind_some, findEvent_of_splitAt found]; rfl

/-- Where the list holds the anchor's event, the tail that stands through the walks begins there. -/
theorem beginsAtAnchor_found {before after : List Rec} {a : Anchor} {e : Rec}
    (anchored : (s.chan c).anchor = some a) (found : splitAt a.event (shadowRecs sh) = some (before, e, after)) :
    BeginsAtAnchor ((s.imageListed c sh).chan c).anchor (before.map Rec.key) ((e :: after).map Rec.key) := by
  obtain ⟨-, named, others⟩ := splitAt_eq_some.mp found
  refine .inr ⟨a, e.key, after.map Rec.key, ?_, rfl, named, List.forall_mem_map.mpr others⟩
  rw [imageListed_chan, anchored]
  exact keptAnchor_found found

theorem beginsAtAnchor_none (lost : ∀ a, (s.chan c).anchor = some a → findEvent a.event (shadowRecs sh) = none)
    (tail : List (Nat × Stated)) : BeginsAtAnchor ((s.imageListed c sh).chan c).anchor [] tail := by
  refine .inl ⟨?_, rfl⟩
  rw [imageListed_chan]
  exact keptAnchor_none lost

/-- What the walks of an install leave, the list split where its anchor stands. -/
theorem walkedFrom_imageListed {front tail : List Rec} (split : shadowRecs sh = front ++ tail)
    (fresh : ∀ e ∈ shadowRecs sh, e.derived = Derived.fresh)
    (begins : BeginsAtAnchor ((s.imageListed c sh).chan c).anchor (front.map Rec.key) (tail.map Rec.key)) :
    (s.imageListed c sh).WalkedFrom c (front.map Rec.key) (tail.map Rec.key)
      (((s.imageListed c sh).walk c).walkRelated s c) := by
  refine ((WalkedFrom.refl ?_).walk begins c).walkRelated begins s
  rw [imageListed_chan]
  show Trimmed _ _ (shadowRecs sh)
  rw [split]
  exact trimmed_of_clear (split ▸ past_shadowRecs fresh)

/-- The list always splits at a kept anchor, or stands whole. -/
theorem exists_split (s : State) (c : Chan) (sh : Shadow) : ∃ front tail, shadowRecs sh = front ++ tail ∧
    BeginsAtAnchor ((s.imageListed c sh).chan c).anchor (front.map Rec.key) (tail.map Rec.key) := by
  by_cases lost : ∀ a, (s.chan c).anchor = some a → findEvent a.event (shadowRecs sh) = none
  · exact ⟨[], shadowRecs sh, rfl, beginsAtAnchor_none lost _⟩
  · push Not at lost
    obtain ⟨a, anchored, found⟩ := lost
    rcases split : splitAt a.event (shadowRecs sh) with _ | ⟨before, e, after⟩
    · exact absurd (findEvent_eq_none.mpr split) found
    · exact ⟨before, e :: after, (splitAt_eq_some.mp split).1, beginsAtAnchor_found anchored split⟩

theorem installed_chan_of {l : List Rec} (record : (((s.imageListed c sh).walk c).walkRelated s c).chan c =
    { (s.imageListed c sh).chan c with list := l }) : (s.installed c sh).chan c = { s.chan c with
      replica := .current, cause := none, epoch := sh.epoch, nextSeq := sh.base, withheld := false
      anchor := keptAnchor (shadowRecs sh) (s.chan c).anchor, list := l, shadow := none
      profile := sh.profile.getD (s.chan c).profile, request := none } := by
  refine (modChan_chan _ c _).trans ?_
  rw [record, imageListed_chan]

/-- What an install leaves beside the list: the channel's record, its pool, the probes and the parked edits (R56). -/
theorem installed_kept (s : State) (c : Chan) (fresh : ∀ e ∈ shadowRecs sh, e.derived = Derived.fresh) :
    (∃ l, (s.installed c sh).chan c = { s.chan c with
      replica := .current, cause := none, epoch := sh.epoch, nextSeq := sh.base, withheld := false
      anchor := keptAnchor (shadowRecs sh) (s.chan c).anchor, list := l, shadow := none
      profile := sh.profile.getD (s.chan c).profile, request := none }) ∧
    (∃ more, (s.installed c sh).free = s.free ++ (s.chan c).list.map Rec.idx ++ more) ∧
    (s.installed c sh).probes = (s.imageListed c sh).probes ∧
    (s.installed c sh).repl.parked = s.repl.parked.filter fun e =>
      !(decide (e.chan = c) && (decide (e.epoch ≠ sh.epoch) || decide (e.seq < sh.base))) := by
  obtain ⟨front, tail, split, begins⟩ := exists_split s c sh
  have walked := walkedFrom_imageListed split fresh begins
  obtain ⟨l, record, -⟩ := walked.chan
  obtain ⟨more, free⟩ := walked.free
  refine ⟨⟨l, installed_chan_of record⟩, ⟨more, ?_⟩, walked.probes, ?_⟩
  · rw [← imageListed_free, free]; rfl
  · exact congrArg (List.filter _) (walked.parked.trans (imageListed_parked s c sh))

theorem installed_whole (fresh : ∀ e ∈ shadowRecs sh, e.derived = Derived.fresh)
    (lost : ∀ a, (s.chan c).anchor = some a → findEvent a.event (shadowRecs sh) = none) :
    ((s.installed c sh).chan c).list.map Rec.key = (shadowRecs sh).map Rec.key := by
  obtain ⟨l, record, k, rest, rfl, sub, -, keys, -⟩ :=
    (walkedFrom_imageListed (front := []) rfl fresh (beginsAtAnchor_none lost _)).chan
  obtain rfl : k = [] := List.map_eq_nil_iff.mp (List.sublist_nil.mp sub)
  rw [installed_chan_of record]
  exact keys

theorem installed_anchored (fresh : ∀ e ∈ shadowRecs sh, e.derived = Derived.fresh) {a : Anchor}
    {before after : List Rec} {e : Rec} (anchored : (s.chan c).anchor = some a)
    (found : splitAt a.event (shadowRecs sh) = some (before, e, after)) :
    ∃ kept, ((s.installed c sh).chan c).list.map Rec.key = kept ++ (e :: after).map Rec.key ∧
      kept.Sublist (before.map Rec.key) ∧ min 4 before.length ≤ kept.length := by
  obtain ⟨whole, -, -⟩ := splitAt_eq_some.mp found
  obtain ⟨l, record, k, rest, rfl, sub, four, keys, -⟩ :=
    (walkedFrom_imageListed whole fresh (beginsAtAnchor_found anchored found)).chan
  refine ⟨k.map Rec.key, ?_, sub, by rwa [List.length_map] at four ⊢⟩
  rw [installed_chan_of record, ← keys]
  exact List.map_append

/-- Without parked edits of the channel an install ends before the drain (R41). -/
theorem install_undrained (fresh : ∀ e ∈ shadowRecs sh, e.derived = Derived.fresh)
    (others : ∀ e ∈ s.repl.parked, e.chan ≠ c) : s.install c sh = s.installed c sh := by
  obtain ⟨⟨l, record⟩, -, -, parked⟩ := installed_kept s c fresh
  rw [install_eq, drain_none (by rw [record]) fun e mem => others e (List.mem_of_mem_filter (parked ▸ mem))]

end

end Sys2Proof.Machine.State

/-! ## Image segments settle their obligation -/

namespace Sys2Proof.KeepingCurrent

open Sys2Proof.Machine

/-- Settles O21: the arrival by what each state of the replica makes of a segment; the shadow opened and the request
restarted; the install, whose list is followed through the walks; the storing, the whole load judged and the load
abandoned; the records taken one by one. -/
theorem segmentsBuildTheInstalledImage : Obligations.SegmentsBuildTheInstalledImage := by
  refine ⟨fun rx s src dst c g => ?arrival,
    fun c s g prior => ⟨rfl, s.segmentAccepted_chan c, fun d => State.segmentAccepted_chan_other⟩,
    fun c s sh fresh => ?install, fun c s g sh shadow => ?store, fun rate n bs free held => ?records⟩
  case arrival =>
    intro t heard ours passes
    have work : exec (.imageSegmentReceived rx) s = .next (t.imageArrives c src g).review :=
      State.exec_imageSegmentReceived heard
    refine ⟨fun other => ?_, fun mine none => ?_, fun mine some late => ?_, fun mine pass current => ?_,
      fun mine pass idle none => ?_, fun sh mine pass loading shadow => ⟨fun other => ?_, fun same count new => ?_,
        fun same bad => ?_⟩⟩
    · rw [work, State.imageArrives_other other]
    · rw [work, State.imageArrives_none mine none]
    · rw [work, State.imageArrives_late mine some late]
    all_goals rw [work, State.imageArrives_passes mine pass]
    · rw [State.takeSegment_current current]
    · rw [State.takeSegment_opens idle none]
    · rw [State.takeSegment_restarts loading shadow other]
    · rw [State.takeSegment_goesOn loading shadow same count new]
    · rw [State.takeSegment_repeats loading shadow same bad]
  case install =>
    obtain ⟨⟨l, record⟩, free, probes, parked⟩ := State.installed_kept s c fresh
    refine ⟨s.installed c sh, s.install_eq c sh, State.install_undrained fresh, parked, by rw [record], by rw [record],
      by rw [record], by rw [record], by rw [record], by rw [record], by rw [record], by rw [record],
      fun bare => probes.trans (State.imageListed_probes bare), fun p brought k => ?_, free,
      State.installed_whole fresh, fun a before e after => State.installed_anchored fresh⟩
    rw [State.probe_congr probes, State.imageListed_probe brought]
  case store =>
    intro held stored
    have kept {p : Option Profile} {bs : List Byte} (h : s.storeSegment c g = s.keepRecords c g sh p bs) : stored p bs :=
      ⟨fun whole => h.trans (State.keepRecords_whole (Prod.ext rfl (Prod.ext rfl whole))),
        fun cause failed => h.trans (State.keepRecords_failed (Prod.ext rfl (Prod.ext rfl failed)))⟩
    refine ⟨fun later => kept (State.storeSegment_later shadow later),
      fun raw bs first read => kept (State.storeSegment_first shadow first read), State.storeSegment_unread shadow,
      State.completeLoad_waits shadow, fun all => ⟨fun sound => ?_, fun unsound => ?_⟩, fun cause loading => ?_,
      fun i rs as bs between lower higher => ?_⟩
    · rw [State.completeLoad_whole shadow all, if_pos (by rwa [Bool.and_eq_true, ChannelRec.admits_iff])]
    · rw [State.completeLoad_whole shadow all, if_neg (by rwa [Bool.and_eq_true, ChannelRec.admits_iff])]
    · obtain ⟨replica, why, closed, list⟩ := State.abandonFor_chan loading cause
      have asks := State.setStale_request loading cause
      have same := State.candidates_setStale loading cause shadow
      refine ⟨replica, why, closed, list, State.abandonFor_free loading cause shadow, fun none => ?_,
        fun q request => ⟨fun all => ?_, fun as a bs order tried new => ?_⟩⟩
      · rw [State.abandonFor, State.chooseTarget_none (asks.trans none), asks, none]
      · rw [State.abandonFor, State.chooseTarget_waits (asks.trans request) (by rwa [same]),
          State.modRequest_request, asks, request]
        rfl
      · exact State.chooseTarget_takes (asks.trans request) (same.trans order) tried new
    · rw [between, insertSegment_between lower higher]
  case records =>
    exact ⟨storeRecs_fresh rate n bs free held, rfl, storeRecs_unread, fun raw rest read =>
      ⟨fun code => storeRecs_unsound read, fun st sound => ⟨storeRecs_repeated read sound, fun new short =>
        ⟨fun none => by subst none; exact storeRecs_empty read sound new short, fun i more cons => by
          subst cons; exact storeRecs_takes read sound new short⟩⟩⟩⟩

end Sys2Proof.KeepingCurrent

/-! ## Flags, sources and relay links (R66, R68 to R71) -/

namespace Sys2Proof.Machine

/-! ### A flag that takes a value (R71) -/

theorem EvFlag.put_kept {f : EvFlag} {now : Pos} {v : Bool} (kept : (f.put now v).value = f.value) :
    f.put now v = f := if_pos (kept.symm.trans (f.put_value now v))

theorem EvFlag.put_changed {f : EvFlag} {now : Pos} {v : Bool} (changed : (f.put now v).value ≠ f.value) :
    (f.put now v).since = now ∧ (f.put now v).duration = 0 := by
  have other : f.value ≠ v := fun same => changed ((f.put_value now v).trans same.symm)
  rw [EvFlag.put, if_neg other]
  exact ⟨rfl, rfl⟩

/-! ### The verdict sources (R69) -/

section
variable {xs : List VerdictSource} {a : Addr} {v : Verdict} {now : Pos}

theorem enterVerdict_room (room : (xs.filter fun x => decide (x.addr ≠ a)).length < 4) :
    enterVerdict xs a v now = (xs.filter fun x => decide (x.addr ≠ a)) ++ [⟨a, v, now⟩] := by
  rw [enterVerdict, if_pos room]

theorem enterVerdict_full (full : 4 ≤ (xs.filter fun x => decide (x.addr ≠ a)).length) :
    enterVerdict xs a v now = (xs.filter fun x => decide (x.addr ≠ a)).drop 1 ++ [⟨a, v, now⟩] := by
  rw [enterVerdict, if_neg (Nat.not_lt.mpr full)]

/-- A verdict entered stands behind some of the other stations' entries, in their order, at most three of four. -/
theorem enterVerdict_eq (xs : List VerdictSource) (a : Addr) (v : Verdict) (now : Pos) :
    ∃ others : List VerdictSource, others.Sublist xs ∧ (∀ x ∈ others, x.addr ≠ a) ∧
      (xs.length ≤ 4 → others.length ≤ 3) ∧
      enterVerdict xs a v now = others ++ [⟨a, v, now⟩] := by
  have within : (xs.filter fun x => decide (x.addr ≠ a)).Sublist xs := List.filter_sublist
  have elsewhere : ∀ x ∈ xs.filter fun x => decide (x.addr ≠ a), x.addr ≠ a := fun x mem => by
    simpa using (List.mem_filter.mp mem).2
  rcases Nat.lt_or_ge (xs.filter fun x => decide (x.addr ≠ a)).length 4 with room | full
  · exact ⟨_, within, elsewhere, fun _ => Nat.le_of_lt_succ room, enterVerdict_room room⟩
  · refine ⟨_, (List.drop_sublist 1 _).trans within, fun x mem => elsewhere x (List.mem_of_mem_drop mem),
      fun short => ?_, enterVerdict_full full⟩
    have := within.length_le
    rw [List.length_drop]; omega

theorem enterVerdict_mem {y : VerdictSource} (mem : y ∈ enterVerdict xs a v now) (other : y.addr ≠ a) : y ∈ xs := by
  obtain ⟨others, within, -, -, entered⟩ := enterVerdict_eq xs a v now
  rw [entered, List.mem_append, List.mem_singleton] at mem
  exact within.subset (mem.resolve_right fun own => other (congrArg VerdictSource.addr own))

theorem enterVerdict_length (short : xs.length ≤ 4) : (enterVerdict xs a v now).length ≤ 4 := by
  obtain ⟨others, -, -, room, entered⟩ := enterVerdict_eq xs a v now
  rw [entered, List.length_append, List.length_singleton]
  exact Nat.succ_le_succ (room short)

theorem enterVerdict_nodup (distinct : (xs.map VerdictSource.addr).Nodup) :
    ((enterVerdict xs a v now).map VerdictSource.addr).Nodup := by
  obtain ⟨others, within, elsewhere, -, entered⟩ := enterVerdict_eq xs a v now
  have single : (([⟨a, v, now⟩] : List VerdictSource).map VerdictSource.addr).Nodup := List.nodup_singleton a
  rw [entered, List.map_append]
  refine ((within.map _).nodup distinct).append single fun b mem own => ?_
  obtain ⟨x, held, rfl⟩ := List.mem_map.mp mem
  exact elsewhere x held (List.mem_singleton.mp own)

theorem enterVerdict_getLast? : (enterVerdict xs a v now).getLast? = some ⟨a, v, now⟩ := by
  obtain ⟨others, -, -, -, entered⟩ := enterVerdict_eq xs a v now
  rw [entered, List.getLast?_concat]

end

/-! ### The picture flags (R70) -/

theorem VerdictSource.fresh_iff {r : Rate} {now : Pos} {x : VerdictSource} :
    x.fresh r now = true ↔ Pos.diff r x.heardAt now ≤ 125 ∧ x.verdict ≠ .unknown := by
  rw [VerdictSource.fresh, Bool.and_eq_true, decide_eq_true_eq, decide_eq_true_eq]

/-- A verdict that says anything but UNKNOWN speaks against the picture unless it is NOMINAL. -/
theorem Verdict.bad_iff {v : Verdict} (known : v ≠ .unknown) : v.bad = true ↔ v ≠ .nominal := by
  cases v with
  | unknown => exact absurd rfl known
  | nominal | frozen | flat | dark | noSignal => decide

theorem WatchRec.setPicture_bad {r : Rate} {now : Pos} {w : WatchRec} : (w.setPicture r now).pictureBad.value = true ↔
    ∃ x ∈ w.sources, x.fresh r now = true ∧ x.verdict ≠ .nominal := by
  rw [WatchRec.setPicture, EvFlag.put_value, List.any_eq_true]
  refine exists_congr fun x => and_congr_right fun _ => ?_
  rw [Bool.and_eq_true]
  exact and_congr_right fun fresh => Verdict.bad_iff (VerdictSource.fresh_iff.mp fresh).2

theorem WatchRec.setPicture_unknown {r : Rate} {now : Pos} {w : WatchRec} :
    (w.setPicture r now).pictureUnknown.value = true ↔ ∀ x ∈ w.sources, ¬x.fresh r now = true := by
  rw [WatchRec.setPicture, EvFlag.put_value, Bool.not_eq_true', List.any_eq_false]

namespace State

variable {s : State}

/-! ### A relay's link and LINK DOWN (R68) -/

/-- Whether no relay's link is UP. -/
def relaysDown (s : State) : Bool := !([17, 18, 19, 20].any fun a => (s.peer a).link = .up)

theorem relaysDown_iff : s.relaysDown = true ↔ ∀ a, 17 ≤ a → a ≤ 20 → (s.peer a).link = .down := by
  have notUp : ∀ l : LinkState, l ≠ .up ↔ l = .down := by rintro ⟨⟩ <;> decide
  simp only [relaysDown, Bool.not_eq_true', List.any_eq_false, decide_eq_true_eq, mem_relays, notUp, and_imp]

theorem updateLink_watchRec {c : Chan} {w : WatchRec} (rec : s.watchRec c = some w) :
    s.updateLink.watchRec c = some { w with linkDown := w.linkDown.put s.now s.relaysDown } := by
  have mapped : s.updateLink.watchRec c =
      (s.watchRec c).map fun w => { w with linkDown := w.linkDown.put s.now s.relaysDown } := by
    simp [watchRec, updateLink, relaysDown, Vector.get_eq_getElem]
  rw [mapped, rec]; rfl

theorem relaystateArrives_legal {a : Addr} {link : Nat} {l : LinkState} (legal : LinkState.ofCode link = some l) :
    s.relaystateArrives a link = (s.modPeer a fun p => { p with link := l }).updateLink := by
  simp only [relaystateArrives, legal]

theorem relaystateArrives_illegal {a : Addr} {link : Nat} (illegal : LinkState.ofCode link = none) :
    s.relaystateArrives a link = s := by
  simp only [relaystateArrives, illegal]

theorem exec_relaystateReceived {rx : Reception} {src dst : Addr} {link : Nat}
    (delivered : s.found.receive rx = .deliver src dst (.relaystate link)) :
    exec (.relaystateReceived rx) s = .next ((s.found.hear src).relaystateArrives src link).review :=
  congrArg Host.Outcome.next
    (arrival_taken s rx _ src dst _ (fun t => t.relaystateArrives src link) delivered rfl)

theorem relayGone_kept {a : Addr} (kept : a < 17 ∨ 20 < a ∨ (s.peer a).count < 75) : s.relayGone a = s :=
  if_neg fun ⟨low, high, late⟩ => kept.elim (Nat.not_lt.mpr low) (·.elim (Nat.not_lt.mpr high) (Nat.not_lt.mpr late))

theorem exec_relaySilent (a : Addr) (openFrame : s.time.frameOpen = true) :
    exec (.relaySilent a) s = .next (s.atStep.relayGone a).review :=
  congrArg Host.Outcome.next (s.atFrame_open _ openFrame)

/-! ### A peer's verdict (R69) -/

theorem verdictArrives_taken {a : Addr} {chan verdict : Nat} {c : Chan} {v : Verdict} (named : chanOf chan = some c)
    (legal : Verdict.ofCode verdict = some v) (watched : (s.chan c).watched = true) :
    s.verdictArrives a chan verdict = s.verdictEnters c a v := by
  simp only [verdictArrives, named, legal, watched, if_true]

theorem verdictArrives_passed {a : Addr} {chan verdict : Nat} (passed : chanOf chan = none ∨
    Verdict.ofCode verdict = none ∨ ∃ c, chanOf chan = some c ∧ (s.chan c).watched = false) :
    s.verdictArrives a chan verdict = s := by
  unfold verdictArrives
  split
  next c v named legal =>
    obtain unnamed | illegal | ⟨d, named', unwatched⟩ := passed
    · rw [unnamed] at named; cases named
    · rw [illegal] at legal; cases legal
    · cases named'.symm.trans named
      exact if_neg (by simp [unwatched])
  next => rfl

theorem exec_verdictReceived {rx : Reception} {src dst : Addr} {chan verdict : Nat}
    (delivered : s.found.receive rx = .deliver src dst (.verdict chan verdict)) :
    exec (.verdictReceived rx) s = .next ((s.found.hear src).verdictArrives src chan verdict).review :=
  congrArg Host.Outcome.next
    (arrival_taken s rx _ src dst _ (fun t => t.verdictArrives src chan verdict) delivered rfl)

end State

end Sys2Proof.Machine

/-! ## Relay links and evidence settle their obligations -/

namespace Sys2Proof.WatchingTheMainSite

open Sys2Proof.Machine

/-- Settles O24: what RELAYSTATE carries, the silence of a relay, and the flag that follows in every watch record. -/
theorem relayLinksDecideLinkDown : Obligations.RelayLinksDecideLinkDown := by
  refine ⟨fun rx s src dst link heard => ⟨fun l legal => ?_, fun illegal => ?_⟩,
    fun a s openFrame => ⟨fun low high late => ?_, fun other => ?_⟩, fun s c w rec => ?flag⟩
  · rw [State.exec_relaystateReceived heard, State.relaystateArrives_legal legal]
  · rw [State.exec_relaystateReceived heard, State.relaystateArrives_illegal illegal]
  · rw [State.exec_relaySilent a openFrame, State.relayGone, if_pos ⟨low, high, late⟩]
  · rw [State.exec_relaySilent a openFrame, State.relayGone_kept other]
  case flag =>
    refine ⟨_, State.updateLink_watchRec rec, ?_, fun kept => ?_, EvFlag.put_changed, rfl⟩
    · rw [EvFlag.put_value, State.relaysDown_iff]
    · rw [EvFlag.put_kept kept]

/-- Settles O25: the two steps of a frame event; the verdict's arrival; the sources; the picture flags. -/
theorem evidenceFollowsBeatsAndVerdicts : Obligations.EvidenceFollowsBeatsAndVerdicts := by
  refine ⟨fun c s openFrame => ⟨congrArg Host.Outcome.next (s.atFrame_open _ openFrame),
      congrArg Host.Outcome.next (s.atFrame_open _ openFrame)⟩,
    fun rx s src dst chan verdict heard => ⟨fun c v named legal watched => ?taken, fun passed => ?passed⟩,
    fun xs a v now => ⟨enterVerdict_room, enterVerdict_full⟩,
    fun xs a v now short distinct => ⟨enterVerdict_length short, enterVerdict_nodup distinct, enterVerdict_getLast?,
      fun y mem other => enterVerdict_mem mem other⟩,
    fun r now w => ⟨?bad, ?unknown, EvFlag.put_kept, EvFlag.put_changed⟩⟩
  case taken =>
    rw [State.exec_verdictReceived heard, State.verdictArrives_taken named legal watched]
    rfl
  case passed => rw [State.exec_verdictReceived heard, State.verdictArrives_passed passed]
  case bad => simp only [WatchRec.setPicture_bad, VerdictSource.fresh_iff]
  case unknown => simp only [WatchRec.setPicture_unknown, VerdictSource.fresh_iff]

end Sys2Proof.WatchingTheMainSite

/-! ## The health tables and their chain (R72 to R78) -/

namespace Sys2Proof.Machine

section
variable {cfg : Settings} {e : Evidence}

/-! ### The conditions the tables name (R72, R75) -/

theorem EvFlag.held_iff {f : EvFlag} {v : Bool} {n : Nat} : f.held v n = true ↔ f.value = v ∧ n ≤ f.duration := by
  rw [EvFlag.held, Bool.and_eq_true, decide_eq_true_eq, decide_eq_true_eq]

theorem Evidence.any_iff : e.any = true ↔
    e.beatLost.value = true ∨ e.mainFault.value = true ∨ e.pictureBad.value = true := by
  rw [Evidence.any, Bool.or_eq_true, Bool.or_eq_true, or_assoc]

theorem Evidence.linkLoss_iff : e.linkLoss = true ↔
    e.beatLost.value = true ∧ e.linkDown = true ∧ ¬e.pictureBad.value = true := by
  rw [Evidence.linkLoss, Bool.and_eq_true, Bool.and_eq_true, Bool.not_eq_true', Bool.not_eq_true, and_assoc]

theorem Evidence.failure_iff : e.failure cfg = true ↔
    (e.beatLost.value = true ∧ e.pictureBad.value = true) ∨ (e.mainFault.value = true ∧ e.nominal = false) ∨
    (e.pictureBad.value = true ∧ cfg.tp ≤ e.pictureBad.duration) ∨
    (e.beatLost.value = true ∧ cfg.tu ≤ e.beatLost.duration ∧ e.pictureUnknown = true ∧ e.linkDown = false) := by
  simp only [Evidence.failure, Bool.or_eq_true, Bool.and_eq_true, Bool.not_eq_true', EvFlag.held_iff, or_assoc,
    and_assoc]

/-- A failure is one of some evidence. -/
theorem Evidence.any_of_failure (fails : e.failure cfg = true) : e.any = true := by
  rw [Evidence.any_iff]
  obtain ⟨lost, -⟩ | ⟨fault, -⟩ | ⟨bad, -⟩ | ⟨lost, -⟩ := Evidence.failure_iff.mp fails
  · exact .inl lost
  · exact .inr (.inl fault)
  · exact .inr (.inr bad)
  · exact .inl lost

/-! ### The rule of each state (R74 to R78) -/

theorem healthRule_nominal : healthRule cfg e .nominal = if e.any then .suspect else .nominal := rfl

theorem healthRule_suspect : healthRule cfg e .suspect =
    if e.failure cfg then .failed else if e.linkLoss then .linkLost else if !e.any then .nominal else .suspect := rfl

theorem healthRule_linkLost : healthRule cfg e .linkLost =
    if e.failure cfg then .failed
    else if !e.beatLost.value then (if e.any then .suspect else .nominal)
    else if !e.linkDown then .suspect else .linkLost := rfl

theorem healthRule_failed : healthRule cfg e .failed =
    if e.siteHeld then
      if e.beating && e.beatLost.held false cfg.tr && e.mainFault.held false cfg.tr then .recovered else .failed
    else if e.beatLost.held false cfg.tr && e.mainFault.held false cfg.tr && e.pictureBad.held false cfg.tr then
      .nominal
    else .failed := rfl

theorem healthRule_recovered : healthRule cfg e .recovered =
    if e.beatLost.value || e.mainFault.value then .failed else .recovered := rfl

/-! ### The chain comes to rest (R73) -/

/-- How far a health state stands along the moves that one evidence allows. With BEAT LOST or MAIN FAULT nothing leaves
FAILED, and of SUSPECT and LINK LOST the evidence allows one way only; with PICTURE BAD alone nothing leaves RECOVERED;
with no evidence NOMINAL and RECOVERED rest. -/
def Evidence.stage (e : Evidence) : Health → Nat
  | .nominal => if e.any then 1 else 4
  | .suspect => if e.linkLoss then 2 else 3
  | .linkLost => if e.linkLoss then 3 else 2
  | .failed => if e.any then 4 else 2
  | .recovered => if e.beatLost.value || e.mainFault.value then 0 else 5

theorem Evidence.stage_le (e : Evidence) (h : Health) : e.stage h ≤ 5 := by
  cases h <;> simp only [Evidence.stage] <;> split <;> omega

/-- Each move goes to a later stage. -/
theorem Evidence.stage_lt_of_moves {h : Health} (moves : healthRule cfg e h ≠ h) :
    e.stage h < e.stage (healthRule cfg e h) := by
  have failed_last (fails : e.failure cfg = true) : e.stage .failed = 4 := if_pos (Evidence.any_of_failure fails)
  cases h with
  | nominal =>
    by_cases any : e.any = true
    · simp only [healthRule_nominal, if_pos any, Evidence.stage]
      split <;> omega
    · exact absurd (if_neg any) moves
  | suspect =>
    have early : e.stage .suspect < 4 := by simp only [Evidence.stage]; split <;> omega
    by_cases fails : e.failure cfg = true
    · rwa [healthRule_suspect, if_pos fails, failed_last fails]
    by_cases loss : e.linkLoss = true
    · simp [healthRule_suspect, fails, loss, Evidence.stage]
    by_cases any : e.any = true
    · simp [healthRule_suspect, fails, loss, any] at moves
    · simp [healthRule_suspect, fails, loss, any, Evidence.stage]
  | linkLost =>
    have early : e.stage .linkLost < 4 := by simp only [Evidence.stage]; split <;> omega
    by_cases fails : e.failure cfg = true
    · rwa [healthRule_linkLost, if_pos fails, failed_last fails]
    by_cases lost : e.beatLost.value = true
    · by_cases down : e.linkDown = true
      · simp [healthRule_linkLost, fails, lost, down] at moves
      · simp [healthRule_linkLost, fails, lost, down, Evidence.stage, Evidence.linkLoss]
    · by_cases any : e.any = true <;> simp [healthRule_linkLost, fails, lost, any, Evidence.stage, Evidence.linkLoss]
  | failed =>
    by_cases held : e.siteHeld = true
    · by_cases calm : (e.beating && e.beatLost.held false cfg.tr && e.mainFault.held false cfg.tr) = true
      · have quiet : (e.beatLost.value || e.mainFault.value) = false := by
          simp only [Bool.and_eq_true, EvFlag.held_iff] at calm
          simp [calm.1.2.1, calm.2.1]
        simp only [healthRule_failed, if_pos held, if_pos calm, Evidence.stage, quiet, Bool.false_eq_true, if_false]
        split <;> omega
      · simp [healthRule_failed, held, calm] at moves
    · by_cases calm : (e.beatLost.held false cfg.tr && e.mainFault.held false cfg.tr &&
          e.pictureBad.held false cfg.tr) = true
      · have quiet : e.any = false := by
          simp only [Bool.and_eq_true, EvFlag.held_iff] at calm
          simp [Evidence.any, calm.1.1.1, calm.1.2.1, calm.2.1]
        simp [healthRule_failed, held, calm, Evidence.stage, quiet]
      · simp [healthRule_failed, held, calm] at moves
  | recovered =>
    by_cases again : (e.beatLost.value || e.mainFault.value) = true
    · simp only [healthRule_recovered, if_pos again, Evidence.stage]
      split <;> omega
    · exact absurd (if_neg again) moves

/-- A chain long enough for the stages still ahead ends where the rule moves nothing (R73). -/
theorem healthChain_rests (n : Nat) (h : Health) (enough : 5 ≤ n + e.stage h) :
    healthRule cfg e (healthChain cfg e n h) = healthChain cfg e n h := by
  induction n generalizing h with
  | zero =>
    by_contra moves
    have later := Evidence.stage_lt_of_moves moves
    have last := e.stage_le (healthRule cfg e h)
    simp only [healthChain] at later
    omega
  | succ n ih =>
    by_cases rests : healthRule cfg e h = h
    · rw [healthChain, if_pos rests, rests]
    · have later := Evidence.stage_lt_of_moves rests
      rw [healthChain, if_neg rests]
      exact ih _ (by omega)

end

end Sys2Proof.Machine

/-! ## Health settles its obligation -/

namespace Sys2Proof.WatchingTheMainSite

open Sys2Proof.Machine

/-- Settles O26: each state's rule line by line, and the chain, whose moves only go to later stages. -/
theorem healthFollowsItsTables : Obligations.HealthFollowsItsTables := by
  intro cfg e bl mf pb any failure loss calm
  have anyIff : e.any = true ↔ any := Evidence.any_iff
  have noneIff : (!e.any) = true ↔ ¬any := by rw [← anyIff, Bool.not_eq_true', Bool.not_eq_true]
  have failureIff : e.failure cfg = true ↔ failure := Evidence.failure_iff
  have lossIff : e.linkLoss = true ↔ loss := Evidence.linkLoss_iff
  have beatsIff : (!e.beatLost.value) = true ↔ ¬bl := by rw [Bool.not_eq_true', ← Bool.not_eq_true]
  have upIff : (!e.linkDown) = true ↔ e.linkDown = false := by rw [Bool.not_eq_true']
  have silentIff : (e.beatLost.value || e.mainFault.value) = true ↔ bl ∨ mf := by rw [Bool.or_eq_true]
  have calmIff (f : EvFlag) : f.held false cfg.tr = true ↔ calm f := EvFlag.held_iff
  have restIff : (e.beatLost.held false cfg.tr && e.mainFault.held false cfg.tr &&
      e.pictureBad.held false cfg.tr) = true ↔ calm e.beatLost ∧ calm e.mainFault ∧ calm e.pictureBad := by
    rw [Bool.and_eq_true, Bool.and_eq_true, calmIff, calmIff, calmIff, and_assoc]
  have backIff : (e.beating && e.beatLost.held false cfg.tr && e.mainFault.held false cfg.tr) = true ↔
      e.beating = true ∧ calm e.beatLost ∧ calm e.mainFault := by
    rw [Bool.and_eq_true, Bool.and_eq_true, calmIff, calmIff, and_assoc]
  have stands {x : Health} (b : e.siteHeld = false) (y : Health) : (if e.siteHeld = true then x else y) = y :=
    if_neg (by rw [b]; exact Bool.false_ne_true)
  simp only [healthRule_nominal, healthRule_suspect, healthRule_linkLost, healthRule_failed, healthRule_recovered,
    anyIff, noneIff, failureIff, lossIff, beatsIff, upIff, silentIff, restIff, backIff]
  refine ⟨fun some => if_pos some, fun none => if_neg none, fun fails => if_pos fails, ?suspectLoss, ?suspectNone,
    ?suspectStays, fun fails => if_pos fails, ?lostNone, ?lostSome, ?lostUp, ?lostStays, ?failedNominal, ?failedStays,
    ?failedRecovered, ?failedHeld, fun silent => if_pos silent, fun heard => if_neg heard,
    fun h => healthChain_rests 6 h (by omega)⟩
  case suspectLoss => exact fun fine lost => (if_neg fine).trans (if_pos lost)
  case suspectNone => exact fun fine kept none => (if_neg fine).trans ((if_neg kept).trans (if_pos none))
  case suspectStays =>
    exact fun fine kept some => (if_neg fine).trans ((if_neg kept).trans (if_neg (not_not_intro some)))
  case lostNone => exact fun fine beats none => (if_neg fine).trans ((if_pos beats).trans (if_neg none))
  case lostSome => exact fun fine beats some => (if_neg fine).trans ((if_pos beats).trans (if_pos (.inr some)))
  case lostUp => exact fun fine lost up => (if_neg fine).trans ((if_neg (not_not_intro lost)).trans (if_pos up))
  case lostStays =>
    exact fun fine lost down => (if_neg fine).trans ((if_neg (not_not_intro lost)).trans (if_neg (by simp [down])))
  case failedNominal => exact fun main rests => (stands main _).trans (if_pos rests)
  case failedStays => exact fun main moves => (stands main _).trans (if_neg moves)
  case failedRecovered => exact fun held back => (if_pos held).trans (if_pos back)
  case failedHeld => exact fun held away => (if_pos held).trans (if_neg away)

end Sys2Proof.WatchingTheMainSite

/-! ## FORCE RELEASE and INHIBIT (R82, R164, R194, R195) -/

namespace Sys2Proof.Machine.State

variable {s : State} {c : Chan} {rx : Reception} {src dst : Addr} {tag code : Nat} {bs : List Byte}

/-! ### A console command that reaches its own judging (R191, R203) -/

theorem commandTaken_judged {broadcast : Bool} {f : State → State} (one : dst ≠ 0 ∨ broadcast = true)
    (normal : s.loader.releasePhase = none) : s.commandTaken dst src tag broadcast f = f s := by
  rw [commandTaken, if_neg, if_neg (by rw [normal]; decide)]
  rintro ⟨all, closed⟩
  exact one.elim (· all) fun broad => Bool.false_ne_true (closed.symm.trans broad)

theorem exec_forceRelease (heard : s.found.receive rx = .deliver src dst (.command tag code bs)) (one : dst ≠ 0)
    (normal : (s.found.hear src).loader.releasePhase = none) (read : readCommand code bs = some (.forceRelease c)) :
    exec (.forceRelease rx) s = .next ((s.found.hear src).forceReleaseCmd src tag c).review :=
  congrArg Host.Outcome.next ((console_taken s rx false _ src dst tag code bs _ (fun t => t.forceReleaseCmd src tag c)
    heard read rfl).trans (congrArg State.review (commandTaken_judged (.inl one) normal)))

theorem exec_inhibit {on : Bool} (heard : s.found.receive rx = .deliver src dst (.command tag code bs))
    (normal : (s.found.hear src).loader.releasePhase = none) (read : readCommand code bs = some (.inhibit c on)) :
    exec (.inhibit rx) s = .next ((s.found.hear src).inhibitCmd dst src tag c on).review :=
  congrArg Host.Outcome.next ((console_taken s rx true _ src dst tag code bs _ (fun t => t.inhibitCmd dst src tag c on)
    heard read rfl).trans (congrArg State.review (commandTaken_judged (.inr rfl) normal)))

/-! ### The slot a release is handed to (R164, R194) -/

theorem ownSlot_none (away : (s.view c).holder ≠ some s.me ∨ s.holdingSlot c = none) : s.ownSlot c = none := by
  unfold ownSlot
  split
  next mine => exact away.resolve_left (not_not_intro mine)
  next => rfl

theorem ownSlot_some {n : SlotId} (mine : (s.view c).holder = some s.me) (holds : s.holdingSlot c = some n) :
    s.ownSlot c = some n := (if_pos mine).trans holds

theorem forceReleaseCmd_unwatched (unwatched : (s.chan c).watched = false) :
    s.forceReleaseCmd src tag c = s.answer src tag .notWatched [] := if_pos unwatched

theorem forceReleaseCmd_watched (watched : (s.chan c).watched = true) :
    s.forceReleaseCmd src tag c = (s.ownSlot c).elim (s.answer src tag .notOnAirHere []) fun n =>
      (s.modSlot n fun x => { x with releasePending := some (x.releasePending.getD .operator) }).answer src tag
        .done [] := by
  rw [forceReleaseCmd, if_neg (by simp [watched])]
  cases s.ownSlot c <;> rfl

/-! ### The inhibit flag (R82, R195) -/

theorem inhibitCmd_watched {on : Bool} (watched : (s.chan c).watched = true) : s.inhibitCmd dst src tag c on =
    (s.modWatch c fun w => { w with inhibit := on }).answer src tag .done [] := if_pos watched

theorem inhibitCmd_unwatched {on : Bool} (unwatched : (s.chan c).watched = false) :
    s.inhibitCmd dst src tag c on = if dst = 0 then s else s.answer src tag .notWatched [] :=
  if_neg (by simp [unwatched])

end Sys2Proof.Machine.State

/-! ## The operators' commands settle their obligation -/

namespace Sys2Proof.WatchingTheMainSite

open Sys2Proof.Machine

/-- Settles O52: FORCE RELEASE by the channel, the view and the slot, and INHIBIT by the channel and the destination. -/
theorem operatorsReleaseAndInhibit : Obligations.OperatorsReleaseAndInhibit := by
  intro rx s src dst tag code bs c t heard normal
  refine ⟨fun read one => ?release, fun on read => ?inhibit⟩
  case release =>
    rw [State.exec_forceRelease heard one normal read]
    refine ⟨fun unwatched => ?_, fun watched away => ?_, fun n watched mine holds => ?_⟩
    · rw [State.forceReleaseCmd_unwatched unwatched]
    · rw [State.forceReleaseCmd_watched watched, State.ownSlot_none away]; rfl
    · rw [State.forceReleaseCmd_watched watched, State.ownSlot_some mine holds]; rfl
  case inhibit =>
    rw [State.exec_inhibit heard normal read]
    refine ⟨fun watched => ?_, fun unwatched one => ?_, fun unwatched all => ?_⟩
    · rw [State.inhibitCmd_watched watched]
    · rw [State.inhibitCmd_unwatched unwatched, if_neg one]
    · rw [State.inhibitCmd_unwatched unwatched, if_pos all]

end Sys2Proof.WatchingTheMainSite

/-! ## The evaluation of health (R72, R73, R79) -/

namespace Sys2Proof.Machine

/-! ### What an evaluation reads (R72) -/

theorem WatchRec.evidence_held (r : Rate) (now : Pos) (w : WatchRec) :
    (w.evidence r now true).pictureBad.value = false ∧ (w.evidence r now true).pictureUnknown = true ∧
      (w.evidence r now true).nominal = false := ⟨rfl, rfl, rfl⟩

theorem WatchRec.evidence_nominal {r : Rate} {now : Pos} {w : WatchRec} : (w.evidence r now false).nominal = true ↔
    ∃ x ∈ w.sources, Pos.diff r x.heardAt now ≤ 125 ∧ x.verdict = .nominal := by
  rw [show (w.evidence r now false).nominal = w.freshNominal r now from Bool.true_and _, WatchRec.freshNominal,
    List.any_eq_true]
  refine exists_congr fun x => and_congr_right fun _ => ?_
  rw [Bool.and_eq_true, VerdictSource.fresh_iff, decide_eq_true_eq]
  exact ⟨fun ⟨⟨young, _⟩, nominal⟩ => ⟨young, nominal⟩, fun ⟨young, nominal⟩ => ⟨⟨young, by simp [nominal]⟩, nominal⟩⟩

theorem WatchRec.evidence_beating {r : Rate} {now : Pos} {held : Bool} {w : WatchRec} :
    (w.evidence r now held).beating = true ↔ ∃ b, w.lastBeat = some b ∧ (b.main = .onAir ∨ b.main = .standby) := by
  have sound : ∀ m : MainState, m ≠ .fault ↔ m = .onAir ∨ m = .standby := by rintro ⟨⟩ <;> decide
  rw [WatchRec.evidence]
  cases w.lastBeat with
  | none => simp
  | some b => simp [sound]

namespace State

variable {s : State} {c : Chan} {w : WatchRec}

/-- Two changes that agree on a channel's record are one. -/
theorem modWatch_congr {f g : WatchRec → WatchRec} (rec : s.watchRec c = some w) (same : f w = g w) :
    s.modWatch c f = s.modWatch c g := by
  have mapped : (s.watch.get c).map f = (s.watch.get c).map g := by
    rw [show s.watch.get c = some w from rec]; exact congrArg some same
  rw [modWatch, modWatch, vmod, vmod, mapped]

/-! ### The health a channel goes to (R73, R81) -/

/-- A watched channel with the health the chain gives from its present one. -/
theorem settleHealth_eq (rec : s.watchRec c = some w) (start : Health) : s.settleHealth c start =
    s.modWatch c fun x =>
      { x with health := healthChain s.cfg (w.evidence s.rate s.now (s.view c).holder.isSome) 6 start } :=
  modWatch_congr rec rfl

theorem settleHealth_watchRec (rec : s.watchRec c = some w) (start : Health) : (s.settleHealth c start).watchRec c =
    some { w with health := healthChain s.cfg (w.evidence s.rate s.now (s.view c).holder.isSome) 6 start } := by
  rw [settleHealth_eq rec, modWatch_watchRec, rec]; rfl

theorem evaluate_eq (rec : s.watchRec c = some w) : s.evaluate c =
    if w.health ≠ .nominal ∧
        healthChain s.cfg (w.evidence s.rate s.now (s.view c).holder.isSome) 6 w.health = .nominal then
      (s.settleHealth c w.health).authorityTest c
    else s.settleHealth c w.health := by
  simp only [evaluate, rec, settleHealth_watchRec rec, Option.map_some, Option.some.injEq]

/-- The judgement begun afresh: each flag's hold starts now, and the chain runs from NOMINAL (R79). -/
theorem restartHealth_watchRec (rec : s.watchRec c = some w) : (s.restartHealth c).watchRec c =
    let r : WatchRec := { w with
      beatLost := w.beatLost.restart s.now, mainFault := w.mainFault.restart s.now,
      pictureBad := w.pictureBad.restart s.now, pictureUnknown := w.pictureUnknown.restart s.now,
      linkDown := w.linkDown.restart s.now }
    some { r with health := healthChain s.cfg (r.evidence s.rate s.now (s.view c).holder.isSome) 6 .nominal } := by
  rw [restartHealth]
  exact settleHealth_watchRec ((modWatch_watchRec s c _).trans (congrArg (Option.map _) rec)) .nominal

end State

end Sys2Proof.Machine

/-! ## The return of authority to the main site (R50, R81) -/

namespace Sys2Proof.Machine.State

variable {s : State} {c : Chan} {w : WatchRec}

/-! ### The other channels' records (R49, R53) -/

section
variable {d : Chan} (other : d ≠ c)
include other

theorem freeShadow_chan_other : (s.freeShadow c).chan d = s.chan d := by
  unfold freeShadow
  split
  · exact modChan_chan_other _ c d _ other.symm
  · rfl

theorem setStale_chan_other (cause : StaleCause) : (s.setStale c cause).chan d = s.chan d := by
  unfold setStale
  split
  · rfl
  refine (modChan_chan_other _ c d _ other.symm).trans ((freeShadow_chan_other other).trans ?_)
  split
  · exact chan_congr (dropService_chans s c) d
  · rfl

theorem modRequest_chan_other (f : ImageRequest → ImageRequest) : (s.modRequest c f).chan d = s.chan d :=
  modChan_chan_other _ c d _ other.symm

end

/-- Outside a frame event an IMAGEREQ is offered for its own channel alone (R183). -/
theorem askTarget_closed (closed : s.time.frameOpen = false) : s.askTarget c = s.putAsk c := by
  rw [askTarget, beforeAsk, if_neg (by simp [closed])]

section
variable {d : Chan} (closed : s.time.frameOpen = false) (other : d ≠ c)
include closed other

theorem chooseTarget_chan_other : (s.chooseTarget c).chan d = s.chan d := by
  unfold chooseTarget
  split
  · rfl
  split
  · exact modRequest_chan_other other _
  · refine (congrArg (fun t => t.chan d) (askTarget_closed (s := s.modRequest c _) closed)).trans ?_
    rw [putAsk_chan_other _ other.symm, modRequest_chan_other other]

theorem newRound_chan_other : (s.newRound c).chan d = s.chan d := by
  exact (chooseTarget_chan_other (s := (s.takeBack .one _).modRequest c _) closed other).trans
    ((modRequest_chan_other other _).trans (chan_congr (takeBack_chans s _ _) d))

theorem beginRequest_chan_other : (s.beginRequest c).chan d = s.chan d := by
  unfold beginRequest
  split
  · exact (newRound_chan_other (s := s.modChan c _) closed other).trans (modChan_chan_other s c d _ other.symm)
  · rfl

theorem roundAgain_chan_other : (s.roundAgain c).chan d = s.chan d := by
  unfold roundAgain
  split
  · exact newRound_chan_other closed other
  · exact beginRequest_chan_other closed other

end

/-! ### What returns (R50) -/

/-- With no return epoch the channel's own stays, and no image restarts (R50, R59). -/
theorem mainReturns_none : s.mainReturns c none =
    ((s.modChan c fun ch => { ch with authority := .main, nextSeq := 0 }).setStale c .handback).roundAgain c := by
  rw [mainReturns, epochTouched, Option.getD_none, if_pos rfl]
  rfl

theorem bare_mainReturns (d : Chan) : (s.mainReturns c none).bare d =
    ((s.modChan c fun ch => { ch with authority := .main, nextSeq := 0 }).setStale c .handback).bare d := by
  rw [mainReturns_none, bare_roundAgain]

theorem mainReturns_chan_held (held : (s.chan c).replica ≠ .empty) : (s.mainReturns c none).chan c = { s.chan c with
    authority := .main, nextSeq := 0, replica := .stale, cause := some .handback, shadow := none
    request := ((s.mainReturns c none).chan c).request } := by
  refine (chan_of_bare (bare_mainReturns c)).trans ?_
  rw [setStale_chan _ _ (by rwa [modChan_chan]), modChan_chan]

theorem mainReturns_chan_empty (empty : (s.chan c).replica = .empty) : (s.mainReturns c none).chan c = { s.chan c with
    authority := .main, nextSeq := 0, request := ((s.mainReturns c none).chan c).request } := by
  refine (chan_of_bare (bare_mainReturns c)).trans ?_
  rw [setStale_empty _ _ (by rwa [modChan_chan]), modChan_chan]

theorem mainReturns_chan_other {d : Chan} (other : d ≠ c) : (s.mainReturns c none).chan d =
    { s.chan d with request := ((s.mainReturns c none).chan d).request } := by
  refine (chan_of_bare (bare_mainReturns d)).trans ?_
  rw [setStale_chan_other other, modChan_chan_other _ c d _ other.symm]

theorem mainReturns_chan_closed {d : Chan} (closed : s.time.frameOpen = false) (other : d ≠ c) :
    (s.mainReturns c none).chan d = s.chan d := by
  have closed' : ((s.modChan c fun ch => { ch with authority := .main, nextSeq := 0 }).setStale c
      .handback).time.frameOpen = false := by rw [base_time (base_setStale _ c _)]; exact closed
  rw [mainReturns_none, roundAgain_chan_other closed' other, setStale_chan_other other,
    modChan_chan_other _ c d _ other.symm]

/-! ### The test (R81) -/

/-- The five conditions of R81. -/
def Returns (s : State) (c : Chan) (w : WatchRec) : Prop :=
  (s.loader.station = .ready ∨ s.loader.station = .degraded) ∧ (s.chan c).authority = .site ∧
    (s.view c).holder = none ∧ w.orphan = false ∧ w.health = .nominal

theorem authorityTest_returns (rec : s.watchRec c = some w) (returns : s.Returns c w) :
    s.authorityTest c = s.mainReturns c none := by
  simp only [authorityTest, rec]; exact if_pos returns

theorem authorityTest_kept (rec : s.watchRec c = some w) (kept : ¬s.Returns c w) : s.authorityTest c = s := by
  simp only [authorityTest, rec]; exact if_neg kept

end Sys2Proof.Machine.State

/-! ## The claim engine's look and its review (R112, R113, R120) -/

namespace Sys2Proof.Machine.State

variable {s : State} {c : Chan}

/-! ### An automatic claim's conditions (R112) -/

theorem firstFree_ne_none : s.firstFree ≠ none ↔ ∃ n, (s.slot n).state = .free := by
  simp [firstFree, List.find?_eq_none]

theorem mayClaim_iff : s.mayClaim c = true ↔ s.loader.station = .ready ∧ s.time.timeState = .set ∧
    (s.chan c).replica = .current ∧ (∃ n, (s.slot n).state = .free) ∧ (s.view c).holder = none ∧
    s.claims.current = none ∧ s.loader.releasePhase = none := by
  simp only [mayClaim, Bool.and_eq_true, decide_eq_true_eq, firstFree_ne_none, and_assoc]

theorem autoClaim_iff : s.autoClaim c = true ↔ s.mayClaim c = true ∧ (s.view c).contest = .idle ∧
    (∀ p, (s.view c).ineligible = some p → s.reached p = true) ∧
    ∃ w, s.watchRec c = some w ∧ w.health = .failed ∧ w.inhibit = false ∧
      (w.orphan = true → w.pictureBad.value = true) := by
  rcases rec : s.watchRec c with _ | w
  · simp [autoClaim, rec]
  have orphaned : (!w.orphan || w.pictureBad.value) = true ↔ (w.orphan = true → w.pictureBad.value = true) := by
    cases w.orphan <;> simp
  rcases out : (s.view c).ineligible with _ | p
  · simp only [autoClaim, rec, out, Bool.and_eq_true, decide_eq_true_eq, Bool.not_eq_true', orphaned, Option.some.injEq,
      exists_eq_left', reduceCtorEq, false_imp_iff, implies_true, true_and, and_true, and_assoc]
  · simp only [autoClaim, rec, out, Bool.and_eq_true, decide_eq_true_eq, Bool.not_eq_true', orphaned, Option.some.injEq,
      exists_eq_left', forall_eq']
    tauto

/-! ### The candidate (R113) -/

/-- The order of the candidates: the lower rank, of equal ranks the lower channel (R113). -/
def RanksBefore (s : State) (c d : Chan) : Prop := s.rank c < s.rank d ∨ (s.rank c = s.rank d ∧ c ≤ d)

theorem RanksBefore.antisymm {d : Chan} (h : s.RanksBefore c d) (g : s.RanksBefore d c) : c = d := by
  obtain less | ⟨same, le⟩ := h <;> obtain less' | ⟨same', le'⟩ := g
  · omega
  · omega
  · omega
  · exact le_antisymm le le'

/-- The best candidate of the channels `l`, if one of them is a candidate. -/
def BestOf (s : State) (l : List Chan) : Option Chan → Prop
  | none => ∀ d ∈ l, s.autoClaim d = false
  | some c => c ∈ l ∧ s.autoClaim c = true ∧ ∀ d ∈ l, s.autoClaim d = true → s.RanksBefore c d

/-- One turn of the search: a candidate takes the place of a best one of a higher rank. -/
def betterOf (s : State) (best : Option Chan) (c : Chan) : Option Chan :=
  if s.autoClaim c then
    match best with
    | some b => if s.rank c < s.rank b then some c else best
    | none => some c
  else best

theorem bestCandidate_eq (s : State) : s.bestCandidate = (List.finRange 32).foldl s.betterOf none := rfl

/-- A turn on a channel above those seen keeps the best of them. -/
theorem BestOf.turn {l : List Chan} {best : Option Chan} (h : s.BestOf l best) (above : ∀ d ∈ l, d < c) :
    s.BestOf (l ++ [c]) (s.betterOf best c) := by
  have whole {P : Chan → Prop} (old : ∀ d ∈ l, P d) (new : P c) : ∀ d ∈ l ++ [c], P d :=
    List.forall_mem_append.mpr ⟨old, List.forall_mem_singleton.mpr new⟩
  have last : c ∈ l ++ [c] := List.mem_append_right l List.mem_cons_self
  have itself : s.RanksBefore c c := .inr ⟨rfl, le_rfl⟩
  unfold betterOf
  by_cases candidate : s.autoClaim c = true
  · rw [if_pos candidate]
    cases best with
    | none => exact ⟨last, candidate, whole (fun d seen auto => absurd auto (by simp [h d seen])) fun _ => itself⟩
    | some b =>
      obtain ⟨held, auto, first⟩ := h
      dsimp only
      split
      next lower =>
        refine ⟨last, candidate, whole (fun d seen auto' => .inl ?_) fun _ => itself⟩
        exact (first d seen auto').elim lower.trans fun same => same.1 ▸ lower
      next notLower =>
        refine ⟨List.mem_append_left _ held, auto, whole first fun _ => ?_⟩
        exact (Nat.lt_or_eq_of_le (Nat.not_lt.mp notLower)).imp_right fun same => ⟨same, (above b held).le⟩
  · rw [if_neg candidate]
    cases best with
    | none => exact whole h (by simpa using candidate)
    | some b =>
      obtain ⟨held, auto, first⟩ := h
      exact ⟨List.mem_append_left _ held, auto, whole first fun auto' => absurd auto' candidate⟩

theorem BestOf.foldl {l : List Chan} : ∀ {seen : List Chan} {best : Option Chan}, s.BestOf seen best →
    (seen ++ l).Pairwise (· < ·) → s.BestOf (seen ++ l) (l.foldl s.betterOf best) := by
  induction l with
  | nil => intro seen best h _; rwa [List.append_nil]
  | cons c l ih =>
    intro seen best h rising
    have above : ∀ d ∈ seen, d < c := fun d mem => (List.pairwise_append.mp rising).2.2 d mem c List.mem_cons_self
    have split : seen ++ c :: l = (seen ++ [c]) ++ l := by simp
    rw [split] at rising ⊢
    exact ih (h.turn above) rising

theorem bestOf_bestCandidate (s : State) : s.BestOf (List.finRange 32) s.bestCandidate :=
  BestOf.foldl (seen := []) (best := none) (by simp [BestOf]) (List.pairwise_lt_finRange 32)

theorem bestCandidate_eq_none : s.bestCandidate = none ↔ ∀ c, s.autoClaim c = false := by
  have best := s.bestOf_bestCandidate
  rcases found : s.bestCandidate with _ | b <;> rw [found] at best
  · exact ⟨fun _ c => best c (List.mem_finRange c), fun _ => rfl⟩
  · exact ⟨nofun, fun none => absurd best.2.1 (by simp [none b])⟩

theorem bestCandidate_eq_some : s.bestCandidate = some c ↔
    s.autoClaim c = true ∧ ∀ d, s.autoClaim d = true → s.RanksBefore c d := by
  have best := s.bestOf_bestCandidate
  rcases found : s.bestCandidate with _ | b <;> rw [found] at best
  · exact ⟨nofun, fun ⟨auto, _⟩ => absurd auto (by simp [best c (List.mem_finRange c)])⟩
  obtain ⟨-, auto, first⟩ := best
  refine ⟨?_, fun ⟨auto', first'⟩ => ?_⟩
  · rintro ⟨⟩
    exact ⟨auto, fun d => first d (List.mem_finRange d)⟩
  · rw [(first c (List.mem_finRange c) auto').antisymm (first' b auto)]

/-! ### The look (R113, R123, R183) -/

theorem runLatch_idle (idle : s.claims.latch = none) : s.runLatch = s := by
  unfold runLatch
  rw [idle]
  exact ite_self s

theorem look_contested (contested : s.claims.current = some c) : s.look = s := by
  have busy : s.claims.current ≠ none := by rw [contested]; exact Option.some_ne_none c
  have latch : s.runLatch = s := if_neg fun free => busy free.1
  rw [look, latch]
  exact if_neg fun free => busy free.1

section
variable (calm : s.claims.current = none) (idle : s.claims.latch = none)
include calm idle

theorem look_uncontested : s.look = s.bestCandidate.elim s fun c =>
    if s.beforeClaim.hasRoom .zero then s.beforeClaim.startClaim c false else s.beforeClaim := by
  rw [look, runLatch_idle idle]
  refine (if_pos ⟨calm, idle⟩).trans ?_
  cases s.bestCandidate <;> rfl

theorem look_none (none : s.bestCandidate = none) : s.look = s := by rw [look_uncontested calm idle, none]; rfl

theorem look_starts (best : s.bestCandidate = some c) (room : s.beforeClaim.hasRoom .zero = true) :
    s.look = s.beforeClaim.startClaim c false := by
  rw [look_uncontested calm idle, best]; exact if_pos room

theorem look_full (best : s.bestCandidate = some c) (full : s.beforeClaim.hasRoom .zero = false) :
    s.look = s.beforeClaim := by
  rw [look_uncontested calm idle, best]; exact if_neg (by simp [full])

end

/-! ### The review (R120) -/

theorem claimLapsed_iff : s.claimLapsed c = true ↔ s.loader.station ≠ .ready ∨ s.time.timeState ≠ .set ∨
    (s.chan c).replica ≠ .current ∨ ((s.view c).own.elim false Claim.forced = false ∧ ∀ w, s.watchRec c = some w →
      w.health ≠ .failed ∨ w.inhibit = true ∨ (w.orphan = true ∧ w.pictureBad.value = false)) := by
  rcases rec : s.watchRec c with _ | w <;> simp [claimLapsed, rec, or_assoc]

theorem review_withdraws (current : s.claims.current = some c) (claiming : (s.view c).contest = .claiming)
    (lapsed : s.claimLapsed c = true) : s.review = (s.endClaim c .idle none).look := by
  simp only [review, current]; exact if_pos ⟨claiming, lapsed⟩

end Sys2Proof.Machine.State

/-! ## The frame event's judging settles its obligation -/

namespace Sys2Proof.WatchingTheMainSite

open Sys2Proof.Machine

/-- Settles O60: the work of a frame event in its order; the evaluation and the judgement begun afresh; the return of
authority; the automatic claim, its candidate and its look; the review. -/
theorem frameWorkJudgesAndClaims : Obligations.FrameWorkJudgesAndClaims := by
  refine ⟨⟨fun s closed => s.settle_closed closed, fun s openFrame => ?work⟩, ⟨fun s c w rec => ?evaluation,
    fun s c w rec => ⟨fun kept => State.authorityTest_kept rec kept, fun returns => ?returns⟩⟩,
    fun s c => ?automatic, fun s => ⟨fun c => State.bestCandidate_eq_some, State.bestCandidate_eq_none⟩,
    fun s => ⟨fun c contested => State.look_contested contested, fun calm idle =>
      ⟨State.look_none calm idle, fun c best => ⟨State.look_starts calm idle best, State.look_full calm idle best⟩⟩⟩,
    fun s c current => ?review, fun s calm => s.review_calm calm⟩
  case work =>
    refine ⟨by rw [s.settle_open openFrame]; rfl, ?_⟩
    intro judged stored watched slots done
    have all : s.frameWork = done := rfl
    rw [s.settle_open openFrame, all]
    rfl
  case evaluation =>
    intro held e h u
    have settled : s.settleHealth c w.health = u := State.settleHealth_eq rec w.health
    have evaluated := State.evaluate_eq rec
    rw [settled] at evaluated
    refine ⟨fun site => ?_, fun main => ?_, rfl, rfl, rfl, WatchRec.evidence_beating,
      fun enters left => evaluated.trans (if_pos ⟨left, enters⟩),
      fun stays => evaluated.trans (if_neg fun ⟨left, enters⟩ => stays.elim (· enters) left),
      rfl, State.restartHealth_watchRec rec⟩
    · have read : e = w.evidence s.rate s.now true := congrArg (w.evidence s.rate s.now) site
      rw [read]; exact w.evidence_held s.rate s.now
    · have read : e = w.evidence s.rate s.now false := congrArg (w.evidence s.rate s.now) main
      rw [read]; exact ⟨rfl, rfl, WatchRec.evidence_nominal⟩
  case returns =>
    intro u
    have back : u = s.mainReturns c none := State.authorityTest_returns rec returns
    rw [back]
    have others (d : Chan) (other : d ≠ c) := State.mainReturns_chan_other (s := s) other
    have closed (shut : s.time.frameOpen = false) (d : Chan) (other : d ≠ c) :=
      State.mainReturns_chan_closed shut other
    by_cases empty : (s.chan c).replica = .empty
    · rw [State.mainReturns_chan_empty empty]
      exact ⟨rfl, rfl, fun held => absurd empty held, fun _ => empty, rfl, others, closed⟩
    · rw [State.mainReturns_chan_held empty]
      exact ⟨rfl, rfl, fun _ => ⟨rfl, rfl⟩, fun none => absurd none empty, rfl, others, closed⟩
  case automatic => simp only [State.autoClaim_iff, State.mayClaim_iff, and_assoc]
  case review =>
    intro lapsed
    have lapsedIff : s.claimLapsed c = true ↔ lapsed := State.claimLapsed_iff
    refine ⟨fun claiming out => State.review_withdraws current claiming (lapsedIff.mpr out),
      fun stays => s.review_kept c current fun ⟨claiming, out⟩ => ?_⟩
    exact stays.elim (· claiming) (· (lapsedIff.mp out))

end Sys2Proof.WatchingTheMainSite

/-! ## The arithmetic of a grid (R90 to R95) -/

namespace Sys2Proof.Machine

theorem runOf_raises (b : Prop) [Decidable b] (n : Nat) :
    (b → runOf (decide b) n = min 255 (n + 1)) ∧ (¬b → runOf (decide b) n = 0) :=
  ⟨fun holds => if_pos (decide_eq_true holds), fun fails => if_neg (by simp [fails])⟩

/-! ### The mean and the counts (R90, R92, R93) -/

theorem meanOf_eq (vs : List Nat) : meanOf vs = vs.sum / vs.length := by
  rw [meanOf, List.sum_eq_foldl]

/-- The mean lies between any bounds of the values. -/
theorem mean_between {vs : List Nat} {lo hi : Nat} (nonempty : vs ≠ []) (bounds : ∀ v ∈ vs, lo ≤ v ∧ v ≤ hi) :
    lo ≤ vs.sum / vs.length ∧ vs.sum / vs.length ≤ hi := by
  have above : vs.length • lo ≤ vs.sum := List.card_nsmul_le_sum vs lo fun v mem => (bounds v mem).1
  have below : vs.sum ≤ vs.length • hi := List.sum_le_card_nsmul vs hi fun v mem => (bounds v mem).2
  refine ⟨(Nat.le_div_iff_mul_le (List.length_pos_iff.mpr nonempty)).mpr ?_, Nat.div_le_of_le_mul below⟩
  rwa [Nat.mul_comm]

theorem isFlat_eq (p : Profile) (vs : List Nat) : isFlat p vs = decide (flatShare p.fp * vs.length ≤
    (vs.filter fun v => decide (max v (vs.sum / vs.length) - min v (vs.sum / vs.length) ≤ p.fl)).length * 100) := by
  rw [← meanOf_eq]; rfl

theorem changedCount_le (p : Profile) (cells ref : List Byte) :
    changedCount p cells ref ≤ (activeCells p cells).length :=
  calc changedCount p cells ref
    _ ≤ ((activeCells p cells).zip (activeCells p ref)).length := List.length_filter_le _ _
    _ ≤ (activeCells p cells).length := by rw [List.length_zip]; exact Nat.min_le_left _ _

namespace Probe

variable {x : Probe} {p : Profile} {cells ref : List Byte}

/-! ### The context after a grid (R91 to R94) -/

/-- A first grid becomes the reference, its runs counted from 0. -/
theorem arithmetic_first (first : x.reference = none) : x.arithmetic p cells =
    { x with reference := some cells, gridCount := 0, freezeRun := 0
             mean := some (meanOf (activeCells p cells)), active := some (activeCells p cells).length
             darkRun := runOf (decide (meanOf (activeCells p cells) < p.dl)) 0
             flatRun := runOf (isFlat p (activeCells p cells)) 0 } := by
  simp only [arithmetic, compare, first, Option.isNone_none, if_true]

/-- A later grid is compared with the reference, and replaces it at the K-th comparison. -/
theorem arithmetic_later (later : x.reference = some ref) : x.arithmetic p cells =
    { x with reference := if p.k ≤ x.gridCount + 1 then some cells else some ref
             gridCount := if p.k ≤ x.gridCount + 1 then 0 else x.gridCount + 1
             freezeRun := runOf (decide (changedCount p cells ref < p.cs)) x.freezeRun
             mean := some (meanOf (activeCells p cells)), active := some (activeCells p cells).length
             darkRun := runOf (decide (meanOf (activeCells p cells) < p.dl)) x.darkRun
             flatRun := runOf (isFlat p (activeCells p cells)) x.flatRun } := by
  by_cases replaces : p.k ≤ x.gridCount + 1 <;>
    simp only [arithmetic, compare, later, replaces, Option.isNone_some, Bool.false_eq_true, if_true, if_false]

theorem arithmetic_mean : (x.arithmetic p cells).mean = some (meanOf (activeCells p cells)) := by
  cases seen : x.reference with
  | none => rw [arithmetic_first seen]
  | some ref => rw [arithmetic_later seen]

theorem arithmetic_active : (x.arithmetic p cells).active = some (activeCells p cells).length := by
  cases seen : x.reference with
  | none => rw [arithmetic_first seen]
  | some ref => rw [arithmetic_later seen]

/-- The verdict and the counts that say whether grids arrive at all are not the arithmetic's. -/
theorem arithmetic_keeps : (x.arithmetic p cells).verdict = x.verdict ∧
    (x.arithmetic p cells).lockLoss = x.lockLoss ∧ (x.arithmetic p cells).silence = x.silence := by
  cases seen : x.reference with
  | none => rw [arithmetic_first seen]; exact ⟨rfl, rfl, rfl⟩
  | some ref => rw [arithmetic_later seen]; exact ⟨rfl, rfl, rfl⟩

/-! ### The judgement of a grid (R86, R88, R89, R95) -/

/-- The context that a grid with the lock flag on is judged in: begun afresh after a lock-loss run of 3 or more. -/
def locked (x : Probe) : Probe :=
  if 3 ≤ x.lockLoss then { x.afresh with silence := 0 } else { x with silence := 0, lockLoss := 0 }

theorem judge_locked_few (few : (activeCells p cells).length < 16) :
    x.judge p true cells = (x.locked, some .unknown) := by
  simp only [judge, if_true, few]; rfl

theorem judge_locked_full (full : 16 ≤ (activeCells p cells).length) :
    x.judge p true cells = (x.locked.arithmetic p cells, some ((x.locked.arithmetic p cells).picture p)) := by
  simp only [judge, if_true, if_neg (Nat.not_lt.mpr full)]; rfl

/-- The context after a grid with the lock flag off. -/
def unlocked (x : Probe) : Probe := { x with silence := 0, lockLoss := min 255 (x.lockLoss + 1) }

theorem judge_unlocked_short (short : min 255 (x.lockLoss + 1) < 3) :
    x.judge p false cells = (x.unlocked, none) :=
  congrArg (Prod.mk x.unlocked) (if_neg (Nat.not_le.mpr short))

theorem judge_unlocked_long (long : 3 ≤ min 255 (x.lockLoss + 1)) :
    x.judge p false cells = (x.unlocked, some .noSignal) :=
  congrArg (Prod.mk x.unlocked) (if_pos long)

end Probe

end Sys2Proof.Machine

/-! ## Grids and verdicts of the probes (R86, R87, R96, R99, R183) -/

namespace Sys2Proof.Machine.State

variable {s : State} {p : ProbeId} {c : Chan} {n : Nat} {lock : Bool} {cells : List Byte} {v : Verdict}

/-! ### A delivery on the probe port (R86) -/

theorem gridArrives_accepted (mapped : (s.probe p).chan = some c) (active : s.active = true)
    (whole : cells.length = 144) : s.gridArrives p.val lock cells = s.judgeGrid p c lock cells := by
  simp only [gridArrives, p.isLt, mapped, active, whole, decide_true, Bool.and_self, if_true, dite_true]

theorem gridArrives_discarded (h : s.active = false ∨ 4 ≤ n ∨ cells.length ≠ 144 ∨
    ∃ p : ProbeId, p.val = n ∧ (s.probe p).chan = none) : s.gridArrives n lock cells = s := by
  unfold gridArrives
  split
  next isProbe =>
    split
    next c mapped =>
      refine if_neg fun taken => ?_
      obtain ⟨active, whole⟩ := (Bool.and_eq_true _ _).mp taken
      obtain shut | beyond | short | ⟨p, rfl, unmapped⟩ := h
      · exact Bool.false_ne_true (shut.symm.trans active)
      · exact Nat.not_lt.mpr beyond isProbe
      · exact short (of_decide_eq_true whole)
      · cases unmapped.symm.trans mapped
    next => rfl
  next => rfl

theorem judgeGrid_silent {x : Probe} (judged : (s.probe p).judge (s.chan c).profile lock cells = (x, none)) :
    s.judgeGrid p c lock cells = s.modProbe p fun _ => x := by
  simp only [judgeGrid, judged]

theorem judgeGrid_forms {x : Probe} (judged : (s.probe p).judge (s.chan c).profile lock cells = (x, some v)) :
    s.judgeGrid p c lock cells = (s.modProbe p fun _ => x).formVerdict p v := by
  simp only [judgeGrid, judged]

/-! ### A verdict formed, and given (R96) -/

theorem giveVerdict_mapped (mapped : (s.probe p).chan = some c) :
    s.giveVerdict p = ((s.verdictEnters c s.me (s.probe p).verdict).modProbe p fun x =>
      { x with repeatTimer := 0, sendPending := true }).offerVerdict p := by
  simp only [giveVerdict, mapped]

theorem formVerdict_same (same : (s.probe p).verdict = v) : s.formVerdict p v = s := if_pos same

theorem formVerdict_other (mapped : (s.probe p).chan = some c) (other : (s.probe p).verdict ≠ v) :
    s.formVerdict p v = (((s.modProbe p fun x => { x with verdict := v }).verdictEnters c s.me v).modProbe p fun x =>
      { x with repeatTimer := 0, sendPending := true }).offerVerdict p := by
  rw [formVerdict, if_neg other, giveVerdict_mapped (c := c) (by rw [modProbe_probe]; exact mapped), modProbe_probe,
    modProbe_me]

/-! ### Silence and repeats (R87, R99) -/

theorem probeGone_silent (mapped : (s.probe p).chan.isSome = true) (silent : 12 ≤ (s.probe p).silence) :
    s.probeGone p = (s.modProbe p Probe.afresh).formVerdict p .unknown := if_pos ⟨mapped, silent⟩

theorem probeGone_kept (kept : (s.probe p).chan = none ∨ (s.probe p).silence < 12) : s.probeGone p = s := by
  refine if_neg fun ⟨mapped, silent⟩ => ?_
  obtain unmapped | heard := kept
  · rw [unmapped] at mapped; cases mapped
  · exact Nat.not_lt.mpr silent heard

theorem repeatVerdict_due (mapped : (s.probe p).chan = some c) (due : 50 ≤ (s.probe p).repeatTimer) :
    s.repeatVerdict p = s.giveVerdict p := if_pos ⟨Option.isSome_of_eq_some mapped, due⟩

theorem repeatVerdict_early (early : (s.probe p).chan = none ∨ (s.probe p).repeatTimer < 50) :
    s.repeatVerdict p = s := by
  refine if_neg fun ⟨mapped, due⟩ => ?_
  obtain unmapped | young := early
  · rw [unmapped] at mapped; cases mapped
  · exact Nat.not_lt.mpr due young

/-! ### A VERDICT put into class 1 (R99, R183) -/

section
variable (mapped : (s.probe p).chan = some c) (pending : (s.probe p).sendPending = true)
include mapped pending

theorem putVerdict_replaces (waits : s.waiting (isVerdictOf c) = true) :
    s.putVerdict p = (s.replaceWaiting (isVerdictOf c) (.verdict c (s.probe p).verdict)).modProbe p fun x =>
      { x with sendPending := false } := by
  simp only [putVerdict, mapped, pending, waits, if_true]

theorem putVerdict_room (fresh : s.waiting (isVerdictOf c) = false) (room : s.hasRoom .one = true) :
    s.putVerdict p = (s.enqueue (.verdict c (s.probe p).verdict)).modProbe p fun x =>
      { x with sendPending := false } := by
  simp only [putVerdict, mapped, pending, fresh, room, Bool.false_eq_true, if_true, if_false]

theorem putVerdict_full (fresh : s.waiting (isVerdictOf c) = false) (full : s.hasRoom .one = false) :
    s.putVerdict p = s := by
  simp only [putVerdict, mapped, pending, fresh, full, Bool.false_eq_true, if_false]

end

theorem putVerdict_idle (idle : (s.probe p).chan = none ∨ (s.probe p).sendPending = false) : s.putVerdict p = s := by
  unfold putVerdict
  dsimp only
  split
  next c mapped pending =>
    obtain unmapped | sent := idle
    · cases unmapped.symm.trans mapped
    · cases sent.symm.trans pending
  next => rfl

/-! ### What goes before it (R183) -/

theorem modProbe_probe_other (s : State) {p q : ProbeId} (f : Probe → Probe) (other : q ≠ p) :
    (s.modProbe q f).probe p = s.probe p := vmod_get_other _ _ _ _ other

theorem putVerdict_probe_other (s : State) {p q : ProbeId} (other : q ≠ p) :
    (s.putVerdict q).probe p = s.probe p := by
  unfold putVerdict
  dsimp only
  repeat' split
  case h_1.isTrue => exact modProbe_probe_other _ _ other
  case h_1.isFalse.isTrue => exact modProbe_probe_other _ _ other
  all_goals rfl

theorem beaconRetry_probe (s : State) (p : ProbeId) : s.beaconRetry.probe p = s.probe p := by
  unfold beaconRetry offerBeacon
  repeat' split
  all_goals rfl

/-- A held BEACON and the VERDICTs of the lower probes leave this probe's context. -/
theorem beforeVerdict_probe (s : State) (p : ProbeId) : (s.beforeVerdict p.val).probe p = s.probe p := by
  unfold beforeVerdict
  split
  · refine (foldl_keeps (fun t => t.probe p) (fun t q => ?_) _ _).trans (beaconRetry_probe s p)
    dsimp only
    split
    next lower => exact putVerdict_probe_other t (ne_of_lt lower)
    next => rfl
  · rfl

theorem beforeVerdict_open (p : ProbeId) (openFrame : s.time.frameOpen = true) :
    s.beforeVerdict p.val = forProbes (fun q u => if q < p then u.putVerdict q else u)
      (if s.active && s.line.beaconHeld then s.offerBeacon else s) := by
  rw [beforeVerdict, if_pos openFrame, beaconRetry]; rfl

theorem beforeVerdict_quiet (released : s.line.beaconHeld = false)
    (sent : ∀ q, q < p → (s.probe q).sendPending = false) : s.beforeVerdict p.val = s := by
  have retried : s.beaconRetry = s := if_neg (by simp [released])
  unfold beforeVerdict
  split
  · rw [retried]
    refine List.foldl_fixed' (fun q => ?_) _
    dsimp only
    split
    next lower => exact putVerdict_idle (.inr (sent q lower))
    next => rfl
  · rfl

end Sys2Proof.Machine.State

/-! ## Probes settle their obligations -/

namespace Sys2Proof.ReturnFeedAnalysis

open Sys2Proof.Machine

/-- Settles O27: what a delivery is taken for; the arithmetic of a grid; the verdict it forms. -/
theorem gridsAreJudgedByTheRules : Obligations.GridsAreJudgedByTheRules := by
  refine ⟨fun n lock cells s => ?delivery, fun pr cells x => ?arithmetic,
    fun s p c v mapped => ⟨State.formVerdict_same, State.formVerdict_other mapped⟩⟩
  case delivery =>
    intro t
    have work : exec (.gridDelivery n lock cells) s = .next (t.gridArrives n lock cells).review := rfl
    rw [work]
    refine ⟨fun discarded => by rw [State.gridArrives_discarded discarded], ?_⟩
    rintro p c rfl active whole mapped
    rw [State.gridArrives_accepted mapped active whole]
    refine ⟨?_, ?_, ?_, ?_⟩
    · rintro rfl short
      rw [State.judgeGrid_silent (Probe.judge_unlocked_short short)]; rfl
    · rintro rfl long
      rw [State.judgeGrid_forms (Probe.judge_unlocked_long long)]; rfl
    · rintro rfl few
      rw [State.judgeGrid_forms (Probe.judge_locked_few few)]; rfl
    · rintro rfl full
      rw [State.judgeGrid_forms (Probe.judge_locked_full full)]; rfl
  case arithmetic =>
    intro vs y raised mean near flat
    have dark (n : Nat) : raised (mean < pr.dl) n (runOf (decide (meanOf vs < pr.dl)) n) := by
      rw [meanOf_eq]; exact runOf_raises _ n
    have level (n : Nat) : raised flat n (runOf (isFlat pr vs) n) := by
      rw [isFlat_eq]; exact runOf_raises flat n
    refine ⟨List.length_filter_le _ _, rfl, rfl, rfl, rfl, Probe.arithmetic_mean.trans (congrArg some (meanOf_eq vs)),
      Probe.arithmetic_active, fun lo hi => mean_between, fun first => ?first, fun ref later => ?later, rfl,
      Probe.arithmetic_keeps⟩
    case first =>
      have y_eq : y = _ := Probe.arithmetic_first first
      rw [y_eq]
      exact ⟨rfl, rfl, rfl, dark 0, level 0⟩
    case later =>
      intro changed
      have y_eq : y = _ := Probe.arithmetic_later later
      rw [y_eq]
      exact ⟨changedCount_le pr cells ref, dark _, level _, runOf_raises (changed < pr.cs) _,
        fun replaces => ⟨if_pos replaces, if_pos replaces⟩,
        fun keeps => ⟨if_neg (Nat.not_le.mpr keeps), if_neg (Nat.not_le.mpr keeps)⟩⟩

/-- Settles O28: the three steps at the open frame event, the VERDICT offered behind what R183 puts before it. -/
theorem probesRepeatAndFallSilent : Obligations.ProbesRepeatAndFallSilent := by
  intro p s openFrame t x u sent
  have before : t.beforeVerdict p.val = u := State.beforeVerdict_open p (State.atStep_frameOpen openFrame)
  have context : u.probe p = x := before ▸ State.beforeVerdict_probe t p
  have gone : exec (.probeSilent p) s = .next (t.probeGone p).review :=
    congrArg Host.Outcome.next (s.atFrame_open _ openFrame)
  have again : exec (.verdictRepeat p) s = .next (t.repeatVerdict p).review :=
    congrArg Host.Outcome.next (s.atFrame_open _ openFrame)
  have retry : exec (.verdictOfferRetry p) s = .next (u.putVerdict p).review :=
    before ▸ congrArg Host.Outcome.next (s.atFrame_open _ openFrame)
  rw [gone, again, retry]
  refine ⟨fun mapped silent => ?_, fun kept => ?_, fun c mapped due => ?_, fun early => ?_,
    fun c mapped pending => ?offered, fun idle => ?_, fun ⟨released, lower⟩ => ?_⟩
  · rw [State.probeGone_silent mapped silent]; rfl
  · rw [State.probeGone_kept kept]
  · rw [State.repeatVerdict_due mapped due, State.giveVerdict_mapped mapped]
  · rw [State.repeatVerdict_early early]
  case offered =>
    rw [← context] at mapped pending ⊢
    exact ⟨fun waits => by rw [State.putVerdict_replaces mapped pending waits],
      fun fresh room => by rw [State.putVerdict_room mapped pending fresh room],
      fun fresh full => by rw [State.putVerdict_full mapped pending fresh full]⟩
  · rw [State.putVerdict_idle (context ▸ idle)]
  · exact before.symm.trans (State.beforeVerdict_quiet released lower)

end Sys2Proof.ReturnFeedAnalysis

/-! ## Claims compared (R107) -/

namespace Sys2Proof.Machine

/-- A forced claim beats an unforced one; of two forced the lower address wins, of two unforced the lower weight. -/
theorem WholeClaim.better_iff (x y : WholeClaim) : x.better y = true ↔
    (x.claim.forced = true ∧ y.claim.forced = false) ∨
    (x.claim.forced = true ∧ y.claim.forced = true ∧ x.addr < y.addr) ∨
    (x.claim.forced = false ∧ y.claim.forced = false ∧ x.claim.weight < y.claim.weight) := by
  cases hx : x.claim.forced <;> cases hy : y.claim.forced <;> simp [WholeClaim.better, hx, hy]

theorem WholeClaim.better_asymm {x y : WholeClaim} (h : x.better y = true) : ¬y.better x = true := by
  rw [better_iff] at h ⊢
  rcases h with ⟨forced, free⟩ | ⟨forced, forced', lower⟩ | ⟨free, free', lower⟩
  · simp [forced, free]
  · simp [forced, forced', lower.le]
  · simp [free, free', lower.le]

/-- Of two claims with other addresses, and other weights where both are unforced, one is better. -/
theorem WholeClaim.better_total {x y : WholeClaim} (addrs : x.addr ≠ y.addr)
    (weights : x.claim.forced = false → y.claim.forced = false → x.claim.weight ≠ y.claim.weight) :
    x.better y = true ∨ y.better x = true := by
  rw [better_iff, better_iff]
  cases hx : x.claim.forced <;> cases hy : y.claim.forced
  case false.false => simpa [hx, hy] using Nat.lt_or_gt_of_ne (weights hx hy)
  case true.true => simpa [hx, hy] using Nat.lt_or_gt_of_ne addrs
  case false.true => simp
  case true.false => simp

end Sys2Proof.Machine

namespace Sys2Proof.PeersAndClaims

open Sys2Proof.Machine

/-- Settles O31: the comparison case by case; weights that end in their addresses differ where the addresses do. -/
theorem claimsAreComparedWhole : Obligations.ClaimsAreComparedWhole := by
  refine fun x y => ⟨x.better_iff y, fun ⟨h, g⟩ => WholeClaim.better_asymm h g, fun addrs endX endY => ?_⟩
  have weights : x.claim.weight ≠ y.claim.weight := fun same =>
    addrs (endX.symm.trans ((congrArg (· % 100) same).trans endY))
  exact ⟨fun _ _ => weights, WholeClaim.better_total addrs fun _ _ => weights⟩

end Sys2Proof.PeersAndClaims

/-! ## Rules about the views, the watch records and the folds over the channels -/

namespace Sys2Proof.Machine

/-- A fold over the channels, seen through a reading that only channel `c`'s own turn can change, is that turn. -/
theorem forChans_at {α : Type} (p : State → α) (c : Chan) {f : Chan → State → State}
    (others : ∀ d t, d ≠ c → p (f d t) = p t) (s : State) :
    ∃ t, p t = p s ∧ p (forChans f s) = p (f c t) := by
  obtain ⟨as, bs, split⟩ := List.append_of_mem (List.mem_finRange c)
  have distinct : (as ++ c :: bs).Nodup := split ▸ List.nodup_finRange 32
  have skip (l : List Chan) (away : c ∉ l) (t : State) : p (l.foldl (fun t d => f d t) t) = p t := by
    induction l generalizing t with
    | nil => rfl
    | cons d l ih =>
      obtain ⟨other, away⟩ := not_or.mp (mt List.mem_cons.mpr away)
      exact (ih away _).trans (others d t (Ne.symm other))
  have before : c ∉ as := fun mem => (List.nodup_append.mp distinct).2.2 c mem c List.mem_cons_self rfl
  have behind : c ∉ bs := (List.nodup_cons.mp (List.nodup_append.mp distinct).2.1).1
  refine ⟨as.foldl (fun t d => f d t) s, skip as before s, ?_⟩
  rw [forChans, split, List.foldl_append, List.foldl_cons]
  exact skip bs behind _

namespace State

variable {s t : State} {c d : Chan}

theorem view_congr (h : t.views = s.views) (d : Chan) : t.view d = s.view d := by rw [view, h, view]
theorem slot_congr (h : t.slots = s.slots) (n : SlotId) : t.slot n = s.slot n := by rw [slot, h, slot]
theorem watchRec_congr (h : t.watch = s.watch) (d : Chan) : t.watchRec d = s.watchRec d := by rw [watchRec, h, watchRec]
theorem peer_congr (h : t.peers = s.peers) (a : Addr) : t.peer a = s.peer a := by rw [peer, h, peer]

/-- Two changes that agree on a channel's view are one. -/
theorem modView_congr {f g : View → View} (same : f (s.view c) = g (s.view c)) : s.modView c f = s.modView c g := by
  rw [modView, modView, vmod, vmod, show f (s.views.get c) = g (s.views.get c) from same]

/-- A change that gives the view back is none. -/
theorem modView_self {f : View → View} (same : f (s.view c) = s.view c) : s.modView c f = s := by
  have back : vmod s.views c f = s.views := by
    rw [vmod, show f (s.views.get c) = s.views.get c from same, Vector.get_eq_getElem]
    exact Vector.set_getElem_self _
  rw [modView, back]

theorem modWatch_watchRec_other (f : WatchRec → WatchRec) (other : d ≠ c) :
    (s.modWatch c f).watchRec d = s.watchRec d := vmod_get_other _ _ _ _ other.symm

end State

end Sys2Proof.Machine

/-! ## A CLAIM heard and a CLAIM echoed (R115, R116) -/

namespace Sys2Proof.Machine.State

variable {s : State} {c : Chan} {rx : Reception} {src dst : Addr} {chan weight forced : Nat}

/-! ### The arrival -/

theorem exec_claimHeard_legal {f : Bool} (heard : s.found.receive rx = .deliver src dst (.claim chan weight forced))
    (named : chanOf chan = some c) (legal : flagOf forced = some f) :
    exec (.claimHeard rx) s = .next ((s.found.hear src).claimArrives c src ⟨f, weight⟩).review := by
  refine congrArg Host.Outcome.next ((arrival_taken s rx _ src dst _ _ heard rfl).trans ?_)
  simp only [named, legal]
  rfl

theorem exec_claimHeard_illegal (heard : s.found.receive rx = .deliver src dst (.claim chan weight forced))
    (illegal : chanOf chan = none ∨ flagOf forced = none) :
    exec (.claimHeard rx) s = .next (s.found.hear src).review := by
  refine congrArg Host.Outcome.next ((arrival_taken s rx _ src dst _ _ heard rfl).trans ?_)
  split
  next c f named legal =>
    rcases illegal with none | none
    · rw [none] at named; cases named
    · rw [none] at legal; cases legal
  next => rfl

/-! ### Its judgement by the contest (R116) -/

/-- A CLAIM of the channel is judged: the channel is watched and the sender is not excluded. -/
def Hears (s : State) (c : Chan) (a : Addr) : Prop :=
  (s.chan c).watched = true ∧ ∀ x ∈ (s.view c).exclusions, x.1 ≠ a

theorem hears_iff {a : Addr} : s.Hears c a ↔
    ¬((s.chan c).watched = false ∨ ((s.view c).exclusions.any fun x => decide (x.1 = a)) = true) := by
  simp only [Hears, ne_eq, not_or, Bool.not_eq_false, List.any_eq_true, decide_eq_true_eq, not_exists, not_and]

section
variable {a : Addr} {k own : Claim}

theorem claimArrives_deaf (deaf : ¬s.Hears c a) : s.claimArrives c a k = s :=
  if_pos (not_not.mp (mt hears_iff.mpr deaf))

theorem claimArrives_idle (hears : s.Hears c a) (idle : (s.view c).contest = .idle) : s.claimArrives c a k =
    if (s.view c).holder.isNone then s.modView c fun v => { v with contest := .deferred, rival := some ⟨a, k, s.now⟩ }
    else s := by simp only [claimArrives, if_neg (hears_iff.mp hears), idle]

theorem claimArrives_claiming (hears : s.Hears c a) (claiming : (s.view c).contest = .claiming)
    (mine : (s.view c).own = some own) : s.claimArrives c a k =
    if WholeClaim.better ⟨a, k⟩ ⟨s.me, own⟩ then (s.endClaim c .deferred (some ⟨a, k, s.now⟩)).look else s := by
  simp only [claimArrives, if_neg (hears_iff.mp hears), claiming, mine]

/-- A DEFERRED contest takes the sender as its best rival when it has none or a worse one. -/
theorem claimArrives_deferred_better (hears : s.Hears c a) (deferred : (s.view c).contest = .deferred)
    (better : ∀ old, (s.view c).rival = some old → WholeClaim.better ⟨a, k⟩ ⟨old.addr, old.claim⟩ = true) :
    s.claimArrives c a k =
      s.modView c fun v => { v with contest := .deferred, rival := some ⟨a, k, s.now⟩ } := by
  have stays : (s.modView c fun v => { v with rival := some ⟨a, k, s.now⟩ }) =
      s.modView c fun v => { v with contest := .deferred, rival := some ⟨a, k, s.now⟩ } :=
    modView_congr (by rw [← deferred])
  simp only [claimArrives, if_neg (hears_iff.mp hears), deferred]
  cases rival : (s.view c).rival with
  | none => exact stays
  | some old => exact (if_pos (better old rival)).trans stays

theorem claimArrives_deferred_worse {old : Rival} (hears : s.Hears c a) (deferred : (s.view c).contest = .deferred)
    (rival : (s.view c).rival = some old) (worse : WholeClaim.better ⟨a, k⟩ ⟨old.addr, old.claim⟩ = false) :
    s.claimArrives c a k = s := by
  simp only [claimArrives, if_neg (hears_iff.mp hears), deferred, rival]
  exact if_neg (Bool.eq_false_iff.mp worse)

theorem claimArrives_taken (taken : (s.view c).contest = .taking ∨ (s.view c).contest = .taken) :
    s.claimArrives c a k = s := by
  by_cases hears : s.Hears c a
  · rcases taken with taken | taken <;> simp only [claimArrives, if_neg (hears_iff.mp hears), taken]
  · exact claimArrives_deaf hears

end

/-! ### The echo (R115) -/

theorem exec_claimEcho {k : Claim} {serial : Nat}
    (echoed : s.found.sendingHead (fun m => decide (m.kind = .claim)) = some (.claim c k serial)) :
    exec .claimEcho s = .next (s.found.leaveHead.claimEchoed c serial).review :=
  congrArg Host.Outcome.next (echo_taken s _ _ _ echoed)

end Sys2Proof.Machine.State

namespace Sys2Proof.PeersAndClaims

open Sys2Proof.Machine

/-- Settles O34: the CLAIM heard in each contest state, and the echo of the contest's latest CLAIM. -/
theorem claimsHeardAndEchoedMoveTheContest : Obligations.ClaimsHeardAndEchoedMoveTheContest := by
  refine ⟨?claim, ?echo⟩
  case claim =>
    intro rx s src dst chan weight forced t heard
    refine ⟨State.exec_claimHeard_illegal heard, fun c f named legal => ?_⟩
    intro v k rival free deferred
    rw [State.exec_claimHeard_legal heard named legal]
    refine ⟨fun deaf => ?_, fun hears idle none => ?_, fun hears idle some => ?_,
      fun own hears claiming mine better => ?_, fun own hears claiming mine worse => ?_, fun hears defers better => ?_,
      fun old hears defers held worse => ?_, fun taken => ?_⟩
    · rw [State.claimArrives_deaf deaf]
    · rw [State.claimArrives_idle hears idle, if_pos (Option.isNone_iff_eq_none.mpr none)]
    · rw [State.claimArrives_idle hears idle, if_neg (mt Option.isNone_iff_eq_none.mp some)]
    · rw [State.claimArrives_claiming hears claiming mine, if_pos better]
    · rw [State.claimArrives_claiming hears claiming mine, if_neg (Bool.eq_false_iff.mp worse)]
    · rw [State.claimArrives_deferred_better hears defers better]
    · rw [State.claimArrives_deferred_worse hears defers held worse]
    · rw [State.claimArrives_taken taken]
  case echo =>
    intro s c k serial t echoed u
    rw [State.exec_claimEcho echoed]
    exact ⟨fun latest => congrArg (fun t => Host.Outcome.next (State.review t)) (if_pos latest),
      fun other => congrArg (fun t => Host.Outcome.next (State.review t)) (if_neg other)⟩

end Sys2Proof.PeersAndClaims

/-! ## A claim's weight and its start (R111, R114) -/

namespace Sys2Proof.Machine.State

variable {s : State} {c : Chan} {n : SlotId} {forced : Bool}

/-! ### The first slot of a kind -/

theorem find_slot_eq_some {p : SlotId → Bool} :
    (List.finRange 8).find? p = some n ↔ p n = true ∧ ∀ m, m < n → p m = false := by
  rw [← Fin.find?_eq_find?_finRange]
  exact Fin.find?_eq_some_iff

theorem firstFree_eq_some : s.firstFree = some n ↔
    (s.slot n).state = .free ∧ ∀ m, m < n → (s.slot m).state ≠ .free := by
  simp only [firstFree, find_slot_eq_some, decide_eq_true_eq, decide_eq_false_iff_not, ne_eq]

/-! ### The weight (R111) -/

/-- The slots that are not FREE. -/
def takenSlots (s : State) : Nat := ((List.finRange 8).filter fun n => decide ((s.slot n).state ≠ .free)).length

theorem freeSlots_add_takenSlots (s : State) : s.freeSlots + s.takenSlots = 8 := by
  have all := List.length_eq_countP_add_countP (fun n => decide ((s.slot n).state = .free)) (l := List.finRange 8)
  simp only [decide_eq_true_eq, List.countP_eq_length_filter, List.length_finRange] at all
  exact all.symm

theorem weight_eq (s : State) (c : Chan) : s.weight c = 1000 * s.takenSlots + 100 * s.rank c + s.me := by
  have whole := s.freeSlots_add_takenSlots
  rw [weight, show 8 - s.freeSlots = s.takenSlots by omega]

theorem takenSlots_lt (free : ∃ n, (s.slot n).state = .free) : s.takenSlots ≤ 7 := by
  obtain ⟨n, free⟩ := free
  have mem : n ∈ (List.finRange 8).filter fun n => (s.slot n).state = .free := by simp [free]
  have some : 0 < s.freeSlots := List.length_pos_of_mem mem
  have whole := s.freeSlots_add_takenSlots
  omega

theorem rank_le (s : State) (c : Chan) : s.rank c ≤ 4 := by
  unfold rank
  split
  · exact min_le_right _ _
  · exact le_rfl

/-- The rank is the first of the four places that names the station. -/
theorem rank_place {i : Nat} (high : i < 4) (named : (s.chan c).profile.preference[i]? = some s.me)
    (first : ∀ j, j < i → (s.chan c).profile.preference[j]? ≠ some s.me) : s.rank c = i := by
  obtain ⟨short, here⟩ := List.getElem?_eq_some_iff.mp named
  have place : (s.chan c).profile.preference.idxOf? s.me = some i :=
    List.idxOf?_eq_some_iff.mpr ⟨short, here, fun j lower same =>
      first j lower (List.getElem?_eq_some_iff.mpr ⟨lower.trans short, same⟩)⟩
  simp only [rank, place]
  exact min_eq_left high.le

theorem rank_unlisted (unlisted : s.me ∉ (s.chan c).profile.preference) : s.rank c = 4 := by
  simp only [rank, List.idxOf?_eq_none_iff.mpr unlisted]

/-! ### The start (R114) -/

theorem startClaim_none (full : s.firstFree = none) : s.startClaim c forced = s := by simp only [startClaim, full]

theorem startClaim_eq (first : s.firstFree = some n) : s.startClaim c forced =
    (((s.modSlot n fun x => { x with state := .reserved, chan := some c }).modView c fun v =>
      { v with contest := .claiming, own := some ⟨forced, s.weight c⟩, serial := s.claims.serial + 1, rival := none
               window := none }).setClaims fun e => { e with current := some c, serial := s.claims.serial + 1 }).enqueue
      (.claim c ⟨forced, s.weight c⟩ (s.claims.serial + 1)) := by
  simp only [startClaim, first]

theorem startClaim_slot (first : s.firstFree = some n) :
    (s.startClaim c forced).slot n = { s.slot n with state := .reserved, chan := some c } := by
  rw [startClaim_eq first, slot_congr (enqueue_slots _ _), setClaims_slot, modView_slot, modSlot_slot]

theorem startClaim_slot_other (first : s.firstFree = some n) {m : SlotId} (other : m ≠ n) :
    (s.startClaim c forced).slot m = s.slot m := by
  rw [startClaim_eq first, slot_congr (enqueue_slots _ _), setClaims_slot, modView_slot,
    modSlot_slot_other s n m _ other.symm]

theorem startClaim_view (first : s.firstFree = some n) : (s.startClaim c forced).view c = { s.view c with
    contest := .claiming, own := some ⟨forced, s.weight c⟩, serial := s.claims.serial + 1, rival := none
    window := none } := by
  rw [startClaim_eq first, view_congr (enqueue_views _ _), setClaims_view, modView_view, modSlot_view]

theorem startClaim_view_other {d : Chan} (other : d ≠ c) : (s.startClaim c forced).view d = s.view d := by
  cases first : s.firstFree with
  | none => rw [startClaim_none first]
  | some n =>
    rw [startClaim_eq first, view_congr (enqueue_views _ _), setClaims_view, modView_view_other _ c d _ other.symm,
      modSlot_view]

theorem startClaim_claims (first : s.firstFree = some n) : (s.startClaim c forced).claims =
    { s.claims with current := some c, serial := s.claims.serial + 1 } := by
  rw [startClaim_eq first]
  rfl

theorem startClaim_q0 (first : s.firstFree = some n) : (s.startClaim c forced).line.q0 =
    s.line.q0 ++ [⟨.claim c ⟨forced, s.weight c⟩ (s.claims.serial + 1), false⟩] := by
  rw [startClaim_eq first]
  exact enqueue_queue _ _ .zero

@[simp] theorem startClaim_watch (s : State) (c : Chan) (forced : Bool) : (s.startClaim c forced).watch = s.watch := by
  cases first : s.firstFree with
  | none => rw [startClaim_none first]
  | some n => rw [startClaim_eq first]; rfl

end Sys2Proof.Machine.State

/-! ## FORCE TAKE (R122, R194) -/

namespace Sys2Proof.Machine.State

variable {s : State} {c : Chan} {rx : Reception} {src dst : Addr} {tag code : Nat} {bs : List Byte}

theorem exec_forceTake (heard : s.found.receive rx = .deliver src dst (.command tag code bs)) (one : dst ≠ 0)
    (normal : (s.found.hear src).loader.releasePhase = none) (read : readCommand code bs = some (.forceTake c)) :
    exec (.forceTake rx) s = .next ((s.found.hear src).forceTakeCmd src tag c).review :=
  congrArg Host.Outcome.next ((console_taken s rx false _ src dst tag code bs _ (fun t => t.forceTakeCmd src tag c)
    heard read rfl).trans (congrArg State.review (commandTaken_judged (.inl one) normal)))

/-! ### The console's checks, in their order (R194) -/

theorem forceTakeCmd_unwatched (unwatched : ¬(s.chan c).watched = true) :
    s.forceTakeCmd src tag c = s.answer src tag .notWatched [] := if_pos (by simpa using unwatched)

section
variable (watched : (s.chan c).watched = true)
include watched

theorem forceTakeCmd_elsewhere (named : ¬(s.view c).holder = none) :
    s.forceTakeCmd src tag c = s.answer src tag .onAirElsewhere [] := by
  simp [forceTakeCmd, watched, Option.isSome_iff_ne_none.mpr named]

variable (clear : (s.view c).holder = none)
include clear

theorem forceTakeCmd_stale (stale : ¬(s.chan c).replica = .current) :
    s.forceTakeCmd src tag c = s.answer src tag .notCurrent [] := by
  simp [forceTakeCmd, watched, clear, stale]

variable (current : (s.chan c).replica = .current)
include current

theorem forceTakeCmd_unset (unset : ¬s.time.timeState = .set) :
    s.forceTakeCmd src tag c = s.answer src tag .timeUnset [] := by
  simp [forceTakeCmd, watched, clear, current, unset]

variable (set : s.time.timeState = .set)
include set

theorem forceTakeCmd_unready (unready : ¬s.loader.station = .ready) :
    s.forceTakeCmd src tag c = s.answer src tag .notReady [] := by
  simp [forceTakeCmd, watched, clear, current, set, unready]

theorem forceTakeCmd_passes (ready : s.loader.station = .ready) :
    s.forceTakeCmd src tag c = (s.force c).1.answer src tag (s.force c).2 [] := by
  simp [forceTakeCmd, watched, clear, current, set, ready]

end

/-! ### The engine's part (R122) -/

section
variable (clear : (s.view c).holder = none)
include clear

theorem force_noSlot (full : s.firstFree = none) (other : s.claims.current ≠ some c) : s.force c = (s, .noSlot) := by
  simp [force, clear, full, other]

theorem force_mine (mine : s.claims.current = some c) :
    s.force c = if (s.view c).contest = .claiming then s.forceResend c else (s, .busy) := by
  simp [force, clear, mine]

variable (slot : s.firstFree ≠ none)
include slot

theorem force_starts (calm : s.claims.current = none) (room : s.hasRoom .zero = true) :
    s.force c = (s.startClaim c true, .done) := by
  simp [force, forceStart, clear, slot, calm, room]

/-- With no room, or beside another channel's contest, the channel is latched, or refused where the latch is taken. -/
theorem force_waits (waits : s.claims.current = none ∧ s.hasRoom .zero = false ∨
      ∃ d, s.claims.current = some d ∧ d ≠ c) :
    s.force c = if s.claims.latch.isNone then (s.setClaims fun e => { e with latch := some c }, .done)
      else (s, .busy) := by
  obtain ⟨calm, full⟩ | ⟨d, current, other⟩ := waits
  · simp [force, forceStart, clear, slot, calm, full]
  · simp [force, clear, slot, current, other]

end

section
variable {own : Claim} (mine : (s.view c).own = some own)
include mine

theorem forceResend_full (full : (s.takeBack .zero (isClaim (s.view c).serial)).hasRoom .zero = false) :
    s.forceResend c = (s, .busy) := by
  simp only [forceResend, mine]
  exact if_neg (by simp [full])

theorem forceResend_room (room : (s.takeBack .zero (isClaim (s.view c).serial)).hasRoom .zero = true) :
    s.forceResend c = ((((s.takeBack .zero (isClaim (s.view c).serial)).modView c fun v =>
        { v with own := some { own with forced := true }, serial := s.claims.serial + 1, window := none }).setClaims
      fun e => { e with serial := s.claims.serial + 1 }).enqueue
        (.claim c { own with forced := true } (s.claims.serial + 1)), .done) := by
  simp only [forceResend, mine]
  exact if_pos room

end

end Sys2Proof.Machine.State

namespace Sys2Proof.PeersAndClaims

open Sys2Proof.Machine

/-- Settles O32: the checks in their order, the engine's answer by the contest that is current; the claim started; its
weight. -/
theorem forceTakeStartsAForcedClaim : Obligations.ForceTakeStartsAForcedClaim := by
  refine ⟨⟨?judged, fun s c forced n first => ?started⟩, fun s c => ?weighed⟩
  case judged =>
    intro rx s src dst tag c bs t heard read one normal refused watched clear current set ready passes latched
    have answers {u : State} (cmd : t.forceTakeCmd src tag c = u) : exec (.forceTake rx) s = .next u.review :=
      cmd ▸ State.exec_forceTake heard one normal read
    have engine {u : State} {code : ResultCode} : passes → t.force c = (u, code) →
        exec (.forceTake rx) s = .next (u.answer src tag code []).review := fun ⟨w, h, k, x, r⟩ forced =>
      answers ((State.forceTakeCmd_passes w h k x r).trans (by rw [forced]))
    refine ⟨fun no => answers (State.forceTakeCmd_unwatched no),
      fun w no => answers (State.forceTakeCmd_elsewhere w no),
      fun w h no => answers (State.forceTakeCmd_stale w h no),
      fun w h k no => answers (State.forceTakeCmd_unset w h k no),
      fun w h k x no => answers (State.forceTakeCmd_unready w h k x no),
      fun p full other => engine p (State.force_noSlot p.2.1 full other),
      fun p slot calm room => engine p (State.force_starts p.2.1 slot calm room),
      fun p slot waits => ⟨fun idle => ?_, fun busy => ?_⟩,
      fun p mine other => engine p ((State.force_mine p.2.1 mine).trans (if_neg other)),
      fun own p mine claiming held => ?_⟩
    · exact engine p ((State.force_waits p.2.1 slot waits).trans (if_pos (by simp [idle])))
    · exact engine p ((State.force_waits p.2.1 slot waits).trans (if_neg (by simp [busy])))
    · have resends := (State.force_mine p.2.1 mine).trans (if_pos claiming)
      exact ⟨fun full => engine p (resends.trans (State.forceResend_full held full)),
        fun room => engine p (resends.trans (State.forceResend_room held room))⟩
  case started =>
    intro u
    obtain ⟨free, lower⟩ := State.firstFree_eq_some.mp first
    have view : u.view c = _ := State.startClaim_view first
    have claims : u.claims = _ := State.startClaim_claims first
    rw [view, claims]
    exact ⟨State.startClaim_slot first, fun m other => State.startClaim_slot_other first other, lower, free, rfl, rfl,
      rfl, rfl, fun d other => State.startClaim_view_other other, rfl, rfl, ⟨_, State.startClaim_q0 first⟩,
      s.startClaim_chans c forced, s.startClaim_watch c forced⟩
  case weighed =>
    have rank := s.rank_le c
    refine ⟨⟨s.takenSlots, s.rank c, s.weight_eq c, rank, rfl, fun i => State.rank_place, State.rank_unlisted⟩,
      fun from1 to16 free => ?_⟩
    have some := State.takenSlots_lt free
    have station : (1 : Nat) ≤ s.me ∧ (16 : Nat) ≥ s.me := ⟨from1, to16⟩
    rw [s.weight_eq c]
    omega

end Sys2Proof.PeersAndClaims

/-! ## The claim window and the latch at a frame event (R118, R122, R123, R183) -/

namespace Sys2Proof.Machine.State

variable {s : State} {c : Chan}

/-! ### The TAKE of a window that has run out (R118) -/

/-- The TAKE of a channel queued with claim `own`, its contest then TAKING. -/
def takeQueued (s : State) (c : Chan) (own : Claim) (epoch : Nat) : State :=
  (s.modView c fun v => { v with contest := .taking }).enqueue (.take c own epoch)

section
variable {w : Nat} {own : Claim} (current : s.claims.current = some c) (claiming : (s.view c).contest = .claiming)
  (running : (s.view c).window = some w) (mine : (s.view c).own = some own)
include current claiming running mine

theorem offerTake_room (ended : s.cfg.tw ≤ w) (room : s.offerCancels.hasRoom .zero = true) :
    s.offerTake = s.offerCancels.takeQueued c own (min 4294967295 ((s.chan c).epoch + 1)) := by
  simp only [offerTake, current, claiming, running, mine, ended, room, if_true]
  rfl

theorem offerTake_full (ended : s.cfg.tw ≤ w) (full : s.offerCancels.hasRoom .zero = false) :
    s.offerTake = s.offerCancels := by
  simp only [offerTake, current, claiming, running, mine, ended, full, if_true, Bool.false_eq_true, if_false]

theorem offerTake_young (young : w < s.cfg.tw) : s.offerTake = s := by
  simp only [offerTake, current, claiming, running, mine, if_neg (Nat.not_le.mpr young)]

end

theorem offerTake_none (none : ∀ c, s.claims.current = some c →
    (s.view c).contest ≠ .claiming ∨ (s.view c).window = none ∨ (s.view c).own = none) : s.offerTake = s := by
  unfold offerTake
  split
  next c current =>
    dsimp only
    split
    next w own claiming running mine =>
      rcases none c current with h | h | h
      · exact absurd claiming h
      · cases h.symm.trans running
      · cases h.symm.trans mine
    next => rfl
  next => rfl

/-! ### The latch (R122, R123) -/

theorem beforeClaim_open (openFrame : s.time.frameOpen = true) : s.beforeClaim = s.offerCancels := if_pos openFrame

theorem runLatch_barred (barred : s.claims.current ≠ none ∨ s.loader.releasePhase ≠ none) : s.runLatch = s :=
  if_neg fun ⟨calm, normal⟩ => barred.elim (· calm) (· normal)

section
variable (calm : s.claims.current = none) (normal : s.loader.releasePhase = none) (latched : s.claims.latch = some c)
include calm normal latched

theorem runLatch_starts (may : s.mayClaim c = true) (room : s.beforeClaim.hasRoom .zero = true) :
    s.runLatch = (s.beforeClaim.setClaims fun e => { e with latch := none }).startClaim c true := by
  simp only [runLatch, calm, normal, latched, may, room, and_self, if_true]

theorem runLatch_full (may : s.mayClaim c = true) (full : s.beforeClaim.hasRoom .zero = false) :
    s.runLatch = s.beforeClaim := by
  simp only [runLatch, calm, normal, latched, may, full, and_self, if_true, Bool.false_eq_true, if_false]

theorem runLatch_drops (may : s.mayClaim c = false) : s.runLatch = s.setClaims fun e => { e with latch := none } := by
  simp only [runLatch, calm, normal, latched, may, and_self, if_true, Bool.false_eq_true, if_false]

end

end Sys2Proof.Machine.State

namespace Sys2Proof.PeersAndClaims

open Sys2Proof.Machine

/-- Settles O35: the window's end, whose two commands are one offer; the latch; what a claim needs. -/
theorem windowsAndLatchRunOut : Obligations.WindowsAndLatchRunOut := by
  refine ⟨?frame, fun s c => State.mayClaim_iff⟩
  intro s openFrame t
  have offers {u : State} (offered : t.offerTake = u) :
      exec .claimWindowExpiry s = .next u.review ∧ exec .takeOfferRetry s = .next u.review :=
    offered ▸ ⟨congrArg Host.Outcome.next (s.atFrame_open _ openFrame),
      congrArg Host.Outcome.next (s.atFrame_open _ openFrame)⟩
  have latch : exec .pendingForceLatchRun s = .next t.runLatch.review :=
    congrArg Host.Outcome.next (s.atFrame_open _ openFrame)
  have before : t.beforeClaim = t.offerCancels := State.beforeClaim_open (State.atStep_frameOpen openFrame)
  refine ⟨fun c w own current claiming running mine => ?window, fun none => ?_,
    fun c calm normal latched => ?latch, fun barred => ?_⟩
  case window =>
    exact ⟨fun ended room => offers (State.offerTake_room current claiming running mine ended room),
      fun ended full => offers (State.offerTake_full current claiming running mine ended full),
      fun young => offers (State.offerTake_young current claiming running mine young)⟩
  · exact offers (State.offerTake_none none)
  case latch =>
    rw [latch]
    refine ⟨fun may room => ?_, fun may full => ?_, fun may => ?_⟩
    · rw [State.runLatch_starts calm normal latched may (before ▸ room), before]; rfl
    · rw [State.runLatch_full calm normal latched may (before ▸ full), before]
    · rw [State.runLatch_drops calm normal latched may]; rfl
  · rw [latch]
    rcases barred with busy | phase | idle
    · rw [State.runLatch_barred (.inl busy)]
    · rw [State.runLatch_barred (.inr phase)]
    · rw [State.runLatch_idle idle]

end Sys2Proof.PeersAndClaims

/-! ## What leaves the peer table and the watch records alone -/

namespace Sys2Proof.Machine.State

section
variable (s : State)

/-! ### The peer table through the queues, the image requests and a STALE replica -/

@[simp] theorem putVerdict_peers (p : ProbeId) : (s.putVerdict p).peers = s.peers := by
  unfold putVerdict; dsimp only; (repeat' split) <;> rfl
@[simp] theorem offerBeacon_peers : s.offerBeacon.peers = s.peers := by
  unfold offerBeacon; (repeat' split) <;> rfl
@[simp] theorem beaconRetry_peers : s.beaconRetry.peers = s.peers := by
  unfold beaconRetry; split <;> simp
@[simp] theorem beforeVerdict_peers (k : Nat) : (s.beforeVerdict k).peers = s.peers := by
  unfold beforeVerdict; split
  · exact forProbes_keeps (P := fun t => t.peers = s.peers) (fun p t h => by split <;> simp [h]) _ (by simp)
  · rfl
@[simp] theorem putAsk_peers (c : Chan) : (s.putAsk c).peers = s.peers := by
  unfold putAsk; (repeat' split) <;> rfl
@[simp] theorem askTarget_peers (c : Chan) : (s.askTarget c).peers = s.peers := by
  rw [askTarget, putAsk_peers]
  unfold beforeAsk; split
  · exact forChans_keeps (P := fun t => t.peers = s.peers) (fun d t h => by split <;> simp [h]) _ (by simp)
  · rfl
@[simp] theorem chooseTarget_peers (c : Chan) : (s.chooseTarget c).peers = s.peers := by
  unfold chooseTarget; (repeat' split) <;> simp [modRequest]
@[simp] theorem newRound_peers (c : Chan) : (s.newRound c).peers = s.peers := by
  rw [newRound, chooseTarget_peers]; rfl
@[simp] theorem beginRequest_peers (c : Chan) : (s.beginRequest c).peers = s.peers := by
  unfold beginRequest; split <;> simp
@[simp] theorem roundAgain_peers (c : Chan) : (s.roundAgain c).peers = s.peers := by
  unfold roundAgain; split <;> simp
@[simp] theorem imageTouched_peers (c : Chan) : (s.imageTouched c).peers = s.peers := by
  unfold imageTouched; (repeat' split) <;> rfl
@[simp] theorem dropService_peers (c : Chan) : (s.dropService c).peers = s.peers := by
  unfold dropService answerNone; dsimp only; (repeat' split) <;> rfl
@[simp] theorem freeShadow_peers (c : Chan) : (s.freeShadow c).peers = s.peers := by
  unfold freeShadow; split <;> rfl
@[simp] theorem setStale_peers (c : Chan) (cause : StaleCause) : (s.setStale c cause).peers = s.peers := by
  unfold setStale; dsimp only; (repeat' split) <;> simp
@[simp] theorem makeStale_peers (c : Chan) (cause : StaleCause) : (s.makeStale c cause).peers = s.peers := by
  simp [makeStale]
@[simp] theorem epochTouched_peers (c : Chan) (epoch : Nat) : (s.epochTouched c epoch).peers = s.peers := by
  unfold epochTouched; split <;> simp
@[simp] theorem abandonLoad_peers (c : Chan) : (s.abandonLoad c).peers = s.peers := by
  unfold abandonLoad; split <;> simp

/-! ### The peer table through authority, health and the holders -/

@[simp] theorem takeChanges_peers (c : Chan) (epoch : Nat) : (s.takeChanges c epoch).peers = s.peers := by
  unfold takeChanges; dsimp only; split <;> simp [freeParked]
@[simp] theorem mainReturns_peers (c : Chan) (epoch : Option Nat) : (s.mainReturns c epoch).peers = s.peers := by
  simp [mainReturns]
@[simp] theorem authorityTest_peers (c : Chan) : (s.authorityTest c).peers = s.peers := by
  unfold authorityTest; (repeat' split) <;> simp
@[simp] theorem evaluate_peers (c : Chan) : (s.evaluate c).peers = s.peers := by
  unfold evaluate; dsimp only; (repeat' split) <;> simp [settleHealth]
@[simp] theorem setHolder_peers (c : Chan) (a : Addr) (epoch : Nat) (claim : Option Claim) :
    (s.setHolder c a epoch claim).peers = s.peers := by simp [setHolder, clearOrphan]
@[simp] theorem clearHolder_peers (c : Chan) : (s.clearHolder c).peers = s.peers := by
  rw [clearHolder, authorityTest_peers]; rfl
@[simp] theorem orphanHolder_peers (c : Chan) (a : Addr) : (s.orphanHolder c a).peers = s.peers := by
  rw [orphanHolder, authorityTest_peers]; rfl

/-! ### The peer table through the contests -/

@[simp] theorem startClaim_peers (c : Chan) (forced : Bool) : (s.startClaim c forced).peers = s.peers := by
  unfold startClaim; split <;> rfl
@[simp] theorem beforeClaim_peers : s.beforeClaim.peers = s.peers := by
  unfold beforeClaim; split
  · obtain ⟨l, offered⟩ := s.offerCancels_line; rw [offered]; rfl
  · rfl
@[simp] theorem runLatch_peers : s.runLatch.peers = s.peers := by
  unfold runLatch; dsimp only; (repeat' split) <;> simp
@[simp] theorem look_peers : s.look.peers = s.peers := by
  unfold look; dsimp only; (repeat' split) <;> simp
@[simp] theorem freeReserved_peers (c : Chan) : (s.freeReserved c).peers = s.peers := by
  unfold freeReserved; split <;> rfl
@[simp] theorem endClaim_peers (c : Chan) (after : Contest) (rival : Option Rival) :
    (s.endClaim c after rival).peers = s.peers := by
  simp only [endClaim, setClaims_peers, modView_peers, freeReserved_peers]; rfl
@[simp] theorem contestOnTake_peers (c : Chan) (accepted : Bool) (rival : Rival) :
    (s.contestOnTake c accepted rival).peers = s.peers := by
  unfold contestOnTake; (repeat' split) <;> simp

/-! ### The watch records -/

@[simp] theorem askTarget_watch (c : Chan) : (s.askTarget c).watch = s.watch := by simp [askTarget]
@[simp] theorem newRound_watch (c : Chan) : (s.newRound c).watch = s.watch := by
  simp [newRound, modRequest]
@[simp] theorem roundAgain_watch (c : Chan) : (s.roundAgain c).watch = s.watch := by
  unfold roundAgain; split <;> simp
@[simp] theorem epochTouched_watch (c : Chan) (epoch : Nat) : (s.epochTouched c epoch).watch = s.watch := by
  unfold epochTouched; split <;> simp
@[simp] theorem abandonLoad_watch (c : Chan) : (s.abandonLoad c).watch = s.watch := by
  unfold abandonLoad; split <;> simp
@[simp] theorem takeChanges_watch (c : Chan) (epoch : Nat) : (s.takeChanges c epoch).watch = s.watch := by
  unfold takeChanges; dsimp only; split <;> simp [freeParked]
@[simp] theorem mainReturns_watch (c : Chan) (epoch : Option Nat) : (s.mainReturns c epoch).watch = s.watch := by
  simp [mainReturns]
@[simp] theorem authorityTest_watch (c : Chan) : (s.authorityTest c).watch = s.watch := by
  unfold authorityTest; (repeat' split) <;> simp
@[simp] theorem beforeClaim_watch : s.beforeClaim.watch = s.watch := by
  unfold beforeClaim; split
  · obtain ⟨l, offered⟩ := s.offerCancels_line; rw [offered]; rfl
  · rfl
@[simp] theorem runLatch_watch : s.runLatch.watch = s.watch := by
  unfold runLatch; dsimp only; (repeat' split) <;> simp
@[simp] theorem look_watch : s.look.watch = s.watch := by
  unfold look; dsimp only; (repeat' split) <;> simp
@[simp] theorem freeReserved_watch (c : Chan) : (s.freeReserved c).watch = s.watch := by
  unfold freeReserved; split <;> rfl
@[simp] theorem endClaim_watch (c : Chan) (after : Contest) (rival : Option Rival) :
    (s.endClaim c after rival).watch = s.watch := by
  simp only [endClaim, setClaims_watch, modView_watch, freeReserved_watch, takeBack_watch]
@[simp] theorem contestOnTake_watch (c : Chan) (accepted : Bool) (rival : Rival) :
    (s.contestOnTake c accepted rival).watch = s.watch := by
  unfold contestOnTake; (repeat' split) <;> simp

end

/-! ### Orphan flags through the judgements of health -/

variable {s : State} {c d : Chan}

/-- A channel's orphan flag, when it has a watch record. -/
def orphanFlag (s : State) (d : Chan) : Option Bool := (s.watchRec d).map WatchRec.orphan

theorem orphanFlag_congr {t : State} (h : t.watch = s.watch) (d : Chan) : t.orphanFlag d = s.orphanFlag d := by
  rw [orphanFlag, watchRec_congr h, orphanFlag]

/-- A flag that has been put to `b` stands at `b` in the record, when there is one. -/
theorem orphan_of_orphanFlag {u : State} {b : Bool} (flag : u.orphanFlag c = (s.orphanFlag c).map fun _ => b)
    {w : WatchRec} (rec : u.watchRec c = some w) : w.orphan = b := by
  rw [orphanFlag, rec, Option.map_some] at flag
  obtain ⟨_, _, put⟩ := Option.map_eq_some_iff.mp flag.symm
  exact put.symm

theorem modWatch_orphanFlag (f : WatchRec → WatchRec) (keeps : ∀ w, (f w).orphan = w.orphan) :
    (s.modWatch c f).orphanFlag d = s.orphanFlag d := by
  by_cases other : d = c
  · subst other
    rw [orphanFlag, modWatch_watchRec, Option.map_map, orphanFlag]
    exact congrArg (fun g => (s.watchRec d).map g) (funext keeps)
  · rw [orphanFlag, modWatch_watchRec_other f other, orphanFlag]

@[simp] theorem settleHealth_orphanFlag (start : Health) : (s.settleHealth c start).orphanFlag d = s.orphanFlag d :=
  modWatch_orphanFlag _ fun _ => rfl

@[simp] theorem restartHealth_orphanFlag : (s.restartHealth c).orphanFlag d = s.orphanFlag d :=
  (settleHealth_orphanFlag .nominal).trans (modWatch_orphanFlag _ fun _ => rfl)

end Sys2Proof.Machine.State

/-! ## Holders cleared and orphans (R79, R83, R105, R109) -/

namespace Sys2Proof.Machine.State

variable {s : State} {c d : Chan} {a : Addr}

theorem clearOrphan_view : (s.clearOrphan c).view c = { s.view c with orphanSource := none } := by
  rw [clearOrphan, modWatch_view, modView_view]

theorem clearOrphan_view_other (other : d ≠ c) : (s.clearOrphan c).view d = s.view d := by
  rw [clearOrphan, modWatch_view, modView_view_other _ _ _ _ other.symm]

theorem clearOrphan_watchRec_other (other : d ≠ c) : (s.clearOrphan c).watchRec d = s.watchRec d :=
  modWatch_watchRec_other _ other

theorem clearOrphan_orphanFlag : (s.clearOrphan c).orphanFlag c = (s.orphanFlag c).map fun _ => false := by
  rw [orphanFlag, clearOrphan, modWatch_watchRec, modView_watchRec, Option.map_map, orphanFlag, Option.map_map]
  rfl

theorem dropHolder_view : (s.dropHolder c).view c = { s.view c with
    holder := none, holderClaim := none
    contest := if (s.view c).contest = .deferred ∧ (s.view c).rival = none then .idle else (s.view c).contest } := by
  rw [dropHolder, modView_view]

theorem dropHolder_view_other (other : d ≠ c) : (s.dropHolder c).view d = s.view d :=
  modView_view_other _ _ _ _ other.symm

theorem clearHolder_view : (s.clearHolder c).view c = { (s.dropHolder c).view c with orphanSource := none } := by
  rw [clearHolder, view_congr (authorityTest_views _ c), view_congr (restartHealth_views _ c), clearOrphan_view]

theorem clearHolder_view_other (other : d ≠ c) : (s.clearHolder c).view d = s.view d := by
  rw [clearHolder, view_congr (authorityTest_views _ c), view_congr (restartHealth_views _ c),
    clearOrphan_view_other other, dropHolder_view_other other]

theorem orphanHolder_view :
    (s.orphanHolder c a).view c = { (s.dropHolder c).view c with orphanSource := some a } := by
  rw [orphanHolder, view_congr (authorityTest_views _ c), view_congr (restartHealth_views _ c), modWatch_view,
    modView_view]

theorem orphanHolder_view_other (other : d ≠ c) : (s.orphanHolder c a).view d = s.view d := by
  rw [orphanHolder, view_congr (authorityTest_views _ c), view_congr (restartHealth_views _ c), modWatch_view,
    modView_view_other _ _ _ _ other.symm, dropHolder_view_other other]

theorem orphanHolder_orphanFlag : (s.orphanHolder c a).orphanFlag c = (s.orphanFlag c).map fun _ => true := by
  rw [orphanHolder, orphanFlag_congr (authorityTest_watch _ c), restartHealth_orphanFlag, orphanFlag, modWatch_watchRec,
    Option.map_map, orphanFlag, Option.map_map]
  rfl

theorem orphanHolder_orphanFlag_other (other : d ≠ c) : (s.orphanHolder c a).orphanFlag d = s.orphanFlag d := by
  rw [orphanHolder, orphanFlag_congr (authorityTest_watch _ c), restartHealth_orphanFlag, orphanFlag,
    modWatch_watchRec_other _ other]
  rfl

/-! ### A silent peer (R105) -/

theorem peerIdx_isSome (low : 1 ≤ a) (high : a ≤ 30) : (peerIdx a).isSome = true := by simp [peerIdx, low, high]

theorem peerGone_kept (kept : a < 1 ∨ 16 < a ∨ (s.peer a).present = false ∨ (s.peer a).count < 36) :
    s.peerGone a = s := by
  refine if_neg fun ⟨low, high, here, silent⟩ => ?_
  rcases kept with h | h | h | h
  · exact absurd low (Nat.not_le.mpr h)
  · exact absurd high (Nat.not_le.mpr h)
  · exact Bool.false_ne_true (h.symm.trans here)
  · exact absurd silent (Nat.not_le.mpr h)

/-- One channel's turn as a peer falls silent: where it is the named holder, the channel becomes an orphan. -/
def orphanIfHeld (a : Addr) (c : Chan) (s : State) : State :=
  if (s.view c).holder = some a then s.orphanHolder c a else s

theorem orphanIfHeld_others (a : Addr) (c d : Chan) (t : State) (other : d ≠ c) :
    ((orphanIfHeld a d t).view c, (orphanIfHeld a d t).orphanFlag c) = (t.view c, t.orphanFlag c) := by
  unfold orphanIfHeld
  split
  · rw [orphanHolder_view_other other.symm, orphanHolder_orphanFlag_other other.symm]
  · rfl

@[simp] theorem orphanIfHeld_peers (a : Addr) (c : Chan) (s : State) : (orphanIfHeld a c s).peers = s.peers := by
  unfold orphanIfHeld; split <;> simp

section
variable (low : 1 ≤ a) (high : a ≤ 16) (here : (s.peer a).present = true) (silent : 36 ≤ (s.peer a).count)
include low high here silent

theorem peerGone_silent : s.peerGone a =
    (forChans (orphanIfHeld a) (s.modPeer a fun p => { p with present := false })).modPeer a fun p =>
      { p with onAir := [], current := 0, contest := 0 } := if_pos ⟨low, high, here, silent⟩

theorem peerGone_peer : (s.peerGone a).peer a =
    { s.peer a with present := false, onAir := [], current := 0, contest := 0 } := by
  have known : a = a ∧ (peerIdx a).isSome = true := ⟨rfl, peerIdx_isSome low (high.trans (by decide))⟩
  have kept := forChans_keeps (P := fun t => t.peers = (s.modPeer a fun p => { p with present := false }).peers)
    (fun c t same => (orphanIfHeld_peers a c t).trans same) _ rfl
  rw [peerGone_silent low high here silent, modPeer_peer, if_pos known, peer_congr kept, modPeer_peer, if_pos known]

theorem peerGone_view_held (held : (s.view c).holder = some a) :
    (s.peerGone a).view c = { (s.dropHolder c).view c with orphanSource := some a } ∧
      (s.peerGone a).orphanFlag c = (s.orphanFlag c).map fun _ => true := by
  obtain ⟨t, reached, fold⟩ := forChans_at (fun t => (t.view c, t.orphanFlag c)) c
    (orphanIfHeld_others a c) (s.modPeer a fun p => { p with present := false })
  obtain ⟨viewed, flagged⟩ := Prod.mk.inj reached
  obtain ⟨view, flag⟩ := Prod.mk.inj fold
  have turn : orphanIfHeld a c t = t.orphanHolder c a := if_pos (viewed ▸ held)
  rw [turn] at view flag
  rw [peerGone_silent low high here silent, modPeer_view, orphanFlag, modPeer_watchRec]
  refine ⟨view.trans ?_, flag.trans ?_⟩
  · rw [orphanHolder_view, dropHolder_view, viewed, dropHolder_view]; rfl
  · rw [orphanHolder_orphanFlag, flagged]; rfl

theorem peerGone_view_other (free : (s.view c).holder ≠ some a) : (s.peerGone a).view c = s.view c := by
  obtain ⟨t, reached, fold⟩ := forChans_at (fun t => (t.view c, t.orphanFlag c)) c
    (orphanIfHeld_others a c) (s.modPeer a fun p => { p with present := false })
  obtain ⟨viewed, -⟩ := Prod.mk.inj reached
  obtain ⟨view, -⟩ := Prod.mk.inj fold
  have turn : orphanIfHeld a c t = t := if_neg (viewed ▸ free)
  rw [turn] at view
  rw [peerGone_silent low high here silent, modPeer_view]
  exact view.trans viewed

end

/-! ### A station heard (R102, R105) -/

/-- One channel's turn as an absent station is heard: an orphan it is the source of is one no longer. -/
def adoptIfSource (a : Addr) (c : Chan) (s : State) : State :=
  if (s.view c).orphanSource = some a then (s.clearOrphan c).authorityTest c else s

/-- A station's record with the station heard now. -/
def heardNow (s : State) (a : Addr) : State :=
  s.modPeer a fun p => { p with heard := true, count := 0, present := true }

theorem hear_present (here : (s.peer a).present = true) : s.hear a = s.heardNow a := if_pos here

theorem hear_absent (away : (s.peer a).present = false) : s.hear a = forChans (adoptIfSource a) (s.heardNow a) :=
  if_neg (by simp [away])

theorem adoptIfSource_others (a : Addr) (c d : Chan) (t : State) (other : d ≠ c) :
    ((adoptIfSource a d t).view c, (adoptIfSource a d t).watchRec c) = (t.view c, t.watchRec c) := by
  unfold adoptIfSource
  split
  · rw [view_congr (authorityTest_views _ d), clearOrphan_view_other other.symm,
      watchRec_congr (authorityTest_watch _ d),
      clearOrphan_watchRec_other other.symm]
  · rfl

@[simp] theorem adoptIfSource_peers (a : Addr) (c : Chan) (s : State) : (adoptIfSource a c s).peers = s.peers := by
  unfold adoptIfSource; split <;> simp [clearOrphan]

theorem hear_peers (s : State) (a : Addr) : (s.hear a).peers = (s.heardNow a).peers := by
  cases here : (s.peer a).present with
  | true => rw [hear_present here]
  | false =>
    rw [hear_absent here]
    exact forChans_keeps (P := fun t => t.peers = (s.heardNow a).peers)
      (fun c t same => (adoptIfSource_peers a c t).trans same) _ rfl

theorem hear_peer (low : 1 ≤ a) (high : a ≤ 30) :
    (s.hear a).peer a = { s.peer a with heard := true, count := 0, present := true } := by
  rw [peer_congr (s.hear_peers a), heardNow, modPeer_peer, if_pos ⟨rfl, peerIdx_isSome low high⟩]

theorem hear_peer_other {b : Addr} (other : b ≠ a) : (s.hear a).peer b = s.peer b := by
  rw [peer_congr (s.hear_peers a), heardNow, modPeer_peer, if_neg fun h => other h.1.symm]

theorem hear_source (away : (s.peer a).present = false) (source : (s.view c).orphanSource = some a) :
    (s.hear a).view c = { s.view c with orphanSource := none } ∧
      (s.hear a).orphanFlag c = (s.orphanFlag c).map fun _ => false := by
  obtain ⟨t, reached, fold⟩ := forChans_at (fun t => (t.view c, t.watchRec c)) c (adoptIfSource_others a c)
      (s.heardNow a)
  obtain ⟨viewed, recorded⟩ := Prod.mk.inj reached
  obtain ⟨view, rec⟩ := Prod.mk.inj fold
  have turn : adoptIfSource a c t = (t.clearOrphan c).authorityTest c := if_pos (viewed ▸ source)
  rw [turn] at view rec
  rw [hear_absent away]
  refine ⟨view.trans ?_, (congrArg (Option.map WatchRec.orphan) rec).trans ?_⟩
  · rw [view_congr (authorityTest_views _ c), clearOrphan_view, viewed]; rfl
  · rw [watchRec_congr (authorityTest_watch _ c)]
    refine clearOrphan_orphanFlag.trans ?_
    rw [orphanFlag, recorded]; rfl

theorem hear_other (other : (s.peer a).present = true ∨ (s.view c).orphanSource ≠ some a) :
    (s.hear a).view c = s.view c ∧ (s.hear a).watchRec c = s.watchRec c := by
  cases here : (s.peer a).present with
  | true => rw [hear_present here]; exact ⟨rfl, rfl⟩
  | false =>
    obtain ⟨t, reached, fold⟩ := forChans_at (fun t => (t.view c, t.watchRec c)) c (adoptIfSource_others a c)
      (s.heardNow a)
    obtain ⟨viewed, recorded⟩ := Prod.mk.inj reached
    have elsewhere : (s.view c).orphanSource ≠ some a := other.resolve_left (by simp [here])
    have turn : adoptIfSource a c t = t := if_neg (viewed ▸ elsewhere)
    rw [turn] at fold
    rw [hear_absent here]
    exact Prod.mk.inj (fold.trans reached)

end Sys2Proof.Machine.State

/-! ## Exclusions and ineligibility (R121, R125) -/

namespace Sys2Proof.Machine

/-- An exclusion stands before the first whose until position is later, the order of the others kept. -/
theorem insertExclusion_eq (r : Rate) (x : Addr × Pos) (l : List (Addr × Pos)) : ∃ as bs, as ++ bs = l ∧
    insertExclusion r x l = as ++ x :: bs ∧ (∀ y ∈ as, Pos.before r x.2 y.2 = false) ∧
    ∀ y, bs.head? = some y → Pos.before r x.2 y.2 = true := by
  induction l with
  | nil => exact ⟨[], [], rfl, rfl, by simp, by simp⟩
  | cons y l ih =>
    by_cases earlier : Pos.before r x.2 y.2 = true
    · refine ⟨[], y :: l, rfl, if_pos earlier, by simp, ?_⟩
      rintro _ ⟨⟩
      exact earlier
    · obtain ⟨as, bs, split, inserted, later, first⟩ := ih
      exact ⟨y :: as, bs, congrArg (y :: ·) split, (if_neg earlier).trans (congrArg (y :: ·) inserted),
        List.forall_mem_cons.mpr ⟨Bool.eq_false_iff.mpr earlier, later⟩, first⟩

namespace State

variable {s : State} {c : Chan}

theorem deadWinner_old {rv : Rival} (deferred : (s.view c).contest = .deferred) (clear : (s.view c).holder = none)
    (rival : (s.view c).rival = some rv)
    (old : ((s.cfg.tw + 12 : Nat) : Int) ≤ Pos.diff s.rate rv.heardAt s.now) :
    s.deadWinner c = (s.modView c fun v => { v with
      exclusions := addExclusion s.rate v.exclusions (rv.addr, s.now.add s.rate 250), rival := none
      contest := .idle }).look := by
  simp only [deadWinner, deferred, clear, rival]
  exact if_pos old

theorem deadWinner_young {rv : Rival} (deferred : (s.view c).contest = .deferred) (clear : (s.view c).holder = none)
    (rival : (s.view c).rival = some rv)
    (young : Pos.diff s.rate rv.heardAt s.now < ((s.cfg.tw + 12 : Nat) : Int)) : s.deadWinner c = s := by
  simp only [deadWinner, deferred, clear, rival]
  exact if_neg (Int.not_le.mpr young)

theorem deadWinner_none
    (none : (s.view c).contest ≠ .deferred ∨ (s.view c).holder ≠ none ∨ (s.view c).rival = none) :
    s.deadWinner c = s := by
  unfold deadWinner
  dsimp only
  split
  next rv deferred clear rival =>
    rcases none with h | h | h
    · exact absurd deferred h
    · exact absurd clear h
    · cases h.symm.trans rival
  next => rfl

theorem reached_iff (p : Pos) : s.reached p = true ↔ 0 ≤ Pos.diff s.rate p s.now := Pos.atOrPast_iff _ _ _

/-- The exclusions that stay are those whose until position lies ahead of now. -/
theorem expireExclusions_eq : s.expireExclusions c = s.modView c fun v =>
    { v with exclusions := v.exclusions.filter fun x => decide (Pos.diff s.rate x.2 s.now < 0) } := by
  have ahead (x : Addr × Pos) : (!s.reached x.2) = decide (Pos.diff s.rate x.2 s.now < 0) := by
    rw [Bool.eq_iff_iff, Bool.not_eq_true', ← Bool.not_eq_true, reached_iff, Int.not_le, decide_eq_true_eq]
  simp only [expireExclusions, ahead]

theorem expireIneligible_reached {p : Pos} (barred : (s.view c).ineligible = some p)
    (past : 0 ≤ Pos.diff s.rate p s.now) :
    s.expireIneligible c = s.modView c fun v => { v with ineligible := none } :=
  modView_congr (by simp only [barred]; exact if_pos ((reached_iff p).mpr past))

theorem expireIneligible_kept (ahead : ∀ p, (s.view c).ineligible = some p → Pos.diff s.rate p s.now < 0) :
    s.expireIneligible c = s := by
  refine modView_self ?_
  cases barred : (s.view c).ineligible with
  | none => rfl
  | some p => exact if_neg fun past => Int.not_le.mpr (ahead p barred) ((reached_iff p).mp past)

end State

end Sys2Proof.Machine

namespace Sys2Proof.PeersAndClaims

open Sys2Proof.Machine

/-- Settles O30: the peer that falls silent; the exclusions and the ineligibility at the open frame event; the list of
exclusions; the station heard again. -/
theorem silentPeersAndExclusionsRunOut : Obligations.SilentPeersAndExclusionsRunOut := by
  refine ⟨fun a s openFrame => ?silent, fun c s openFrame => ?expiry, fun r xs x => insertExclusion_eq r x _,
    fun s a low high => ?heard⟩
  case silent =>
    intro t
    have gone : exec (.peerSilent a) s = .next (t.peerGone a).review :=
      congrArg Host.Outcome.next (s.atFrame_open _ openFrame)
    refine ⟨fun kept => ?_, fun low high here silent => ⟨gone, ?_⟩⟩
    · rw [gone, State.peerGone_kept kept]
    · intro u
      have peer : u.peer a = _ := State.peerGone_peer low high here silent
      rw [peer]
      refine ⟨rfl, rfl, rfl, rfl, fun c => ⟨fun held => ?_, State.peerGone_view_other low high here silent⟩⟩
      obtain ⟨view, flag⟩ := State.peerGone_view_held low high here silent held
      rw [show u.view c = _ from view, State.dropHolder_view]
      exact ⟨rfl, rfl, rfl, rfl, fun w => State.orphan_of_orphanFlag flag⟩
  case expiry =>
    intro t v
    have dead : exec (.deadWinnerExclusion c) s = .next (t.deadWinner c).review :=
      congrArg Host.Outcome.next (s.atFrame_open _ openFrame)
    have ineligible : exec (.ineligibleExpiry c) s = .next (t.expireIneligible c).review :=
      congrArg Host.Outcome.next (s.atFrame_open _ openFrame)
    have excluded : exec (.exclusionExpiry c) s = .next (t.expireExclusions c).review :=
      congrArg Host.Outcome.next (s.atFrame_open _ openFrame)
    rw [dead, ineligible, excluded]
    refine ⟨fun rv deferred none rival => ⟨fun old => ?_, fun young => ?_⟩, fun none => ?_, ?_,
      fun p barred past => ?_, fun ahead => ?_⟩
    · rw [State.deadWinner_old deferred none rival old]
    · rw [State.deadWinner_young deferred none rival young]
    · rw [State.deadWinner_none none]
    · rw [State.expireExclusions_eq]
    · rw [State.expireIneligible_reached barred past]
    · rw [State.expireIneligible_kept ahead]
  case heard =>
    intro u t
    refine ⟨State.hear_peer low high, fun b => State.hear_peer_other, State.hear_present, State.hear_absent,
      fun c away source => ?_, fun c => State.hear_other⟩
    obtain ⟨view, flag⟩ := State.hear_source away source
    exact ⟨view, fun w => State.orphan_of_orphanFlag flag⟩

end Sys2Proof.PeersAndClaims

/-! ## A holder set (R50, R79, R104, R108) -/

namespace Sys2Proof.Machine.State

variable {s t : State} {c d : Chan} {a : Addr} {e : Nat} {k : Option Claim}

/-! ### Authority does not return while a holder is named (R81) -/

theorem authorityTest_held (held : (s.view c).holder ≠ none) : s.authorityTest c = s := by
  cases rec : s.watchRec c with
  | none => simp only [authorityTest, rec]
  | some w => exact authorityTest_kept rec fun ⟨_, _, clear, _⟩ => held clear

/-- The evaluation of a held channel settles its health and nothing else. -/
theorem evaluate_held (held : (s.view c).holder ≠ none) :
    s.evaluate c = s ∨ ∃ start, s.evaluate c = s.settleHealth c start := by
  cases rec : s.watchRec c with
  | none => exact .inl (by simp only [evaluate, rec])
  | some w =>
    refine .inr ⟨w.health, ?_⟩
    rw [evaluate_eq rec, authorityTest_held (by rwa [view_congr (settleHealth_views s c _)])]
    exact ite_self _

theorem evaluate_chans_held (held : (s.view c).holder ≠ none) : (s.evaluate c).chans = s.chans := by
  obtain same | ⟨start, settled⟩ := evaluate_held held
  · rw [same]
  · rw [settled, settleHealth_chans]

theorem evaluate_orphanFlag_held (held : (s.view c).holder ≠ none) : (s.evaluate c).orphanFlag d = s.orphanFlag d := by
  obtain same | ⟨start, settled⟩ := evaluate_held held
  · rw [same]
  · rw [settled, settleHealth_orphanFlag]

/-! ### What a new epoch changes in the channel's record (R50, R57) -/

theorem abandonLoad_closed (closed : (s.chan c).shadow = none) : s.abandonLoad c = s := by
  simp only [abandonLoad, closed]

theorem abandonLoad_chan (s : State) (c : Chan) : (s.abandonLoad c).chan c = { s.chan c with
    shadow := none, replica := ((s.abandonLoad c).chan c).replica, cause := ((s.abandonLoad c).chan c).cause } := by
  cases loading : (s.chan c).shadow with
  | none => rw [abandonLoad_closed loading, ← loading]
  | some sh => simp only [abandonLoad, loading, modChan_chan, freeShadow_chan]

/-- The channel site-held at the new epoch and sequence 0, its older parked edits freed, an open load still standing. -/
def underEpoch (s : State) (c : Chan) (e : Nat) : State :=
  ((s.epochTouched c e).modChan c fun ch => { ch with authority := .site, epoch := e, nextSeq := 0 }).freeParked c
    fun x => x.epoch < e

theorem underEpoch_chan : (s.underEpoch c e).chan c =
    { s.chan c with authority := .site, epoch := e, nextSeq := 0 } := by
  rw [underEpoch, chan_congr (freeParked_chans _ c _), modChan_chan, chan_congr (epochTouched_chans s c e)]

theorem bare_takeChanges (s : State) (c : Chan) (e : Nat) :
    (s.takeChanges c e).bare c = ((s.underEpoch c e).abandonLoad c).bare c := by
  unfold takeChanges
  dsimp only
  split
  · exact bare_newRound _ c c
  · rfl

theorem takeChanges_chan (s : State) (c : Chan) (e : Nat) : ((s.takeChanges c e).chan c).authority = .site ∧
    ((s.takeChanges c e).chan c).epoch = e ∧ ((s.takeChanges c e).chan c).nextSeq = 0 ∧
    ((s.takeChanges c e).chan c).watched = (s.chan c).watched := by
  rw [chan_of_bare (bare_takeChanges s c e), abandonLoad_chan, underEpoch_chan]
  exact ⟨rfl, rfl, rfl, rfl⟩

/-- With no load open the replica stands. -/
theorem takeChanges_replica (closed : (s.chan c).shadow = none) :
    ((s.takeChanges c e).chan c).replica = (s.chan c).replica := by
  rw [chan_of_bare (bare_takeChanges s c e), abandonLoad_closed (by rw [underEpoch_chan]; exact closed),
      underEpoch_chan]

/-! ### The channel held (R83, R104, R108) -/

/-- `t` names station `a` as the holder of `c` under epoch `e` with claim `k`, the channel site-held at that epoch, no
orphan, and its contest and the slots as in `s`. -/
structure HeldBy (s t : State) (c : Chan) (a : Addr) (e : Nat) (k : Option Claim) : Prop where
  view : t.view c = { s.view c with holder := some a, holderEpoch := e, holderClaim := k, orphanSource := none }
  others : ∀ d, d ≠ c → t.view d = s.view d
  orphan : t.orphanFlag c = (s.orphanFlag c).map fun _ => false
  authority : (t.chan c).authority = .site
  epoch : (t.chan c).epoch = e
  nextSeq : (t.chan c).nextSeq = 0
  watched : (t.chan c).watched = (s.chan c).watched
  slots : t.slots = s.slots

theorem HeldBy.held (h : HeldBy s t c a e k) : (t.view c).holder ≠ none := by rw [h.view]; exact Option.some_ne_none a

/-- The state before the evaluation: the holder's fields, the orphan's end and the new epoch's changes. -/
def holderSet (s : State) (c : Chan) (a : Addr) (e : Nat) (k : Option Claim) : State :=
  ((s.modView c fun v => { v with holder := some a, holderEpoch := e, holderClaim := k }).clearOrphan c).takeChanges c e

theorem setHolder_eq : s.setHolder c a e k = (s.holderSet c a e k).evaluate c := rfl

theorem holderSet_view : (s.holderSet c a e k).view c =
    { s.view c with holder := some a, holderEpoch := e, holderClaim := k, orphanSource := none } := by
  rw [holderSet, view_congr (takeChanges_views _ c e), clearOrphan_view, modView_view]

theorem holderSet_held : ((s.holderSet c a e k).view c).holder ≠ none := by
  rw [holderSet_view]; exact Option.some_ne_none a

theorem setHolder_chan : (s.setHolder c a e k).chan c = (s.holderSet c a e k).chan c :=
  chan_congr (evaluate_chans_held holderSet_held) c

theorem heldBy_setHolder (s : State) (c : Chan) (a : Addr) (e : Nat) (k : Option Claim) :
    HeldBy s (s.setHolder c a e k) c a e k := by
  obtain ⟨authority, epoch, nextSeq, watched⟩ := takeChanges_chan
    ((s.modView c fun v => { v with holder := some a, holderEpoch := e, holderClaim := k }).clearOrphan c) c e
  rw [← holderSet, ← setHolder_chan] at authority epoch nextSeq watched
  refine ⟨?_, fun d other => ?_, ?_, authority, epoch, nextSeq, watched, setHolder_slots s c a e k⟩
  · rw [setHolder_eq, view_congr (evaluate_views _ c), holderSet_view]
  · rw [setHolder_eq, view_congr (evaluate_views _ c), holderSet, view_congr (takeChanges_views _ c e),
      clearOrphan_view_other other, modView_view_other _ _ _ _ other.symm]
  · rw [setHolder_eq, evaluate_orphanFlag_held holderSet_held, holderSet, orphanFlag_congr (takeChanges_watch _ c e),
      clearOrphan_orphanFlag]
    rfl

theorem setHolder_replica (closed : (s.chan c).shadow = none) :
    ((s.setHolder c a e k).chan c).replica = (s.chan c).replica := by
  rw [setHolder_chan, holderSet, takeChanges_replica (by exact closed)]
  rfl

theorem makeStale_authority (cause : StaleCause) : ((s.makeStale c cause).chan c).authority = (s.chan c).authority ∧
    ((s.makeStale c cause).chan c).watched = (s.chan c).watched := by
  rw [chan_of_bare (bare_makeStale s c c cause)]
  by_cases empty : (s.chan c).replica = .empty
  · rw [setStale_empty s cause empty]; exact ⟨rfl, rfl⟩
  · rw [setStale_chan s cause empty]; exact ⟨rfl, rfl⟩

theorem HeldBy.makeStale (h : HeldBy s t c a e k) (cause : StaleCause) : HeldBy s (t.makeStale c cause) c a e k := by
  obtain ⟨nextSeq, epoch, -⟩ := makeStale_kept t c cause
  obtain ⟨authority, watched⟩ := makeStale_authority (s := t) (c := c) cause
  exact ⟨(view_congr (makeStale_views t c cause) c).trans h.view,
    fun d other => (view_congr (makeStale_views t c cause) d).trans (h.others d other),
    (orphanFlag_congr (makeStale_watch t c cause) c).trans h.orphan, authority.trans h.authority, epoch.trans h.epoch,
    nextSeq.trans h.nextSeq, watched.trans h.watched, (makeStale_slots t c cause).trans h.slots⟩

/-! ### A TAKE accepted (R108) -/

theorem acceptTake_diverged (same : e = (s.chan c).epoch) (edited : (s.chan c).nextSeq ≠ 0) :
    s.acceptTake c a e k = (s.setHolder c a e k).makeStale c .diverged := if_pos (by simp [same, edited])

theorem acceptTake_sound (sound : e ≠ (s.chan c).epoch ∨ (s.chan c).nextSeq = 0) :
    s.acceptTake c a e k = s.setHolder c a e k := by
  refine if_neg ?_
  rw [Bool.and_eq_true, decide_eq_true_eq, decide_eq_true_eq]
  exact fun ⟨same, edited⟩ => sound.elim (· same) edited

theorem heldBy_acceptTake (s : State) (c : Chan) (a : Addr) (e : Nat) (k : Option Claim) :
    HeldBy s (s.acceptTake c a e k) c a e k := by
  unfold acceptTake
  dsimp only
  split
  · exact (heldBy_setHolder s c a e k).makeStale .diverged
  · exact heldBy_setHolder s c a e k

end Sys2Proof.Machine.State

/-! ## The contest at a TAKE (R117) -/

namespace Sys2Proof.Machine.State

variable {s : State} {c d : Chan} {rv : Rival}

/-! ### The engine's look leaves a held channel's view (R112, R113) -/

theorem runLatch_view (held : (s.view c).holder ≠ none) : s.runLatch.view c = s.view c := by
  by_cases barred : s.claims.current ≠ none ∨ s.loader.releasePhase ≠ none
  · rw [runLatch_barred barred]
  obtain ⟨calm, normal⟩ := not_or.mp barred
  rw [not_not] at calm normal
  cases latched : s.claims.latch with
  | none => rw [runLatch_idle latched]
  | some d =>
    cases may : s.mayClaim d with
    | false => rw [runLatch_drops calm normal latched may]; rfl
    | true =>
      obtain ⟨-, -, -, -, clear, -⟩ := mayClaim_iff.mp may
      have other : c ≠ d := fun same => held (same ▸ clear)
      cases room : s.beforeClaim.hasRoom .zero with
      | false => rw [runLatch_full calm normal latched may room, view_congr (beforeClaim_views s)]
      | true =>
        rw [runLatch_starts calm normal latched may room, startClaim_view_other other, setClaims_view,
          view_congr (beforeClaim_views s)]

theorem look_view (held : (s.view c).holder ≠ none) : s.look.view c = s.view c := by
  have latch := runLatch_view held
  unfold look
  dsimp only
  split
  · split
    next d best =>
      obtain ⟨auto, -⟩ := bestCandidate_eq_some.mp best
      obtain ⟨-, -, -, -, clear, -⟩ := mayClaim_iff.mp (autoClaim_iff.mp auto).1
      have other : c ≠ d := fun same => held ((congrArg View.holder latch).symm.trans (same ▸ clear))
      split
      · rw [startClaim_view_other other, view_congr (beforeClaim_views _), latch]
      · rw [view_congr (beforeClaim_views _), latch]
    next => exact latch
  · exact latch

/-! ### A claim ended (R116, R117, R120) -/

/-- Slot `n` is the first that is reserved for the channel. -/
def ReservedFor (s : State) (c : Chan) (n : SlotId) : Prop :=
  ((s.slot n).state = .reserved ∧ (s.slot n).chan = some c) ∧
    ∀ m, m < n → ¬((s.slot m).state = .reserved ∧ (s.slot m).chan = some c)

theorem ReservedFor.congr {t : State} {n : SlotId} (h : s.ReservedFor c n) (slots : t.slots = s.slots) :
    t.ReservedFor c n := by
  simpa only [ReservedFor, slot_congr slots] using h

theorem ReservedFor.find {n : SlotId} (h : s.ReservedFor c n) : (List.finRange 8).find?
    (fun n => decide ((s.slot n).state = .reserved) && decide ((s.slot n).chan = some c)) = some n := by
  refine find_slot_eq_some.mpr ⟨?_, fun m lower => Bool.eq_false_iff.mpr ?_⟩
  · rw [Bool.and_eq_true, decide_eq_true_eq, decide_eq_true_eq]; exact h.1
  · rw [ne_eq, Bool.and_eq_true, decide_eq_true_eq, decide_eq_true_eq]; exact h.2 m lower

theorem freeReserved_eq {n : SlotId} (h : s.ReservedFor c n) :
    s.freeReserved c = s.modSlot n fun x => { x with state := .free, chan := none } := by
  simp only [freeReserved, h.find]

section
variable (after : Contest) (rival : Option Rival)

theorem endClaim_view : (s.endClaim c after rival).view c =
    { s.view c with contest := after, own := none, window := none, rival := rival } := by
  rw [endClaim, setClaims_view, modView_view, view_congr (freeReserved_views _ c), view_congr (takeBack_views s _ _)]

theorem endClaim_view_other (other : d ≠ c) : (s.endClaim c after rival).view d = s.view d := by
  rw [endClaim, setClaims_view, modView_view_other _ _ _ _ other.symm, view_congr (freeReserved_views _ c),
    view_congr (takeBack_views s _ _)]

theorem endClaim_q0 : (s.endClaim c after rival).line.q0 =
    s.line.q0.filter (fun e => e.begun || !isClaim (s.view c).serial e.msg) := by
  have line (t : State) : (t.freeReserved c).line = t.line := by unfold freeReserved; split <;> rfl
  rw [endClaim, setClaims_line, modView_line, line]
  exact takeBack_queue s .zero .zero _

theorem endClaim_slot {n : SlotId} (h : s.ReservedFor c n) :
    (s.endClaim c after rival).slot n = { s.slot n with state := .free, chan := none } := by
  rw [endClaim, setClaims_slot, modView_slot, freeReserved_eq (h.congr (takeBack_slots s _ _)), modSlot_slot,
    slot_congr (takeBack_slots s _ _)]

end

/-! ### The contest by its state (R117) -/

theorem contestOnTake_unwatched (unwatched : (s.chan c).watched = false) (b : Bool) : s.contestOnTake c b rv = s :=
  if_neg (by simp [unwatched])

theorem contestOnTake_taken (taken : (s.view c).contest = .taking ∨ (s.view c).contest = .taken) (b : Bool) :
    s.contestOnTake c b rv = s := by
  rcases taken with taken | taken <;> simp [contestOnTake, taken]

theorem contestOnTake_refused (waits : (s.view c).contest = .idle ∨ (s.view c).contest = .deferred) :
    s.contestOnTake c false rv = s := by
  rcases waits with idle | deferred
  · simp [contestOnTake, idle]
  · simp [contestOnTake, deferred]

section
variable (watched : (s.chan c).watched = true)
include watched

theorem contestOnTake_waits (waits : (s.view c).contest = .idle ∨ (s.view c).contest = .deferred) :
    s.contestOnTake c true rv = s.modView c fun v => { v with contest := .deferred, rival := none } := by
  rcases waits with idle | deferred
  · simp [contestOnTake, watched, idle]
  · simp only [contestOnTake, watched, deferred, if_true]
    exact modView_congr (by rw [← deferred])

theorem contestOnTake_claiming (claiming : (s.view c).contest = .claiming) (b : Bool) :
    s.contestOnTake c b rv = (s.endClaim c .deferred (if b then none else some rv)).look := by
  simp only [contestOnTake, watched, claiming, if_true]

end

/-- A claim given up for DEFERRED on a held channel: the look that follows leaves it so. -/
theorem endClaim_look_view (held : (s.view c).holder ≠ none) (rival : Option Rival) :
    (s.endClaim c .deferred rival).look.view c =
      { s.view c with contest := .deferred, own := none, window := none, rival := rival } := by
  have view : (s.endClaim c .deferred rival).view c = _ := endClaim_view .deferred rival
  rw [look_view (by rw [view]; exact held), view]

end Sys2Proof.Machine.State

/-! ## A TAKE heard (R108, R117, R124) -/

namespace Sys2Proof.Machine

/-! ### The judgement's table (R108) -/

theorem judgeTake_none {me : Addr} {v : View} {e : Nat} {p : Addr} {t : Nat} {k : Claim} (none : v.holder = none) :
    judgeTake me v e p t k = if e ≤ t then .accepted else .notAccepted := by
  simp only [judgeTake, none]

theorem judgeTake_sender {me : Addr} {v : View} {e : Nat} {p : Addr} {t : Nat} {k : Claim} (named : v.holder = some p) :
    judgeTake me v e p t k = .notAccepted := by
  simp only [judgeTake, named, if_true]

/-- A TAKE stands above the holder `q` of a view: under a higher epoch, or an equal one with the better claim or the
holder's unknown. -/
def TakeWins (v : View) (q p : Addr) (t : Nat) (k : Claim) : Prop :=
  v.holderEpoch < t ∨ (t = v.holderEpoch ∧
    ∀ hc, v.holderClaim = some hc → WholeClaim.better ⟨p, k⟩ ⟨q, hc⟩ = true)

theorem judgeTake_other {me : Addr} {v : View} {e : Nat} {p q : Addr} {t : Nat} {k : Claim} (named : v.holder = some q)
    (other : q ≠ p) :
    (TakeWins v q p t k → judgeTake me v e p t k = if q = me then .duplicate else .accepted) ∧
      (¬TakeWins v q p t k → judgeTake me v e p t k = .notAccepted) := by
  have judged (W : Prop) [Decidable W] (same : W ↔ TakeWins v q p t k) (eq : judgeTake me v e p t k =
      if q = me then (if W then .duplicate else .notAccepted) else if W then .accepted else .notAccepted) :
      (TakeWins v q p t k → judgeTake me v e p t k = if q = me then .duplicate else .accepted) ∧
        (¬TakeWins v q p t k → judgeTake me v e p t k = .notAccepted) := by
    rw [eq, ← same]
    exact ⟨fun wins => by simp only [wins, if_true], fun loses => by simp only [loses, if_false, ite_self]⟩
  cases claim : v.holderClaim with
  | none =>
    refine judged (v.holderEpoch < t ∨ (t = v.holderEpoch ∧ true = true)) (by simp [TakeWins, claim]) ?_
    simp only [judgeTake, named, claim, if_neg other]
  | some hc =>
    refine judged (v.holderEpoch < t ∨ (t = v.holderEpoch ∧ WholeClaim.better ⟨p, k⟩ ⟨q, hc⟩ = true))
      (by simp [TakeWins, claim]) ?_
    simp only [judgeTake, named, claim, if_neg other]

/-! ### Pending duplicates (R124) -/

/-- Claim `x` of station `a` stands above claim `y` of station `b`: the better claim, or the lower address where one is
unknown. -/
def ClaimBeats (a b : Addr) (x y : Option Claim) : Prop :=
  (∃ p q, x = some p ∧ y = some q ∧ WholeClaim.better ⟨a, p⟩ ⟨b, q⟩ = true) ∨ ((x = none ∨ y = none) ∧ a < b)

theorem Duplicate.beats_iff (x y : Duplicate) : x.beats y = true ↔
    y.epoch < x.epoch ∨ (x.epoch = y.epoch ∧ ClaimBeats x.addr y.addr x.claim y.claim) := by
  cases hx : x.claim <;> cases hy : y.claim <;> simp [Duplicate.beats, ClaimBeats, hx, hy]

namespace State

variable {s : State} {c : Chan} {rx : Reception} {src dst : Addr} {chan weight forced epoch : Nat}

theorem recordDuplicate_first (s : State) (c : Chan) (d : Duplicate) (none : (s.view c).duplicate = none) :
    s.recordDuplicate c d =
      s.modView c fun v => { v with duplicate := some d } :=
  modView_congr (by simp only [none])

theorem recordDuplicate_again (s : State) (c : Chan) (d old : Duplicate) (held : (s.view c).duplicate = some old) :
    s.recordDuplicate c d =
      s.modView c fun v => { v with duplicate := some (if d.beats old then d else old) } := by
  refine modView_congr ?_
  simp only [held]
  split
  · rfl
  · rw [← held]

/-- A duplicate recorded moves the pending duplicate and nothing else. -/
theorem recordDuplicate_eq (s : State) (c : Chan) (d : Duplicate) :
    s.recordDuplicate c d =
      s.modView c fun v => { v with duplicate := ((s.recordDuplicate c d).view c).duplicate } := by
  cases held : (s.view c).duplicate with
  | none => rw [recordDuplicate_first s c d held, modView_view]
  | some old => rw [recordDuplicate_again s c d old held, modView_view]

/-! ### The arrival -/

theorem exec_takeHeard_legal {f : Bool} (heard : s.found.receive rx = .deliver src dst (.take chan weight forced epoch))
    (named : chanOf chan = some c) (legal : flagOf forced = some f) :
    exec (.takeHeard rx) s = .next ((s.found.hear src).takeArrives c src ⟨f, weight⟩ epoch).review := by
  refine congrArg Host.Outcome.next ((arrival_taken s rx _ src dst _ _ heard rfl).trans ?_)
  simp only [named, legal]
  rfl

theorem exec_takeHeard_illegal (heard : s.found.receive rx = .deliver src dst (.take chan weight forced epoch))
    (illegal : chanOf chan = none ∨ flagOf forced = none) :
    exec (.takeHeard rx) s = .next (s.found.hear src).review := by
  refine congrArg Host.Outcome.next ((arrival_taken s rx _ src dst _ _ heard rfl).trans ?_)
  split
  next c f named legal =>
    rcases illegal with none | none
    · rw [none] at named; cases named
    · rw [none] at legal; cases legal
  next => rfl

/-! ### What follows each verdict -/

section
variable {a : Addr} {k : Claim}

theorem takeArrives_accepted (judged : judgeTake s.me (s.view c) (s.chan c).epoch a epoch k = .accepted) :
    s.takeArrives c a k epoch = (s.acceptTake c a epoch (some k)).contestOnTake c true ⟨a, k, s.now⟩ := by
  simp only [takeArrives, judged]

theorem takeArrives_notAccepted (judged : judgeTake s.me (s.view c) (s.chan c).epoch a epoch k = .notAccepted) :
    s.takeArrives c a k epoch = s.contestOnTake c false ⟨a, k, s.now⟩ := by
  simp only [takeArrives, judged]

theorem takeArrives_duplicate (judged : judgeTake s.me (s.view c) (s.chan c).epoch a epoch k = .duplicate) :
    s.takeArrives c a k epoch = s.recordDuplicate c ⟨a, epoch, some k⟩ := by
  simp only [takeArrives, judged]

end

end State

end Sys2Proof.Machine

namespace Sys2Proof.PeersAndClaims

open Sys2Proof.Machine

/-- Settles O33: the judgement and what follows each verdict; its table; a TAKE accepted; the contest; the
duplicates. -/
theorem takesAreJudgedAgainstTheView : Obligations.TakesAreJudgedAgainstTheView := by
  refine ⟨?arrival,
    fun me v e p t k => ⟨judgeTake_none, judgeTake_sender, fun q named other => judgeTake_other named other⟩,
    fun s c a epoch k => ?accepted, fun s c rv => ?contest, fun s c d => ?duplicate⟩
  case arrival =>
    intro rx s src dst chan weight forced epoch t heard
    refine ⟨State.exec_takeHeard_illegal heard, fun c f named legal => ?_⟩
    intro k verdict
    rw [State.exec_takeHeard_legal heard named legal]
    exact ⟨fun judged => by rw [State.takeArrives_accepted judged],
      fun judged => by rw [State.takeArrives_notAccepted judged],
      fun judged => by rw [State.takeArrives_duplicate judged]⟩
  case accepted =>
    intro u
    have held : State.HeldBy s u c a epoch k := State.heldBy_acceptTake s c a epoch k
    rw [held.view]
    refine ⟨rfl, rfl, rfl, rfl, held.authority, held.epoch, held.nextSeq, fun current closed => ⟨fun same edited => ?_,
      fun sound => ?_⟩⟩
    all_goals have replica := (State.setHolder_replica (a := a) (e := epoch) (k := k) closed).trans current
    · rw [show u = _ from State.acceptTake_diverged same edited]
      exact State.makeStale_stale _ .diverged (by rw [replica]; decide)
    · rw [show u = _ from State.acceptTake_sound sound, replica]
  case contest =>
    intro set
    refine ⟨State.contestOnTake_unwatched, fun watched => ⟨fun waits => ⟨State.contestOnTake_waits watched waits,
      State.contestOnTake_refused waits⟩, fun claiming => ⟨State.contestOnTake_claiming watched claiming true,
      State.contestOnTake_claiming watched claiming false⟩, State.contestOnTake_taken⟩, fun k r => ?_⟩
    exact ⟨State.endClaim_view k r, fun e => State.endClaim_view_other k r, rfl, State.endClaim_q0 k r,
      fun n reserved chan first => State.endClaim_slot k r ⟨⟨reserved, chan⟩, first⟩⟩
  case duplicate =>
    intro u
    refine ⟨fun none => ?_, fun old held => ?_, s.recordDuplicate_eq c d⟩
    · rw [show u = _ from s.recordDuplicate_first c d none, State.modView_view]
    · intro better
      have recorded : (u.view c).duplicate = some (if d.beats old then d else old) := by
        rw [show u = _ from s.recordDuplicate_again c d old held, State.modView_view]
      rw [recorded]
      exact ⟨fun wins => congrArg some (if_pos ((Duplicate.beats_iff d old).mpr wins)),
        fun loses => congrArg some (if_neg (mt (Duplicate.beats_iff d old).mp loses))⟩

end Sys2Proof.PeersAndClaims

/-! ## A BEACON offered (R103, R183) -/

namespace Sys2Proof.Machine.State

variable {s : State}

theorem offerBeacon_replaces (waits : s.waiting isBeacon = true) : s.offerBeacon =
    (s.replaceWaiting isBeacon .beacon).setLine fun l => { l with beaconHeld := false } := if_pos waits

theorem offerBeacon_room (fresh : s.waiting isBeacon = false) (room : s.hasRoom .one = true) : s.offerBeacon =
    (s.enqueue .beacon).setLine fun l => { l with beaconHeld := false } :=
  (if_neg (Bool.eq_false_iff.mp fresh)).trans (if_pos room)

theorem offerBeacon_full (fresh : s.waiting isBeacon = false) (full : s.hasRoom .one = false) : s.offerBeacon =
    s.setLine fun l => { l with beaconHeld := true } :=
  (if_neg (Bool.eq_false_iff.mp fresh)).trans (if_neg (Bool.eq_false_iff.mp full))

/-- A BEACON is held exactly when none waits and class 1 is full; else one stands in class 1 (R183). -/
theorem offerBeacon_held (s : State) :
    (s.offerBeacon.line.beaconHeld = true ↔ s.waiting isBeacon = false ∧ s.hasRoom .one = false) ∧
      (s.offerBeacon.line.beaconHeld = false → ∃ e ∈ s.offerBeacon.line.q1, e.msg = .beacon) := by
  cases waits : s.waiting isBeacon with
  | true =>
    rw [offerBeacon_replaces waits]
    refine ⟨by simp, fun _ => ?_⟩
    obtain ⟨e, mem, waiting⟩ := List.any_eq_true.mp waits
    exact ⟨⟨.beacon, false⟩, List.mem_map.mpr ⟨e, mem, if_pos waiting⟩, rfl⟩
  | false =>
    cases room : s.hasRoom .one with
    | true =>
      rw [offerBeacon_room waits room]
      exact ⟨by simp, fun _ => ⟨⟨.beacon, false⟩, List.mem_append_right s.line.q1 List.mem_cons_self, rfl⟩⟩
    | false =>
      rw [offerBeacon_full waits room]
      exact ⟨by simp, by simp⟩

theorem offerBeacon_otherQueues (s : State) :
    s.offerBeacon.line.q0 = s.line.q0 ∧ s.offerBeacon.line.q2 = s.line.q2 := by
  unfold offerBeacon
  split
  · exact ⟨rfl, rfl⟩
  · split <;> exact ⟨rfl, rfl⟩

theorem beaconDue_due (active : s.active = true) (due : 12 ≤ s.line.beaconTimer) :
    s.beaconDue = (s.setLine fun l => { l with beaconTimer := 0 }).offerBeacon := if_pos ⟨active, due⟩

theorem beaconDue_early (early : s.active = false ∨ s.line.beaconTimer < 12) : s.beaconDue = s :=
  if_neg fun ⟨active, due⟩ =>
    early.elim (fun off => Bool.false_ne_true (off.symm.trans active)) (Nat.not_lt.mpr due)

theorem beaconRetry_held (active : s.active = true) (held : s.line.beaconHeld = true) : s.beaconRetry = s.offerBeacon :=
  if_pos (by rw [active, held]; rfl)

theorem beaconRetry_idle (idle : s.active = false ∨ s.line.beaconHeld = false) : s.beaconRetry = s := by
  rcases idle with off | empty
  · simp [beaconRetry, off]
  · simp [beaconRetry, empty]

end Sys2Proof.Machine.State

/-! ## What a view names, through the contests -/

namespace Sys2Proof.Machine.State

variable {s : State} {c d : Chan}

/-- Whom a view names: the holder with its epoch and claim, and the source of an orphan. -/
def naming (s : State) (d : Chan) : Option Addr × Nat × Option Claim × Option Addr :=
  ((s.view d).holder, (s.view d).holderEpoch, (s.view d).holderClaim, (s.view d).orphanSource)

theorem naming_eq_iff {x : Option Addr × Nat × Option Claim × Option Addr} : s.naming d = x ↔
    (s.view d).holder = x.1 ∧ (s.view d).holderEpoch = x.2.1 ∧ (s.view d).holderClaim = x.2.2.1 ∧
      (s.view d).orphanSource = x.2.2.2 := by simp only [naming, Prod.ext_iff]

theorem naming_congr {t : State} (h : t.view d = s.view d) : t.naming d = s.naming d := by rw [naming, h, naming]

/-- A change that leaves the named fields of the view it reaches leaves all namings. -/
theorem modView_naming (f : View → View) (keeps : ∀ v, (f v).holder = v.holder ∧ (f v).holderEpoch = v.holderEpoch ∧
    (f v).holderClaim = v.holderClaim ∧ (f v).orphanSource = v.orphanSource) :
    (s.modView c f).naming d = s.naming d := by
  by_cases other : d = c
  · subst other
    obtain ⟨holder, epoch, claim, source⟩ := keeps (s.view d)
    rw [naming, modView_view, holder, epoch, claim, source, naming]
  · exact naming_congr (modView_view_other _ _ _ _ (Ne.symm other))

@[simp] theorem startClaim_naming (s : State) (c d : Chan) (forced : Bool) :
    (s.startClaim c forced).naming d = s.naming d := by
  cases first : s.firstFree with
  | none => rw [startClaim_none first]
  | some n =>
    by_cases other : d = c
    · subst other
      rw [naming, startClaim_view first, naming]
    · exact naming_congr (startClaim_view_other other)

@[simp] theorem beforeClaim_naming (s : State) (d : Chan) : s.beforeClaim.naming d = s.naming d :=
  naming_congr (view_congr (beforeClaim_views s) d)

@[simp] theorem runLatch_naming (s : State) (d : Chan) : s.runLatch.naming d = s.naming d := by
  have latch (t : State) (f : ClaimEngine → ClaimEngine) : (t.setClaims f).naming d = t.naming d := rfl
  unfold runLatch
  dsimp only
  (repeat' split) <;> simp [latch]

@[simp] theorem look_naming (s : State) (d : Chan) : s.look.naming d = s.naming d := by
  unfold look
  dsimp only
  (repeat' split) <;> simp

@[simp] theorem endClaim_naming (s : State) (c d : Chan) (after : Contest) (rival : Option Rival) :
    (s.endClaim c after rival).naming d = s.naming d := by
  by_cases other : d = c
  · subst other
    rw [naming, endClaim_view, naming]
  · exact naming_congr (endClaim_view_other after rival other)

@[simp] theorem contestOnTake_naming (s : State) (c d : Chan) (accepted : Bool) (rv : Rival) :
    (s.contestOnTake c accepted rv).naming d = s.naming d := by
  unfold contestOnTake
  (repeat' split) <;> simp [modView_naming]

@[simp] theorem recordDuplicate_naming (s : State) (c d : Chan) (x : Duplicate) :
    (s.recordDuplicate c x).naming d = s.naming d := by
  rw [recordDuplicate_eq]
  exact modView_naming _ fun v => ⟨rfl, rfl, rfl, rfl⟩

/-- The contest of a held channel after a TAKE accepted (R117). -/
theorem contestOnTake_accepted {rv : Rival} (held : (s.view c).holder ≠ none) (watched : (s.chan c).watched = true) :
    let t := s.contestOnTake c true rv
    ((s.view c).contest = .idle ∨ (s.view c).contest = .claiming ∨ (s.view c).contest = .deferred →
      (t.view c).contest = .deferred ∧ (t.view c).rival = none) ∧
    ((s.view c).contest = .claiming → (t.view c).own = none ∧ (t.view c).window = none) ∧
    ((s.view c).contest = .taking ∨ (s.view c).contest = .taken → (t.view c).contest = (s.view c).contest) := by
  intro t
  have waits (h : (s.view c).contest = .idle ∨ (s.view c).contest = .deferred) :
      (t.view c).contest = .deferred ∧ (t.view c).rival = none := by
    rw [show t = _ from contestOnTake_waits watched h, modView_view]
    exact ⟨rfl, rfl⟩
  have ends (h : (s.view c).contest = .claiming) : t.view c =
      { s.view c with contest := .deferred, own := none, window := none, rival := none } := by
    rw [show t = _ from contestOnTake_claiming watched h true]
    exact endClaim_look_view held none
  refine ⟨?_, fun claiming => ?_, fun taken => ?_⟩
  · rintro (idle | claiming | deferred)
    · exact waits (.inl idle)
    · rw [ends claiming]; exact ⟨rfl, rfl⟩
    · exact waits (.inr deferred)
  · rw [ends claiming]; exact ⟨rfl, rfl⟩
  · rw [show t = s from contestOnTake_taken taken true]

end Sys2Proof.Machine.State

/-! ## A BEACON heard (R104, R124) -/

namespace Sys2Proof.Machine

/-- The entries of a BEACON whose channel exists. -/
def RawBeacon.listed (b : RawBeacon) : List (Chan × Nat) :=
  b.onAir.filterMap fun x => (chanOf x.1).map fun c => (c, x.2)

theorem StationState.ofCode_active {n : Nat} {st : StationState} (read : StationState.ofCode n = some st)
    (away : n ≠ 2 ∧ n ≠ 3 ∧ n ≠ 4) : st = .start ∨ st = .inert := by
  unfold StationState.ofCode at read
  split at read <;> simp_all

namespace State

variable {s : State} {a : Addr} {c d : Chan} {e : Nat} {b : RawBeacon}

theorem exec_beaconReceived {rx : Reception} {src dst : Addr}
    (heard : s.found.receive rx = .deliver src dst (.beacon b)) :
    exec (.beaconReceived rx) s = .next ((s.found.hear src).beaconArrives src b).review :=
  congrArg Host.Outcome.next (arrival_taken s rx _ src dst _ (fun t => t.beaconArrives src b) heard rfl)

/-! ### One entry of its list (R104) -/

/-- The state in which the contest of a holder learned from a BEACON moves. -/
def learned (s : State) (c : Chan) (a : Addr) (e : Nat) : State :=
  if decide (e = (s.chan c).epoch) && decide ((s.chan c).authority = .main) then
    (s.setHolder c a e none).makeStale c .epoch
  else s.setHolder c a e none

theorem beaconHolder_eq (s : State) (c : Chan) (a : Addr) (e : Nat) : s.beaconHolder c a e =
    (s.learned c a e).contestOnTake c true ⟨a, ⟨false, 0⟩, (s.learned c a e).now⟩ := by
  have now : (s.learned c a e).now = s.now := by
    unfold learned
    split
    · rw [State.now, base_time (base_makeStale _ c _), base_time (base_setHolder s c a e none), State.now]
    · rw [State.now, base_time (base_setHolder s c a e none), State.now]
  rw [now]
  rfl

theorem heldBy_learned (s : State) (c : Chan) (a : Addr) (e : Nat) : HeldBy s (s.learned c a e) c a e none := by
  unfold learned
  split
  · exact (heldBy_setHolder s c a e none).makeStale .epoch
  · exact heldBy_setHolder s c a e none

theorem learned_edited (same : e = (s.chan c).epoch) (main : (s.chan c).authority = .main)
    (current : (s.chan c).replica = .current) (closed : (s.chan c).shadow = none) :
    ((s.learned c a e).chan c).replica = .stale ∧ ((s.learned c a e).chan c).cause = some .epoch := by
  have replica := (setHolder_replica (a := a) (e := e) (k := none) closed).trans current
  rw [show s.learned c a e = _ from if_pos (by simp [same, main])]
  exact makeStale_stale _ .epoch (by rw [replica]; decide)

/-- The entry names a new holder: none is named and its epoch is at or above the channel's, or another peer is under a
lower one. -/
def Learns (s : State) (a : Addr) (c : Chan) (e : Nat) : Prop :=
  ((s.view c).holder = none ∧ (s.chan c).epoch ≤ e) ∨
    ∃ q, (s.view c).holder = some q ∧ q ≠ a ∧ q ≠ s.me ∧ (s.view c).holderEpoch < e

theorem beaconEntry_learns (learns : s.Learns a c e) : s.beaconEntry a c e = s.beaconHolder c a e := by
  obtain ⟨none, new⟩ | ⟨q, named, other, peer, higher⟩ := learns
  · simp only [beaconEntry, none, new, if_true]
  · simp only [beaconEntry, named, other, peer, higher, if_true, if_false]

theorem beaconEntry_sender (named : (s.view c).holder = some a) : s.beaconEntry a c e = s := by
  simp only [beaconEntry, named, if_true]

theorem beaconEntry_below (none : (s.view c).holder = none) (low : e < (s.chan c).epoch) : s.beaconEntry a c e = s := by
  simp only [beaconEntry, none, if_neg (Nat.not_le.mpr low)]

theorem beaconEntry_lower {q : Addr} (named : (s.view c).holder = some q) (other : q ≠ a) (peer : q ≠ s.me)
    (low : e ≤ (s.view c).holderEpoch) : s.beaconEntry a c e = s := by
  simp only [beaconEntry, named, other, peer, if_false, if_neg (Nat.not_lt.mpr low)]

theorem beaconEntry_mine (named : (s.view c).holder = some s.me) (other : a ≠ s.me) :
    s.beaconEntry a c e = s.beaconDuplicate c a e := by
  simp only [beaconEntry, named, other.symm, if_true, if_false]

/-- A listed channel of this station's own is judged as a duplicate against this station's holding (R124). -/
theorem beaconDuplicate_eq (s : State) (c : Chan) (a : Addr) (e : Nat) : s.beaconDuplicate c a e =
    if (Duplicate.mk a e (s.knownClaim c a)).beats ⟨s.me, (s.view c).holderEpoch, (s.view c).holderClaim⟩ then
      s.recordDuplicate c ⟨a, e, s.knownClaim c a⟩
    else s := by
  unfold beaconDuplicate
  refine if_congr ?_ rfl rfl
  rw [Duplicate.beats, Bool.or_eq_true, Bool.and_eq_true, decide_eq_true_eq, decide_eq_true_eq]
  exact Iff.rfl

theorem beaconEntry_cases (s : State) (a : Addr) (c : Chan) (e : Nat) : s.beaconEntry a c e = s ∨
    s.beaconEntry a c e = s.beaconHolder c a e ∨ ∃ x, s.beaconEntry a c e = s.recordDuplicate c x := by
  unfold beaconEntry beaconDuplicate
  dsimp only
  (repeat' split) <;> simp

theorem beaconEntry_naming_other (other : d ≠ c) : (s.beaconEntry a c e).naming d = s.naming d := by
  obtain same | learns | ⟨x, records⟩ := s.beaconEntry_cases a c e
  · rw [same]
  · rw [learns, beaconHolder_eq, contestOnTake_naming, naming_congr ((heldBy_learned s c a e).others d other)]
  · rw [records, recordDuplicate_naming]

theorem learned_peers : (s.learned c a e).peers = s.peers := by
  unfold learned; split <;> simp

@[simp] theorem beaconEntry_peers : (s.beaconEntry a c e).peers = s.peers := by
  obtain same | learns | ⟨x, records⟩ := s.beaconEntry_cases a c e
  · rw [same]
  · rw [learns, beaconHolder_eq, contestOnTake_peers, learned_peers]
  · rw [records]; rfl

/-! ### The whole list (R104, R109) -/

theorem foldl_beaconEntry_naming {l : List (Chan × Nat)} (unlisted : ∀ x ∈ l, x.1 ≠ d) (t : State) :
    (l.foldl (fun t x => t.beaconEntry a x.1 x.2) t).naming d = t.naming d := by
  induction l generalizing t with
  | nil => rfl
  | cons x l ih =>
    obtain ⟨other, unlisted⟩ := List.forall_mem_cons.mp unlisted
    exact (ih unlisted _).trans (beaconEntry_naming_other other.symm)

/-- One channel's turn behind the entries: where the sender is named and no longer lists it, the holder is cleared. -/
def clearUnlisted (a : Addr) (l : List (Chan × Nat)) (c : Chan) (t : State) : State :=
  if (t.view c).holder = some a ∧ ∀ x ∈ l, x.1 ≠ c then t.clearHolder c else t

theorem clearUnlisted_peers (l : List (Chan × Nat)) (t : State) : (clearUnlisted a l c t).peers = t.peers := by
  unfold clearUnlisted; split <;> simp

theorem clearUnlisted_naming_other (l : List (Chan × Nat)) (c d : Chan) (t : State) (other : d ≠ c) :
    (clearUnlisted a l d t).naming c = t.naming c := by
  unfold clearUnlisted
  split
  · exact naming_congr (clearHolder_view_other other.symm)
  · rfl

theorem clearHolder_naming (s : State) (c : Chan) :
    (s.clearHolder c).naming c = (none, (s.view c).holderEpoch, none, none) := by
  rw [naming, clearHolder_view, dropHolder_view]

/-- A channel the sender does not list names it no longer, and one that did names none, its epoch kept. -/
theorem forChans_clearUnlisted (l : List (Chan × Nat)) (unlisted : ∀ x ∈ l, x.1 ≠ c) (t : State) :
    (forChans (clearUnlisted a l) t).naming c =
      if (t.view c).holder = some a then (none, (t.view c).holderEpoch, none, none) else t.naming c := by
  obtain ⟨u, reached, fold⟩ := forChans_at (fun t => t.naming c) c (clearUnlisted_naming_other l c) t
  rw [fold]
  obtain ⟨holder, epoch, -⟩ := naming_eq_iff.mp reached
  by_cases held : (t.view c).holder = some a
  · rw [show clearUnlisted a l c u = u.clearHolder c from if_pos ⟨holder.trans held, unlisted⟩, if_pos held,
      clearHolder_naming, epoch]
    rfl
  · rw [show clearUnlisted a l c u = u from if_neg fun h => held (holder.symm.trans h.1), if_neg held]
    exact reached

/-- The sender's record filled from its BEACON. -/
def beaconFilled (s : State) (a : Addr) (b : RawBeacon) (st : StationState) (tm : TimeState) : State :=
  s.modPeer a fun p => { p with
    station := some st, time := some tm, freeSlots := b.freeSlots, onAir := b.listed, current := b.current
    contest := b.contest }

/-- A BEACON with an illegal state, time or reference, or of a station in START or INERT, changes nothing more. -/
theorem beaconArrives_passed (passed : ∀ st tm rf, StationState.ofCode b.station = some st →
    TimeState.ofCode b.time = some tm → RefState.ofCode b.ref = some rf → st = .start ∨ st = .inert) :
    s.beaconArrives a b = s := by
  unfold beaconArrives
  split
  next st tm rf station time ref => exact if_pos (passed st tm rf station time ref)
  next => rfl

theorem beaconArrives_legal {st : StationState} {tm : TimeState} {rf : RefState}
    (station : StationState.ofCode b.station = some st) (legal : st = .listening ∨ st = .ready ∨ st = .degraded)
    (time : TimeState.ofCode b.time = some tm) (ref : RefState.ofCode b.ref = some rf) : s.beaconArrives a b =
    forChans (clearUnlisted a b.listed)
      (b.listed.foldl (fun t x => t.beaconEntry a x.1 x.2) (s.beaconFilled a b st tm)) := by
  have awake : ¬(st = .start ∨ st = .inert) := by rcases legal with rfl | rfl | rfl <;> decide
  have turn : clearUnlisted a b.listed = fun c t =>
      if (t.view c).holder = some a ∧ !(b.listed.any fun x => decide (x.1 = c)) then t.clearHolder c
      else t := by
    funext c t
    refine if_congr (and_congr_right fun _ => ?_) rfl rfl
    simp only [Bool.not_eq_true', List.any_eq_false, decide_eq_true_eq, ne_eq]
  rw [turn]
  simp only [beaconArrives, station, time, ref, if_neg awake]
  rfl

end State

end Sys2Proof.Machine

namespace Sys2Proof.PeersAndClaims

open Sys2Proof.Machine

/-- Settles O29: the two offers; what an offer does; the BEACON heard, its illegal forms, its list and what it no longer
lists; one entry by the table. -/
theorem beaconsAreOfferedAndJudged : Obligations.BeaconsAreOfferedAndJudged := by
  refine ⟨fun s openFrame => ?frame, fun s => ?offer, ?arrival, ?list, fun s a c e => ?entry⟩
  case frame =>
    intro t due
    have offered : exec .beaconOffered s = .next t.beaconDue.review :=
      congrArg Host.Outcome.next (s.atFrame_open _ openFrame)
    have again : exec .beaconOfferRetry s = .next t.beaconRetry.review :=
      congrArg Host.Outcome.next (s.atFrame_open _ openFrame)
    rw [offered, again]
    refine ⟨fun active full => ?_, fun early => ?_, fun active held => ?_, fun idle => ?_⟩
    · rw [State.beaconDue_due active full]; rfl
    · rw [State.beaconDue_early early]
    · rw [State.beaconRetry_held active held]
    · rw [State.beaconRetry_idle idle]
  case offer =>
    obtain ⟨held, placed⟩ := s.offerBeacon_held
    exact ⟨held, placed, s.offerBeacon_otherQueues⟩
  case arrival =>
    intro rx s src dst b t heard
    refine ⟨State.exec_beaconReceived heard, fun away => ?_, fun none => ?_, fun none => ?_⟩
    · exact State.beaconArrives_passed fun st tm rf station _ _ => StationState.ofCode_active station away
    · exact State.beaconArrives_passed fun st tm rf _ time _ => by cases none.symm.trans time
    · exact State.beaconArrives_passed fun st tm rf _ _ ref => by cases none.symm.trans ref
  case list =>
    intro s a b st tm rf station legal time ref listed filled judged u
    have arrived : u = forChans (State.clearUnlisted a listed) judged :=
      State.beaconArrives_legal station legal time ref
    have peers : judged.peers = filled.peers :=
      State.foldl_keeps (·.peers) (fun t x => State.beaconEntry_peers) listed filled
    refine ⟨arrived, ?_, fun c unlisted => ?_⟩
    · rw [arrived]
      exact forChans_keeps (P := fun t => t.peers = filled.peers)
        (fun c t same => (State.clearUnlisted_peers listed t).trans same) _ peers
    · have before : judged.naming c = s.naming c := State.foldl_beaconEntry_naming unlisted filled
      obtain ⟨holder, epoch, -⟩ := State.naming_eq_iff.mp before
      have after := State.forChans_clearUnlisted (a := a) listed unlisted judged
      rw [← arrived, holder, epoch] at after
      by_cases held : (s.view c).holder = some a
      · obtain ⟨none, kept, claim, source⟩ := State.naming_eq_iff.mp (after.trans (if_pos held))
        exact ⟨by rw [none]; exact (Option.some_ne_none a).symm, fun _ => ⟨none, claim, kept, source⟩⟩
      · obtain ⟨same, -⟩ := State.naming_eq_iff.mp (after.trans ((if_neg held).trans before))
        exact ⟨by rw [same]; exact held, fun h => absurd h held⟩
  case entry =>
    refine ⟨State.beaconEntry_sender, State.beaconEntry_below,
      fun q named other peer => State.beaconEntry_lower named other peer, fun learns => ?learns,
      fun mine other => ?duplicate⟩
    case learns =>
      intro t
      have held := State.heldBy_learned s c a e
      have moved : t = _ := (State.beaconEntry_learns learns).trans (s.beaconHolder_eq c a e)
      have named : t.naming c = (some a, e, none, none) := by
        rw [moved, State.contestOnTake_naming, State.naming, held.view]
      have flag := (State.orphanFlag_congr (moved ▸ State.contestOnTake_watch _ _ _ _) c).trans held.orphan
      have chan : t.chan c = (s.learned c a e).chan c :=
        State.chan_congr (moved ▸ State.contestOnTake_chans _ _ _ _) c
      have same : ∀ {α : Type} (f : View → α), (∀ v : View, ∀ p q r o, f { v with
          holder := p, holderEpoch := q, holderClaim := r, orphanSource := o } = f v) →
          f ((s.learned c a e).view c) = f (s.view c) := fun f keeps => by rw [held.view, keeps]
      obtain ⟨holder, epoch, claim, source⟩ := State.naming_eq_iff.mp named
      refine ⟨holder, epoch, claim, source, fun w => State.orphan_of_orphanFlag flag, ?_, ?_, ?_, ?_, ?_, ?_, ?_⟩
      · rw [chan, held.authority]
      · rw [chan, held.epoch]
      · rw [chan, held.nextSeq]
      · rw [chan]
        exact State.learned_edited
      · exact ⟨_, _, moved, held.watched, same (·.contest) fun _ _ _ _ _ => rfl, same (·.own) fun _ _ _ _ _ => rfl,
          same (·.serial) fun _ _ _ _ _ => rfl, same (·.rival) fun _ _ _ _ _ => rfl, held.slots⟩
      · intro watched
        have contest := same (·.contest) fun _ _ _ _ _ => rfl
        rw [moved, ← contest]
        exact State.contestOnTake_accepted held.held (held.watched.trans watched)
      · intro unwatched
        rw [moved, State.contestOnTake_unwatched (held.watched.trans unwatched), held.view]
    case duplicate =>
      intro known better wins
      rw [State.beaconEntry_mine mine other, State.beaconDuplicate_eq]
      exact ⟨fun h => if_pos ((Duplicate.beats_iff _ _).mpr h), fun h => if_neg (mt (Duplicate.beats_iff _ _).mp h)⟩

end Sys2Proof.PeersAndClaims

/-! ## What a return of authority leaves (R50, R52) -/

namespace Sys2Proof.Machine.State

variable {s : State} {c d : Chan} {e : Nat} {q : ImageRequest}

/-! ### The request's new round -/

/-- A request as a new round leaves it: nobody asked, the first of `as` its target, or WAITING where there is none. -/
def OpensRound (as : List Addr) (q : ImageRequest) : Prop :=
  q.asked = [] ∧ q.timer = 0 ∧ q.target = as.head? ∧ q.stage = if as.isEmpty then .waiting else .asking

theorem newRound_opens (asks : ((s.newRound c).chan c).request = some q) : OpensRound (s.candidates c) q := by
  let t := (s.takeBack .one (isAsk c fun d => decide (some d ≠ (s.candidates c).head?))).modRequest c
    fun q => { q with asked := [] }
  have chosen : s.newRound c = t.chooseTarget c := rfl
  have before : (t.chan c).request = (s.chan c).request.map fun q => { q with asked := [] } :=
    (modRequest_request _ c _).trans (congrArg (Option.map _) (congrArg ChannelRec.request
      (chan_congr (takeBack_chans s _ _) c)))
  have same : t.candidates c = s.candidates c :=
    candidates_congr (by rw [chan_of_bare (bare_modRequest _ c c _)]; rfl) rfl rfl rfl
  rw [chosen] at asks
  cases running : (s.chan c).request with
  | none =>
    rw [running] at before
    rw [chooseTarget_none before, before] at asks
    cases asks
  | some q₀ =>
    rw [running, Option.map_some] at before
    cases candidates : s.candidates c with
    | nil =>
      rw [chooseTarget_waits before (by rw [same, candidates]; simp), modRequest_request, before, Option.map_some,
        Option.some.injEq] at asks
      rw [← asks]
      exact ⟨rfl, rfl, rfl, rfl⟩
    | cons a as =>
      obtain ⟨q', takes, target, timer, stage, asked⟩ := chooseTarget_takes (as := []) before (same.trans candidates)
        (by simp) (by simp)
      cases takes.symm.trans asks
      exact ⟨asked, timer, target, stage⟩

theorem candidates_modChan (f : ChannelRec → ChannelRec) (keeps : ∀ ch, (f ch).authority = ch.authority) :
    (s.modChan c f).candidates c = s.candidates c :=
  candidates_congr (by rw [modChan_chan, keeps]) rfl rfl rfl

theorem roundAgain_opens (asks : ((s.roundAgain c).chan c).request = some q) : OpensRound (s.candidates c) q := by
  unfold roundAgain at asks
  split at asks
  · exact newRound_opens asks
  next idle =>
    unfold beginRequest at asks
    split at asks
    · have opens := newRound_opens asks
      rwa [candidates_modChan] at opens
      exact fun _ => rfl
    · exact absurd (by rw [asks]; rfl) idle

theorem roundAgain_candidates (s : State) (c : Chan) : (s.roundAgain c).candidates c = s.candidates c :=
  candidates_congr (by rw [chan_of_bare (bare_roundAgain s c c)]) (by simp) (by simp)
    (by rw [me, base_loader (base_roundAgain s c), me])

/-! ### The channels under a return epoch -/

/-- The channel's record under its return epoch, before its replica turns. -/
def underReturn (s : State) (c : Chan) (e : Nat) : State :=
  (s.epochTouched c e).modChan c fun ch => { ch with authority := .main, epoch := e, nextSeq := 0 }

theorem mainReturns_some (s : State) (c : Chan) (e : Nat) :
    s.mainReturns c (some e) = ((s.underReturn c e).setStale c .handback).roundAgain c := rfl

theorem underReturn_chan : (s.underReturn c e).chan c =
    { s.chan c with authority := .main, epoch := e, nextSeq := 0 } := by
  rw [underReturn, modChan_chan, chan_congr (epochTouched_chans s c e)]

theorem underReturn_chan_other (other : d ≠ c) : (s.underReturn c e).chan d = s.chan d :=
  (modChan_chan_other _ c d _ other.symm).trans (chan_congr (epochTouched_chans s c e) d)

theorem underReturn_base (s : State) (c : Chan) (e : Nat) : (s.underReturn c e).base = s.base :=
  base_epochTouched s c e

theorem returnUnder_bare (d : Chan) :
    (s.mainReturns c (some e)).bare d = ((s.underReturn c e).setStale c .handback).bare d := by
  rw [mainReturns_some, bare_roundAgain]

theorem returnUnder_chan_held (held : (s.chan c).replica ≠ .empty) : (s.mainReturns c (some e)).chan c =
    { s.chan c with
      authority := .main, epoch := e, nextSeq := 0, replica := .stale, cause := some .handback, shadow := none
      request := ((s.mainReturns c (some e)).chan c).request } := by
  refine (chan_of_bare (returnUnder_bare c)).trans ?_
  rw [setStale_chan _ _ (by rwa [underReturn_chan]), underReturn_chan]

theorem returnUnder_chan_empty (empty : (s.chan c).replica = .empty) : (s.mainReturns c (some e)).chan c =
    { s.chan c with
      authority := .main, epoch := e, nextSeq := 0, request := ((s.mainReturns c (some e)).chan c).request } := by
  refine (chan_of_bare (returnUnder_bare c)).trans ?_
  rw [setStale_empty _ _ (by rwa [underReturn_chan]), underReturn_chan]

theorem returnUnder_chan_other (other : d ≠ c) : (s.mainReturns c (some e)).chan d =
    { s.chan d with request := ((s.mainReturns c (some e)).chan d).request } := by
  refine (chan_of_bare (returnUnder_bare d)).trans ?_
  rw [setStale_chan_other other, underReturn_chan_other other]

theorem returnUnder_chan_closed (closed : s.time.frameOpen = false) (other : d ≠ c) :
    (s.mainReturns c (some e)).chan d = s.chan d := by
  have closed' : ((s.underReturn c e).setStale c .handback).time.frameOpen = false := by
    rw [base_time ((base_setStale _ c _).trans (underReturn_base s c e))]; exact closed
  rw [mainReturns_some, roundAgain_chan_other closed' other, setStale_chan_other other, underReturn_chan_other other]

theorem returnUnder_asks (active : s.active = true) (watched : (s.chan c).watched = true) :
    ((s.mainReturns c (some e)).chan c).request ≠ none := by
  rw [mainReturns_some]
  refine request_ne_none _ (asks_roundAgain _ ?_ ?_)
  · rw [setStale_active, active_of_base (underReturn_base s c e), active]
  · rw [setStale_watched, underReturn_chan]
    exact watched

theorem returnUnder_opens (asks : ((s.mainReturns c (some e)).chan c).request = some q) :
    OpensRound ((s.mainReturns c (some e)).candidates c) q := by
  rw [mainReturns_some] at asks ⊢
  rw [roundAgain_candidates]
  exact roundAgain_opens asks

/-! ## A RELEASE heard (R109, R167) -/

section
variable {rx : Reception} {src dst : Addr} {chan reason present ret : Nat} {pos : Pos} {r : ReleaseReason} {f : Bool}

theorem exec_releaseHeard_legal (heard : s.found.receive rx = .deliver src dst (.release chan reason pos present ret))
    (named : chanOf chan = some c) (known : ReleaseReason.ofCode reason = some r) (flag : flagOf present = some f)
    (whole : r = .handback → f = true) : exec (.releaseHeard rx) s =
      .next ((s.found.hear src).releaseArrives c src r (if f then some ret else none)).review := by
  refine congrArg Host.Outcome.next ((arrival_taken s rx _ src dst _ _ heard rfl).trans ?_)
  have carried : ¬(r = .handback ∧ f = false) := fun ⟨handback, bare⟩ => Bool.false_ne_true (bare ▸ whole handback)
  simp only [named, known, flag, if_neg carried]
  rfl

theorem exec_releaseHeard_illegal (heard : s.found.receive rx = .deliver src dst (.release chan reason pos present ret))
    (illegal : chanOf chan = none ∨ ReleaseReason.ofCode reason = none ∨ flagOf present = none ∨
      (ReleaseReason.ofCode reason = some .handback ∧ flagOf present = some false)) :
    exec (.releaseHeard rx) s = .next (s.found.hear src).review := by
  refine congrArg Host.Outcome.next ((arrival_taken s rx _ src dst _ _ heard rfl).trans ?_)
  split
  next c r f named known flag =>
    rcases illegal with none | none | none | ⟨handback, bare⟩
    · rw [none] at named; cases named
    · rw [none] at known; cases known
    · rw [none] at flag; cases flag
    · cases handback.symm.trans known
      cases bare.symm.trans flag
      exact congrArg review (if_pos ⟨rfl, rfl⟩)
  next => rfl

end

/-- The return epoch under which a RELEASE returns authority, if it does: a HANDBACK's above the channel's own. -/
def returnEpoch (s : State) (c : Chan) (r : ReleaseReason) (ret : Option Nat) : Option Nat :=
  if r = .handback then ret.bind fun e => if (s.chan c).epoch < e then some e else none else none

section
variable {a : Addr} {r : ReleaseReason} {ret : Option Nat}

theorem returnEpoch_up {f : Bool} (up : r = .handback ∧ (s.chan c).epoch < e) (whole : r = .handback → f = true) :
    s.returnEpoch c r (if f then some e else none) = some e := by
  simp only [returnEpoch, up.1, whole up.1, up.2, if_true, Option.bind_some]

theorem returnEpoch_not {f : Bool} (low : ¬(r = .handback ∧ (s.chan c).epoch < e)) :
    s.returnEpoch c r (if f then some e else none) = none := by
  rw [returnEpoch]
  split
  next handback =>
    cases f with
    | false => rfl
    | true => exact if_neg fun high => low ⟨handback, high⟩
  next => rfl

theorem releaseArrives_holder_stays (holder : (s.view c).holder = some a) (stays : s.returnEpoch c r ret = none) :
    s.releaseArrives c a r ret = (((s.dropHolder c).clearOrphan c).restartHealth c).authorityTest c := by
  unfold returnEpoch at stays
  simp only [releaseArrives, if_pos holder, stays]

theorem releaseArrives_holder_returns (holder : (s.view c).holder = some a) (up : s.returnEpoch c r ret = some e) :
    s.releaseArrives c a r ret =
      ((((s.dropHolder c).clearOrphan c).mainReturns c (some e)).restartHealth c).authorityTest c := by
  unfold returnEpoch at up
  simp only [releaseArrives, if_pos holder, up]

theorem releaseArrives_free_returns (free : (s.view c).holder = none) (up : s.returnEpoch c r ret = some e) :
    s.releaseArrives c a r ret = s.mainReturns c (some e) := by
  unfold returnEpoch at up
  simp only [releaseArrives, free, up, if_neg (Option.some_ne_none a).symm]

theorem releaseArrives_passed (other : (s.view c).holder ≠ some a)
    (passed : (s.view c).holder ≠ none ∨ s.returnEpoch c r ret = none) : s.releaseArrives c a r ret = s := by
  unfold returnEpoch at passed
  simp only [releaseArrives, if_neg other]
  split
  next free up => exact (passed.elim (· free) fun none => Option.some_ne_none _ (up.symm.trans none)).elim
  next => rfl

end

/-! ### The holder cleared -/

theorem dropOrphan_others (other : d ≠ c) : ((s.dropHolder c).clearOrphan c).view d = s.view d ∧
    ((s.dropHolder c).clearOrphan c).watchRec d = s.watchRec d :=
  ⟨(clearOrphan_view_other other).trans (dropHolder_view_other other), clearOrphan_watchRec_other other⟩

end Sys2Proof.Machine.State

namespace Sys2Proof.PeersAndClaims

open Sys2Proof.Machine

/-- Settles O47: the RELEASE by its table; authority returned; the holder cleared. -/
theorem releasesHeardAreJudged : Obligations.ReleasesHeardAreJudged := by
  refine ⟨fun rx s src dst chan reason pos present ret => ?arrival, fun s c e => ?returned, fun s c => ?cleared⟩
  case arrival =>
    intro t heard
    refine ⟨State.exec_releaseHeard_illegal heard, fun c r f named known flag whole => ?_⟩
    intro up cleared
    rw [State.exec_releaseHeard_legal heard named known flag whole]
    refine ⟨fun holder stays => ?_, fun holder returns => ?_, fun free returns => ?_, fun other passed => ?_⟩
    · rw [State.releaseArrives_holder_stays holder (State.returnEpoch_not stays)]
    · rw [State.releaseArrives_holder_returns holder (State.returnEpoch_up returns whole)]
    · rw [State.releaseArrives_free_returns free (State.returnEpoch_up returns whole)]
    · rw [State.releaseArrives_passed other (passed.imp_right State.returnEpoch_not)]
  case returned =>
    intro u
    have request := fun active watched => State.returnUnder_asks (s := s) (c := c) (e := e) active watched
    have opens := fun q => State.returnUnder_opens (s := s) (c := c) (e := e) (q := q)
    have others := fun d other => State.returnUnder_chan_other (s := s) (c := c) (d := d) (e := e) other
    have closed := fun shut d other => State.returnUnder_chan_closed (s := s) (c := c) (d := d) (e := e) shut other
    by_cases empty : (s.chan c).replica = .empty
    · have chan := State.returnUnder_chan_empty (e := e) empty
      refine ⟨?_, ?_, ?_, ?_, fun held => absurd empty held, fun _ => ?_, fun held => absurd empty held, request, opens,
        others, closed⟩ <;> rw [chan]
      exact empty
    · have chan := State.returnUnder_chan_held (e := e) empty
      refine ⟨?_, ?_, ?_, ?_, fun _ => ⟨?_, ?_⟩, fun none => absurd none empty, fun _ => ?_, request, opens,
        others, closed⟩ <;> rw [chan]
  case cleared =>
    refine ⟨?_, ?_, ?_, ?_, fun w => State.orphan_of_orphanFlag (s := s.dropHolder c) State.clearOrphan_orphanFlag,
      fun d other => State.dropOrphan_others other⟩ <;> rw [State.clearOrphan_view, State.dropHolder_view]

end Sys2Proof.PeersAndClaims

/-! ## The echo of a TAKE and the join's plan (R119, R127 to R129, R137) -/

namespace Sys2Proof.Machine

/-! ### The events from the walk's starting point (R129) -/

theorem ChannelRec.fromStart_anchored {ch : ChannelRec} {a : Anchor} {before after : List Rec} {e : Rec}
    (stands : ch.anchor = some a) (found : splitAt a.event ch.list = some (before, e, after)) :
    ch.fromStart = e :: after := by
  simp only [ChannelRec.fromStart, stands, Option.bind_some, found]

theorem ChannelRec.fromStart_unanchored {ch : ChannelRec}
    (gone : ∀ a, ch.anchor = some a → splitAt a.event ch.list = none) :
    ch.fromStart = ch.list.dropWhile fun e => e.derived.past := by
  have absent : (ch.anchor.bind fun a => splitAt a.event ch.list) = none := Option.bind_eq_none_iff.mpr gone
  simp only [ChannelRec.fromStart, absent]

/-- Whatever the plan, it is for the join point it is made for. -/
theorem makePlan_join (r : Rate) (cfg : Settings) (basis : Basis) (slate : Nat) (j : Pos) (events : List Rec) :
    (makePlan r cfg basis slate j events).join = j := by
  unfold makePlan
  dsimp only
  (repeat' split) <;> rfl

namespace State

variable {s : State} {c d : Chan} {n m : SlotId}

/-! ### The channel a slot is for, through a walk -/

/-- The channel a slot is for. -/
def slotChan (s : State) (m : SlotId) : Option Chan := (s.slot m).chan

theorem slotChan_congr {t : State} (h : t.slots = s.slots) (m : SlotId) : t.slotChan m = s.slotChan m := by
  rw [slotChan, slot_congr h, slotChan]

theorem modSlot_slotChan (n m : SlotId) (f : Slot → Slot) (keeps : ∀ x, (f x).chan = x.chan) :
    (s.modSlot n f).slotChan m = s.slotChan m := by
  by_cases here : n = m
  · subst here
    rw [slotChan, modSlot_slot, keeps, slotChan]
  · rw [slotChan, modSlot_slot_other _ _ _ _ here, slotChan]

/-- Arming writes the armed cue alone. -/
theorem armIfReady_eq (s : State) (n : SlotId) :
    s.armIfReady n = s ∨ ∃ a, s.armIfReady n = s.modSlot n fun x => { x with armed := some a } := by
  unfold armIfReady
  split
  · split
    · split
      · exact .inr ⟨_, rfl⟩
      · exact .inl rfl
    · exact .inl rfl
  · exact .inl rfl

@[simp] theorem armIfReady_slotChan (n m : SlotId) : (s.armIfReady n).slotChan m = s.slotChan m := by
  obtain same | ⟨a, armed⟩ := s.armIfReady_eq n
  · rw [same]
  · rw [armed]; exact modSlot_slotChan n m _ fun _ => rfl

@[simp] theorem rearm_slotChan (n m : SlotId) : (s.rearm n).slotChan m = s.slotChan m := by
  unfold rearm
  dsimp only
  (repeat' split) <;> simp [modSlot_slotChan]

@[simp] theorem refreshEnd_slotChan (n m : SlotId) : (s.refreshEnd n).slotChan m = s.slotChan m := by
  unfold refreshEnd
  split <;> simp [modSlot_slotChan]

@[simp] theorem refill_slotChan (n m : SlotId) : (s.refill n).slotChan m = s.slotChan m := by
  unfold refill
  split <;> simp [modSlot_slotChan]

@[simp] theorem loseEvent_slotChan (n m : SlotId) (c : Chan) (id : Nat) :
    (s.loseEvent n c id).slotChan m = s.slotChan m := by
  unfold loseEvent
  dsimp only
  split <;> simp [modSlot_slotChan, Slot.clearWatch]

@[simp] theorem afterWalk_slotChan (c : Chan) (m : SlotId) : (s.afterWalk c).slotChan m = s.slotChan m := by
  unfold afterWalk
  dsimp only
  (repeat' split) <;> simp

@[simp] theorem walkOwn_slotChan (c : Chan) (m : SlotId) : (s.walkOwn c).slotChan m = s.slotChan m := by
  unfold walkOwn
  split
  · rw [afterWalk_slotChan, slotChan_congr (trim_slots _ c)]
    rfl
  · rfl

@[simp] theorem walk_slotChan (c : Chan) (m : SlotId) : (s.walk c).slotChan m = s.slotChan m :=
  (foldl_keeps (fun t => t.slotChan m) (fun _ f => walkOwn_slotChan f m) _ _).trans (walkOwn_slotChan c m)

theorem expireAnchor_slotChan (c : Chan) (m : SlotId) : (s.expireAnchor c).slotChan m = s.slotChan m := by
  unfold expireAnchor
  split
  · exact walk_slotChan c m
  · rfl

/-! ### The planner hands over (R127, R137) -/

/-- The plan is for now plus the takeover lead, whatever the expiry of an anchor does before it. -/
theorem planFor_join (s t : State) (c : Chan) (base : t.base = s.base) :
    (t.planFor c).join = s.now.add s.rate s.cfg.lead := by
  rw [planFor, makePlan_join, now, rate, cfg, base_time base, base_loader base]
  rfl

/-- The reserved slot with its plan. -/
def withPlan (s : State) (n : SlotId) (c : Chan) (epoch : Nat) : State :=
  (s.expireAnchor c).modSlot n fun x =>
    { x with state := .joining, epoch := some epoch, join := some ((s.expireAnchor c).planFor c), joinOwed := true }

/-- The plan handed over and its TAKE entry written, before the next event of a GAP SLATE may be armed. -/
def handPlan (s : State) (n : SlotId) (c : Chan) (epoch : Nat) : State :=
  (s.withPlan n c epoch).slotEntry n .take ((s.expireAnchor c).planFor c).event none

theorem joinSchedule_reserved {epoch : Nat} (reserved : s.ReservedFor c n) :
    s.joinSchedule c epoch = s.handPlan n c epoch ∨
      s.joinSchedule c epoch = (s.handPlan n c epoch).armIfReady n := by
  simp only [joinSchedule, reserved.find]
  split
  · exact .inr rfl
  · exact .inl rfl

@[simp] theorem joinSchedule_views (s : State) (c : Chan) (epoch : Nat) : (s.joinSchedule c epoch).views = s.views := by
  unfold joinSchedule
  dsimp only
  (repeat' split) <;> simp

theorem handPlan_slot (s : State) (n : SlotId) (c : Chan) (epoch : Nat) : (s.handPlan n c epoch).slot n =
    { (s.expireAnchor c).slot n with
      state := .joining, epoch := some epoch, join := some ((s.expireAnchor c).planFor c), joinOwed := true } :=
  modSlot_slot _ n _

theorem handPlan_log {epoch : Nat} (held : (s.slot n).chan = some c) :
    ∃ e, (s.handPlan n c epoch).log.getLast? = some e ∧ e.kind = .take ∧ e.slot = some n ∧ e.chan = some c ∧
      e.pos = s.now ∧ e.event = ((s.expireAnchor c).planFor c).event ∧ e.lateness = none := by
  have chan : ((s.withPlan n c epoch).slot n).chan = some c := by
    rw [withPlan, modSlot_slot]
    exact (expireAnchor_slotChan c n).trans held
  have now : (s.expireAnchor c).now = s.now := by rw [now, base_time (base_expireAnchor s c), now]
  exact ⟨_, List.getLast?_concat, rfl, rfl, chan, now, rfl, rfl⟩

/-- What the planner leaves: the reserved slot JOINING with its plan, and the TAKE entry last in the log. -/
theorem joinSchedule_joins {epoch : Nat} (reserved : s.ReservedFor c n) :
    let u := s.joinSchedule c epoch
    let p := (s.expireAnchor c).planFor c
    (u.slot n).state = .joining ∧ (u.slot n).chan = some c ∧ (u.slot n).epoch = some epoch ∧
      (u.slot n).joinOwed = true ∧ (u.slot n).join = some p ∧
      ∃ e, u.log.getLast? = some e ∧ e.kind = .take ∧ e.slot = some n ∧ e.chan = some c ∧ e.pos = s.now ∧
        e.event = p.event ∧ e.lateness = none := by
  intro u p
  have held : (s.slot n).chan = some c := reserved.1.2
  have log := handPlan_log (epoch := epoch) held
  have chan : ((s.expireAnchor c).slot n).chan = some c := (expireAnchor_slotChan c n).trans held
  have slot := handPlan_slot s n c epoch
  have handed : ∃ a, u.slot n = { (s.handPlan n c epoch).slot n with armed := a } ∧
      u.log = (s.handPlan n c epoch).log := by
    obtain plain | armed := joinSchedule_reserved (epoch := epoch) reserved
    · exact ⟨_, by rw [show u = _ from plain], congrArg State.log plain⟩
    · rw [show u = _ from armed]
      obtain same | ⟨a, arms⟩ := (s.handPlan n c epoch).armIfReady_eq n
      · rw [same]
        exact ⟨_, rfl, rfl⟩
      · rw [arms, modSlot_slot]
        exact ⟨_, rfl, rfl⟩
  obtain ⟨a, slotted, logged⟩ := handed
  rw [slotted, logged, slot]
  exact ⟨rfl, chan, rfl, rfl, rfl, log⟩

/-! ### The echo of the TAKE (R119) -/

section
variable {k : Claim} {epoch : Nat}

theorem takeEchoed_other (other : (s.view c).contest ≠ .taking) : s.takeEchoed c k epoch = s := if_neg other

variable (taking : (s.view c).contest = .taking)
include taking

theorem takeEchoed_accepted (judged : judgeTake s.me (s.view c) (s.chan c).epoch s.me epoch k = .accepted) :
    s.takeEchoed c k epoch = ((((s.acceptTake c s.me epoch (some k)).modView c fun v =>
      { v with contest := .taken, window := none }).joinSchedule c epoch).endCurrent).look := by
  simp only [takeEchoed, taking, judged, if_true]

theorem takeEchoed_refused (judged : judgeTake s.me (s.view c) (s.chan c).epoch s.me epoch k ≠ .accepted) :
    s.takeEchoed c k epoch = (((s.freeReserved c).modView c fun v =>
      { v with contest := .deferred, own := none, window := none, rival := none }).endCurrent).look := by
  cases verdict : judgeTake s.me (s.view c) (s.chan c).epoch s.me epoch k with
  | accepted => exact absurd verdict judged
  | notAccepted | duplicate => simp only [takeEchoed, taking, verdict, if_true]

end

end State

end Sys2Proof.Machine

namespace Sys2Proof.PeersAndClaims

open Sys2Proof.Machine

/-- Settles O36: the echo by its contest and its judgement; the holder and its join; the plan and where it starts. -/
theorem takeEchoMakesTheHolder : Obligations.TakeEchoMakesTheHolder := by
  refine ⟨fun s c k epoch echoed => ?echo, fun s c => ⟨?plan, fun a before e after => ChannelRec.fromStart_anchored,
    fun gone => ?start⟩⟩
  case echo =>
    intro t verdict
    have taken : exec .takeEcho s = .next (t.takeEchoed c k epoch).review :=
      congrArg Host.Outcome.next (State.echo_taken s _ _ _ echoed)
    refine ⟨fun other => ?_, fun taking refused => ?_, fun taking accepted => ?_⟩
    · rw [taken, State.takeEchoed_other other]
    · rw [taken, State.takeEchoed_refused taking refused]
      rfl
    · intro h u
      have held := State.heldBy_acceptTake t c t.me epoch (some k)
      have view : u.view c = { t.view c with
          holder := some t.me, holderEpoch := epoch, holderClaim := some k, orphanSource := none, contest := .taken
          window := none } := by
        rw [State.view_congr (State.joinSchedule_views h c epoch), State.modView_view, held.view]
      have base : h.base = t.base := State.base_acceptTake t c t.me epoch (some k)
      rw [view]
      refine ⟨?_, rfl, rfl, rfl, rfl, ?_, fun n reserved here first => ?_⟩
      · rw [taken, State.takeEchoed_accepted taking accepted]
        rfl
      · exact State.planFor_join t _ c ((State.base_expireAnchor h c).trans base)
      · have now : h.now = t.now := by rw [State.now, State.base_time base, State.now]
        have reserved : h.ReservedFor c n := State.ReservedFor.congr ⟨⟨reserved, here⟩, first⟩ held.slots
        rw [← now]
        exact State.joinSchedule_joins reserved
  case plan =>
    refine ⟨_, rfl, ?_⟩
    cases (s.chan c).anchor <;> simp
  case start =>
    rw [ChannelRec.fromStart_unanchored gone]
    obtain ⟨past, first⟩ := firstNotPast_split (s.chan c).list
    exact ⟨_, List.takeWhile_append_dropWhile.symm, past, first⟩

end Sys2Proof.PeersAndClaims

/-! ## The join planner's table (R129 to R136) -/

namespace Sys2Proof.Machine

variable {r : Rate} {cfg : Settings} {basis : Basis} {slate : Nat} {j q : Pos} {events : List Rec} {e : Rec}

/-! ### Covering events and next events (R129) -/

theorem Rec.covers_iff (r : Rate) (j : Pos) (e : Rec) : e.covers r j = true ↔
    (e.derived.eclipsed = false ∧ e.derived.past = false) ∧ ∃ q, e.derived.start = some q ∧ 0 ≤ Pos.diff r q j ∧
      ((∃ z, e.derived.stop = some z ∧ 0 < Pos.diff r j z) ∨
        (e.derived.stop = none ∧ ∃ d, e.stated.stop = .openEnd d)) := by
  cases starts : e.derived.start with
  | none => simp [Rec.covers, starts]
  | some q =>
    cases stops : e.derived.stop with
    | some z => simp [Rec.covers, starts, stops, Pos.atOrPast_iff, Pos.after_iff]
    | none => cases ends : e.stated.stop <;> simp [Rec.covers, starts, stops, ends, Pos.atOrPast_iff]

theorem Rec.startsAfter_iff (r : Rate) (j : Pos) (e : Rec) : e.startsAfter r j = true ↔
    (e.derived.eclipsed = false ∧ e.derived.past = false) ∧
      ∃ q, e.derived.start = some q ∧ 0 < Pos.diff r j q := by
  cases starts : e.derived.start <;> simp [Rec.startsAfter, starts, Pos.after_iff]

/-- A covering event has started. -/
theorem offset_nonneg (found : events.find? (Rec.covers r j) = some e) (starts : e.derived.start = some q) :
    0 ≤ Pos.diff r q j := by
  obtain ⟨_, p, starts', begun, _⟩ := (Rec.covers_iff r j e).mp (List.find?_some found)
  rwa [Option.some.inj (starts.symm.trans starts')]

/-! ### The kind by the offset (R130) -/

section
variable {o : Nat} (late : 0 < o)
include late

theorem coveredKind_grace (early : o ≤ cfg.grace) : coveredKind r cfg j e o = .grace := by
  rw [coveredKind, if_neg late.ne', if_pos early]

theorem coveredKind_skip (past : cfg.grace < o) (skips : e.stated.join = .whole ∨
    ∃ z, e.derived.stop = some z ∧ Pos.diff r j z < cfg.tailMargin) : coveredKind r cfg j e o = .skip := by
  rw [coveredKind, if_neg late.ne', if_neg past.not_ge]
  split
  next => rfl
  next joinable =>
    obtain ⟨z, stops, close⟩ := skips.resolve_left joinable
    simp only [stops, if_pos close]

theorem coveredKind_mid (past : cfg.grace < o) (joinable : e.stated.join = .joinable)
    (far : ¬∃ z, e.derived.stop = some z ∧ Pos.diff r j z < cfg.tailMargin) : coveredKind r cfg j e o = .mid := by
  rw [coveredKind, if_neg late.ne', if_neg past.not_ge, joinable, if_neg (by decide)]
  split
  next z stops => exact if_neg fun close => far ⟨z, stops, close⟩
  next => rfl

end

/-! ### The plan by the kind (R131 to R136) -/

@[simp] theorem makePlan_basis (r : Rate) (cfg : Settings) (basis : Basis) (slate : Nat) (j : Pos) (events : List Rec) :
    (makePlan r cfg basis slate j events).basis = basis := by
  unfold makePlan
  dsimp only
  (repeat' split) <;> rfl

section
variable (found : events.find? (Rec.covers r j) = some e) (starts : e.derived.start = some q)
include found starts

theorem makePlan_fromStart {kind : PlanKind} (judged : coveredKind r cfg j e (Pos.diff r q j).toNat = kind)
    (plays : kind ≠ .skip) (whole : kind ≠ .mid) : makePlan r cfg basis slate j events =
      { kind := kind, basis := basis, join := j, event := some e.stated.id, offset := (Pos.diff r q j).toNat,
        source := e.stated.source, material := e.stated.source.cuedAt 0, actual := some j, fillEnd := none } := by
  simp only [makePlan, found, starts, Option.getD_some, judged]

theorem makePlan_skip (judged : coveredKind r cfg j e (Pos.diff r q j).toNat = .skip) :
    makePlan r cfg basis slate j events =
      { kind := .skip, basis := basis, join := j, event := some e.stated.id, offset := (Pos.diff r q j).toNat,
        source := .slate slate, material := none, actual := some q, fillEnd := e.derived.stop } := by
  simp only [makePlan, found, starts, Option.getD_some, judged]

theorem makePlan_mid (judged : coveredKind r cfg j e (Pos.diff r q j).toNat = .mid) :
    makePlan r cfg basis slate j events =
      { kind := .mid, basis := basis, join := j, event := some e.stated.id, offset := (Pos.diff r q j).toNat,
        source := e.stated.source, material := e.stated.source.cuedAt (Pos.diff r q j).toNat, actual := some q
        fillEnd := none } := by
  simp only [makePlan, found, starts, Option.getD_some, judged]

end

section
variable (uncovered : events.find? (Rec.covers r j) = none)
include uncovered

theorem makePlan_gapSlate (next : events.find? (Rec.startsAfter r j) = some e) :
    makePlan r cfg basis slate j events =
      { kind := .gapSlate, basis := basis, join := j, event := some e.stated.id, offset := 0, source := .slate slate
        material := none, actual := none, fillEnd := e.derived.start } := by
  simp only [makePlan, uncovered, next]

theorem makePlan_endOfSchedule (ended : events.find? (Rec.startsAfter r j) = none) :
    makePlan r cfg basis slate j events =
      { kind := .endOfSchedule, basis := basis, join := j, event := none, offset := 0, source := .slate slate
        material := none, actual := none, fillEnd := none } := by
  simp only [makePlan, uncovered, ended]

end

end Sys2Proof.Machine

namespace Sys2Proof.JoiningTheSchedule

open Sys2Proof.Machine

/-- Settles O37: the events the planner finds, and the plan by the covering event's offset or by the next event. -/
theorem joinPlansFollowTheTable : Obligations.JoinPlansFollowTheTable := by
  intro r cfg basis slate j events p
  refine ⟨makePlan_join r cfg basis slate j events, makePlan_basis r cfg basis slate j events,
    fun e => ⟨Rec.covers_iff r j e, Rec.startsAfter_iff r j e⟩, ?covered, fun uncovered => ⟨?next, ?ended⟩⟩
  case covered =>
    intro e q found starts o tail played filled
    refine ⟨offset_nonneg found starts, ?whole, ?grace, ?skip, ?mid⟩
    case whole =>
      intro prompt
      have plan : p = _ := makePlan_fromStart found starts (if_pos prompt) (by decide) (by decide)
      simp [played, plan, o]
    case grace =>
      intro late early
      have plan : p = _ := makePlan_fromStart found starts (coveredKind_grace late early) (by decide) (by decide)
      simp [played, plan, o]
    case skip =>
      intro late past skips
      have plan : p = _ := makePlan_skip found starts (coveredKind_skip late past skips)
      simp [filled, plan, o]
    case mid =>
      intro late past joinable far
      have plan : p = _ := makePlan_mid found starts (coveredKind_mid late past joinable far)
      simp [played, plan, o]
  case next =>
    intro e next
    have plan : p = _ := makePlan_gapSlate uncovered next
    rw [plan]
    exact ⟨rfl, rfl, rfl, rfl, rfl⟩
  case ended =>
    intro ended
    have plan : p = _ := makePlan_endOfSchedule uncovered ended
    rw [plan]
    exact ⟨rfl, rfl, rfl, rfl, rfl⟩

end Sys2Proof.JoiningTheSchedule

/-! ## What a walk changes in the slot of its channel (R147, R149, R153, R157) -/

namespace Sys2Proof.Machine

/-! ### The anchor's event stays in the list (R23, R24) -/

theorem findEvent_isSome_iff {id : Nat} {l : List Rec} :
    (findEvent id l).isSome = true ↔ ∃ e ∈ l, e.stated.id = id := by
  induction l with
  | nil => simp [findEvent, splitAt]
  | cons e l ih =>
    by_cases here : e.stated.id = id
    · simp [findEvent, splitAt, here]
    · simpa [findEvent, splitAt, here] using ih

theorem splitAt_of_findEvent {id : Nat} {l : List Rec} {e : Rec} (found : findEvent id l = some e) :
    ∃ before after, splitAt id l = some (before, e, after) := by
  obtain ⟨⟨before, x, after⟩, split, same⟩ := Option.map_eq_some_iff.mp found
  exact ⟨before, after, by rw [split, ← same]⟩

/-- Lists that agree in what the walk leaves have the same first event of an id. -/
theorem findEvent_of_map_fixed {id : Nat} {l m : List Rec} {e : Rec} (same : l.map Rec.fixed = m.map Rec.fixed)
    (found : findEvent id m = some e) : ∃ x, findEvent id l = some x ∧ x.fixed = e.fixed := by
  induction l generalizing m with
  | nil =>
    rw [List.map_eq_nil_iff.mp same.symm] at found
    cases found
  | cons x l ih =>
    cases m with
    | nil => cases found
    | cons y m =>
      obtain ⟨head, tail⟩ := List.cons.inj same
      have ids : x.stated.id = y.stated.id := congrArg (fun f => f.2.1.id) head
      by_cases here : y.stated.id = id
      · rw [findEvent, splitAt, if_pos here] at found
        refine ⟨x, by rw [findEvent, splitAt, if_pos (ids.trans here)]; rfl, ?_⟩
        rw [← Option.some.inj found]
        exact head
      · have skip (z : Rec) (zs : List Rec) (other : z.stated.id ≠ id) :
            findEvent id (z :: zs) = findEvent id zs := by simp [findEvent, splitAt, other, Function.comp_def]
        rw [skip y m here] at found
        rw [skip x l (ids ▸ here)]
        exact ih tail found

/-- A walk marks no event past that the anchor stands on. -/
theorem mem_markPastList {r : Rate} {now : Pos} {a : Anchor} {l : List Rec} {e : Rec}
    (found : findEvent a.event l = some e) : e ∈ markPastList r now (some a) l := by
  obtain ⟨before, after, split⟩ := splitAt_of_findEvent found
  rw [markPastList_found r now a l before after e split]
  simp

/-- Trimming takes past events only. -/
theorem mem_trimList {l : List Rec} {e : Rec} (mem : e ∈ l) (open_ : e.derived.past = false) :
    e ∈ (trimList l).2 := by
  have kept : e ∈ l.filter fun e => !e.derived.past := List.mem_filter.mpr ⟨mem, by rw [open_]; rfl⟩
  rw [← (takePast_spec (pastCount l - 4) l).2.2] at kept
  exact (List.mem_filter.mp kept).1

theorem findEvent_clearPastFrom {id : Nat} {l : List Rec} {e : Rec} (found : findEvent id l = some e) :
    ∃ x, findEvent id (clearPastFrom id l) = some x ∧ x.derived.past = false := by
  obtain ⟨before, after, split⟩ := splitAt_of_findEvent found
  obtain ⟨_, named, earlier⟩ := splitAt_eq_some.mp split
  rw [clearPastFrom_some split]
  cases past : e.derived.past with
  | false => exact ⟨e, found, past⟩
  | true => exact ⟨_, findEvent_of_splitAt (splitAt_eq_some.mpr ⟨rfl, named, earlier⟩), rfl⟩

/-- What the walk of its channel writes in a slot: the armed next cue, the cue end with the state that goes by it, and
the pending occurrences. -/
def Slot.reread (x : Slot) (a : Option Armed) (e : Option Pos) (due : List Occ) (next : List Nat) : Slot :=
  { x with armed := a, cur := x.cur.map fun q => { q with cueEnd := e }, state := x.state.byEnd e, pending := due
           nextRepeat := next }

/-- A slot without what a walk of its channel writes in it. -/
def Slot.unread (x : Slot) : Slot :=
  { x with armed := none, cur := x.cur.map fun q => { q with cueEnd := none }, state := .onAir, pending := []
           nextRepeat := [] }

@[simp] theorem Slot.unread_reread (x : Slot) (a : Option Armed) (e : Option Pos) (due : List Occ) (next : List Nat) :
    (x.reread a e due next).unread = x.unread := by
  simp [Slot.unread, Slot.reread, Function.comp_def]

/-- The slot is ON AIR while its cue end is a position and HOLDING while it is not (R144, R147). -/
def Slot.GoesByEnd (x : Slot) : Prop :=
  x.state = if (x.cur.bind Cue.cueEnd).isSome = true then .onAir else .holding

theorem Slot.goesByEnd_reread {x : Slot} {cue : Cue} (air : x.state = .onAir) (current : x.cur = some cue)
    (a : Option Armed) (e : Option Pos) (due : List Occ) (next : List Nat) : (x.reread a e due next).GoesByEnd := by
  simp only [Slot.GoesByEnd, Slot.reread, air, current, Option.map_some, Option.bind_some]
  rfl

theorem Slot.GoesByEnd.cases {x : Slot} (h : x.GoesByEnd) : x.state = .onAir ∨ x.state = .holding := by
  rw [h]
  split
  · exact .inl rfl
  · exact .inr rfl

namespace State

variable {s t : State} {c d f : Chan} {n m : SlotId}

/-! ### The slot that holds a channel -/

theorem holdingSlot_eq_some : s.holdingSlot c = some n ↔
    ((s.slot n).state.holds = true ∧ (s.slot n).chan = some c) ∧
      ∀ m, m < n → ((s.slot m).state.holds && decide ((s.slot m).chan = some c)) = false := by
  rw [holdingSlot, find_slot_eq_some, Bool.and_eq_true, decide_eq_true_eq]

theorem holdingSlot_congr (same : t.slots = s.slots) : t.holdingSlot c = s.holdingSlot c := by
  rw [holdingSlot, holdingSlot]
  exact congrArg (fun p => (List.finRange 8).find? p) (funext fun m => by rw [slot_congr same])

/-- A change of the slot that holds a channel lets it hold that channel on. -/
theorem holdingSlot_modSlot {g : Slot → Slot} (holding : s.holdingSlot c = some n)
    (holds : (g (s.slot n)).state.holds = true) (chan : (g (s.slot n)).chan = some c) :
    (s.modSlot n g).holdingSlot c = some n := by
  obtain ⟨_, lower⟩ := holdingSlot_eq_some.mp holding
  refine holdingSlot_eq_some.mpr ⟨by rw [modSlot_slot]; exact ⟨holds, chan⟩, fun m below => ?_⟩
  rw [modSlot_slot_other _ _ _ _ below.ne']
  exact lower m below

/-! ### The other slots -/

theorem armIfReady_slot_other (other : n ≠ m) : (s.armIfReady n).slot m = s.slot m := by
  obtain same | ⟨a, armed⟩ := s.armIfReady_eq n
  · rw [same]
  · rw [armed, modSlot_slot_other _ _ _ _ other]

theorem rearm_slot_other (other : n ≠ m) : (s.rearm n).slot m = s.slot m := by
  unfold rearm
  dsimp only
  (repeat' split) <;> simp [modSlot_slot_other, armIfReady_slot_other, other]

theorem refreshEnd_slot_other (other : n ≠ m) : (s.refreshEnd n).slot m = s.slot m := by
  unfold refreshEnd
  split <;> simp [modSlot_slot_other, other]

theorem refill_slot_other (other : n ≠ m) : (s.refill n).slot m = s.slot m := by
  unfold refill
  split <;> simp [modSlot_slot_other, other]

theorem loseEvent_slot_other {id : Nat} (other : n ≠ m) : (s.loseEvent n c id).slot m = s.slot m := by
  unfold loseEvent
  dsimp only
  split <;> simp [modSlot_slot_other, armIfReady_slot_other, other]

theorem afterWalk_slot_other (away : s.holdingSlot c ≠ some m) : (s.afterWalk c).slot m = s.slot m := by
  unfold afterWalk
  split
  next => rfl
  next n holding =>
    have other : n ≠ m := fun same => away (holding.trans (congrArg some same))
    dsimp only
    rw [refill_slot_other other, refreshEnd_slot_other other]
    split
    · exact loseEvent_slot_other other
    · exact rearm_slot_other other

theorem walkedState_trim_slot (s : State) (c : Chan) (m : SlotId) : ((s.walkedState c).trim c).slot m = s.slot m :=
  slot_congr (trim_slots _ c) m

theorem walkOwn_slot_away (away : s.holdingSlot c ≠ some m) : (s.walkOwn c).slot m = s.slot m := by
  cases watched : (s.chan c).watched with
  | false => rw [walkOwn_of_unwatched s watched]
  | true =>
    rw [walkOwn_of_watched s watched, afterWalk_slot_other, walkedState_trim_slot]
    rwa [holdingSlot_congr (trim_slots _ c)]

/-- The walks of other channels leave a channel's slot. -/
theorem foldl_walkOwn_slot {fs : List Chan} (others : ∀ f ∈ fs, c ≠ f) (held : (s.slot n).chan = some c) :
    (fs.foldl (fun t f => t.walkOwn f) s).slot n = s.slot n := by
  induction fs generalizing s with
  | nil => rfl
  | cons f fs ih =>
    obtain ⟨other, others⟩ := List.forall_mem_cons.mp others
    have away : s.holdingSlot f ≠ some n := fun holding =>
      other (Option.some.inj (held.symm.trans (holdingSlot_eq_some.mp holding).1.2))
    have stands : (s.walkOwn f).slot n = s.slot n := walkOwn_slot_away away
    rw [List.foldl_cons, ih others (stands ▸ held), stands]

theorem walk_slot (held : (s.slot n).chan = some c) : (s.walk c).slot n = (s.walkOwn c).slot n :=
  foldl_walkOwn_slot (fun _ follower => ne_of_mem_followersOf s follower) ((walkOwn_slotChan c n).trans held)

theorem walk_chan (s : State) (c : Chan) : (s.walk c).chan c = (s.walkOwn c).chan c :=
  foldl_walkOwn_chan (fun _ follower => ne_of_mem_followersOf s follower) _

theorem walkOwn_anchor (s : State) (c : Chan) : ((s.walkOwn c).chan c).anchor = (s.chan c).anchor := by
  cases watched : (s.chan c).watched with
  | false => rw [walkOwn_of_unwatched s watched]
  | true => rw [walkOwn_chan s watched]

/-! ### The slot itself -/

theorem rearm_slot (s : State) (n : SlotId) : ∃ a, (s.rearm n).slot n = { s.slot n with armed := a } := by
  unfold rearm
  dsimp only
  split
  next =>
    obtain same | ⟨a, armed⟩ := s.armIfReady_eq n
    · exact ⟨_, by rw [same]⟩
    · exact ⟨_, by rw [armed, modSlot_slot]⟩
  next =>
    split
    · exact ⟨_, rfl⟩
    · (repeat' split) <;> exact ⟨_, modSlot_slot _ _ _⟩

theorem refreshEnd_slot {cue : Cue} (held : (s.slot n).chan = some c) (current : (s.slot n).cur = some cue) :
    (s.refreshEnd n).slot n = { s.slot n with
      cur := some { cue with cueEnd := s.cueEndOf n c cue }
      state := (s.slot n).state.byEnd (s.cueEndOf n c cue) } := by
  simp only [refreshEnd, held, current, modSlot_slot]

theorem refill_slot (s : State) (n : SlotId) :
    ∃ due next, (s.refill n).slot n = { s.slot n with pending := due, nextRepeat := next } := by
  unfold refill
  split
  next => exact ⟨_, _, modSlot_slot _ _ _⟩
  next => exact ⟨_, _, rfl⟩

theorem afterWalk_slot {cue : Cue} (holding : s.holdingSlot c = some n) (current : (s.slot n).cur = some cue)
    (kept : s.lostEvent n c = none) :
    ∃ a e due next, (s.afterWalk c).slot n = (s.slot n).reread a e due next := by
  obtain ⟨a, armed⟩ := s.rearm_slot n
  have held : ((s.rearm n).slot n).chan = some c := by rw [armed]; exact (holdingSlot_eq_some.mp holding).1.2
  have same : ((s.rearm n).slot n).cur = some cue := by rw [armed]; exact current
  have ended := refreshEnd_slot held same
  obtain ⟨due, next, refilled⟩ := ((s.rearm n).refreshEnd n).refill_slot n
  refine ⟨a, (s.rearm n).cueEndOf n c cue, due, next, ?_⟩
  simp only [afterWalk, holding, kept]
  rw [refilled, ended, armed, Slot.reread, current]
  rfl

/-- An event that the list holds is not lost (R153). -/
theorem lostEvent_listed {cue : Cue} {id : Nat} (current : (s.slot n).cur = some cue) (event : cue.event = some id)
    (listed : (findEvent id (s.chan c).list).isSome = true) : s.lostEvent n c = none := by
  simp only [lostEvent, current, Option.bind_some, event, listed, if_true]

/-- The event of the anchor, where it is not past, is in the list after the walk. -/
theorem walked_lists_anchor {a : Anchor} {e : Rec} (stands : (s.chan c).anchor = some a)
    (found : findEvent a.event (s.chan c).list = some e) (open_ : e.derived.past = false) :
    (findEvent a.event (trimList (s.walked c)).2).isSome = true := by
  obtain ⟨x, present, fixed⟩ := findEvent_of_map_fixed
    (walkList_map_fixed s.rate s.now (s.leaderStart c) (s.chan c).anchor (s.chan c).list) found
  have past : x.derived.past = false := (congrArg (fun f => f.2.2) fixed).trans open_
  have named : x.stated.id = a.event := by
    obtain ⟨_, _, split⟩ := splitAt_of_findEvent present
    exact (splitAt_eq_some.mp split).2.1
  refine findEvent_isSome_iff.mpr ⟨x, mem_trimList ?_ past, named⟩
  rw [walked, stands]
  exact mem_markPastList (stands ▸ present)

/-! ### An anchor written for the current event (R23, R33, R140) -/

/-- The anchor written, before the walk that goes with it. -/
def anchored (s : State) (c : Chan) (a : Anchor) : State :=
  s.modChan c fun ch => { ch with anchor := some a, list := clearPastFrom a.event ch.list }

theorem writeAnchor_eq (s : State) (c : Chan) (a : Anchor) : s.writeAnchor c a = (s.anchored c a).walk c := rfl

theorem anchored_chan (s : State) (c : Chan) (a : Anchor) : (s.anchored c a).chan c =
    { s.chan c with anchor := some a, list := clearPastFrom a.event (s.chan c).list } := modChan_chan s c _

theorem writeAnchor_anchor (s : State) (c : Chan) (a : Anchor) : ((s.writeAnchor c a).chan c).anchor = some a := by
  rw [writeAnchor_eq, walk_chan, walkOwn_anchor, anchored_chan]

section
variable {cue : Cue} {a : Anchor} {e : Rec} (held : (s.slot n).chan = some c) (current : (s.slot n).cur = some cue)
  (event : cue.event = some a.event) (found : findEvent a.event (s.chan c).list = some e)
include held current event found

/-- The walk at the anchor of its current event rereads the slot that holds the channel. -/
theorem writeAnchor_slot_holding (holding : s.holdingSlot c = some n) (watched : (s.chan c).watched = true) :
    ∃ a' e' due next, (s.writeAnchor c a).slot n = (s.slot n).reread a' e' due next := by
  have record := s.anchored_chan c a
  have watched : ((s.anchored c a).chan c).watched = true := by rw [record]; exact watched
  obtain ⟨x, present, open_⟩ := findEvent_clearPastFrom found
  have listed := walked_lists_anchor (s := s.anchored c a) (c := c) (a := a) (by rw [record])
    (by rw [record]; exact present) open_
  let u := ((s.anchored c a).walkedState c).trim c
  have slot : u.slot n = s.slot n := walkedState_trim_slot _ c n
  have kept : u.lostEvent n c = none := by
    refine lostEvent_listed (slot ▸ current) event ?_
    rw [trim_chan, walkedState_chan]
    exact listed
  have holding : u.holdingSlot c = some n := (holdingSlot_congr (trim_slots _ c)).trans holding
  obtain ⟨a', e', due, next, read⟩ := afterWalk_slot holding (slot ▸ current) kept
  refine ⟨a', e', due, next, ?_⟩
  rw [writeAnchor_eq, walk_slot (s := s.anchored c a) held, walkOwn_of_watched _ watched, read, slot]

/-- A slot of the channel is reread by that walk, or left as it is. -/
theorem writeAnchor_slot : (s.writeAnchor c a).slot n = s.slot n ∨
    ∃ a' e' due next, (s.writeAnchor c a).slot n = (s.slot n).reread a' e' due next := by
  by_cases holding : s.holdingSlot c = some n ∧ (s.chan c).watched = true
  · exact .inr (writeAnchor_slot_holding held current event found holding.1 holding.2)
  · refine .inl ?_
    rw [writeAnchor_eq, walk_slot (s := s.anchored c a) held]
    cases watched : (s.chan c).watched with
    | false =>
      have unwatched : ((s.anchored c a).chan c).watched = false := by rw [anchored_chan]; exact watched
      rw [walkOwn_of_unwatched _ unwatched]
      rfl
    | true => exact walkOwn_slot_away fun holds => holding ⟨holds, watched⟩

theorem writeAnchor_unread : ((s.writeAnchor c a).slot n).unread = (s.slot n).unread := by
  obtain same | ⟨_, _, _, _, read⟩ := writeAnchor_slot held current event found
  · rw [same]
  · rw [read, Slot.unread_reread]

end

end State

end Sys2Proof.Machine

/-! ## A slot's steps before its third (R146, R150, R158) -/

namespace Sys2Proof.Machine.State

variable {s : State} {n : SlotId} {c : Chan} {p : Plan}

/-- The state of a slot, its channel and its join cue. -/
def bound (s : State) (n : SlotId) : SlotState × Option Chan × Option Plan :=
  ((s.slot n).state, (s.slot n).chan, (s.slot n).join)

theorem modSlot_bound {g : Slot → Slot}
    (keeps : ∀ x, (g x).state = x.state ∧ (g x).chan = x.chan ∧ (g x).join = x.join) :
    (s.modSlot n g).bound n = s.bound n := by
  obtain ⟨state, chan, join⟩ := keeps (s.slot n)
  rw [bound, modSlot_slot, state, chan, join, bound]

theorem step1_bound (s : State) (n : SlotId) : (s.step1 n).bound n = s.bound n := by
  unfold step1
  refine (modSlot_bound ?_).trans (foldl_keeps (fun t => t.bound n) (fun t l => ?_) _ s)
  · exact fun x => ⟨rfl, rfl, rfl⟩
  · split
    · exact modSlot_bound (s := t.emit n (.line l false)) fun x => ⟨rfl, rfl, rfl⟩
    · rfl

theorem step2_bound (s : State) (n : SlotId) : (s.step2 n).bound n = s.bound n := by
  unfold step2
  (repeat' split)
  · exact modSlot_bound fun x => ⟨rfl, rfl, rfl⟩
  · rfl
  · rfl

theorem takeStep_taken {i : Nat} {f : State → State} (taken : i ≤ (s.slot n).stepsDone) : s.takeStep n i f = s :=
  if_neg taken.not_gt

theorem takeStep_due {i : Nat} {f : State → State} (due : (s.slot n).stepsDone < i)
    (holds : (s.slot n).state.holds = true) :
    s.takeStep n i f = (f s).modSlot n fun x => { x with stepsDone := i } := by
  rw [takeStep, if_pos due, if_pos holds]

theorem takeStep_stepsDone {i : Nat} {f : State → State} (due : (s.slot n).stepsDone ≤ i) :
    ((s.takeStep n i f).slot n).stepsDone = i := by
  unfold takeStep
  split
  next => rw [modSlot_slot]
  next taken => exact Nat.le_antisymm due (Nat.le_of_not_gt taken)

theorem takeStep_bound {i : Nat} {f : State → State} (keeps : ∀ t, (f t).bound n = t.bound n) :
    (s.takeStep n i f).bound n = s.bound n := by
  unfold takeStep
  split
  · refine (modSlot_bound ?_).trans ?_
    · exact fun x => ⟨rfl, rfl, rfl⟩
    · split
      · exact keeps s
      · rfl
  · rfl

/-- A slot's own work up to step 2. -/
theorem slotThrough_two (s : State) (n : SlotId) : s.slotThrough n 2 = s.firstSteps n := by
  simp [slotThrough, firstSteps, slotStep]

theorem slotThrough_three (s : State) (n : SlotId) :
    s.slotThrough n 3 = (s.slotThrough n 2).takeStep n 3 fun t => t.step3 n := by
  simp [slotThrough, slotStep]

theorem slotThrough_two_done (done : 2 ≤ (s.slot n).stepsDone) : s.slotThrough n 2 = s := by
  rw [slotThrough_two, firstSteps, takeStep_taken (i := 1) (Nat.le_of_succ_le done), takeStep_taken done]

theorem firstSteps_stepsDone (due : (s.slot n).stepsDone ≤ 2) : ((s.firstSteps n).slot n).stepsDone = 2 := by
  refine takeStep_stepsDone ?_
  by_cases first : (s.slot n).stepsDone ≤ 1
  · rw [takeStep_stepsDone first]
    decide
  · rw [takeStep_taken (Nat.le_of_not_ge first)]
    exact due

theorem firstSteps_bound (s : State) (n : SlotId) : (s.firstSteps n).bound n = s.bound n :=
  (takeStep_bound fun t => step2_bound t n).trans (takeStep_bound fun t => step1_bound t n)

/-- A command of a slot's third step comes to that step once the two before it are taken. -/
theorem slotTo_three (opened : s.time.frameOpen = true) (due : ((s.atStep.slotThrough n 2).slot n).stepsDone = 2)
    (holds : ((s.atStep.slotThrough n 2).slot n).state.holds = true) : s.slotTo n 3 =
      (((s.atStep.slotThrough n 2).step3 n).modSlot n fun x => { x with stepsDone := 3 }).review := by
  have third := takeStep_due (i := 3) (f := fun t => t.step3 n) (by rw [due]; decide) holds
  rw [slotTo, atFrame_open _ _ opened, ← third, ← slotThrough_three]
  rfl

/-! ## The join cue issued and fired at its step (R13, R137, R140) -/

/-! ### The CUE owed (R137) -/

theorem issueJoinCue_paid (paid : (s.slot n).joinOwed = false) : s.issueJoinCue n = s := by
  unfold issueJoinCue
  split
  · rw [paid]; rfl
  · rfl

section
variable (joins : (s.slot n).join = some p) (owed : (s.slot n).joinOwed = true)
include joins owed

theorem issueJoinCue_clip {m : List Byte} {i q : Nat} (clip : p.source = .clip m i) (material : p.material = some q) :
    s.issueJoinCue n = (s.emit n (.cue m q)).modSlot n fun x => { x with joinOwed := false } := by
  simp only [issueJoinCue, joins, owed, clip, material, if_true]

theorem issueJoinCue_bare (bare : p.material = none) :
    s.issueJoinCue n = s.modSlot n fun x => { x with joinOwed := false } := by
  simp only [issueJoinCue, joins, owed, bare, if_true]
  cases p.source <;> rfl

end

/-! ### The third step of a JOINING slot (R13, R137, R140) -/

section
variable (joining : (s.slot n).state = .joining) (held : (s.slot n).chan = some c) (joins : (s.slot n).join = some p)
include joining held joins

theorem step3_waits (ahead : s.reached p.join = false) : s.step3 n = s.issueJoinCue n := by
  simp only [step3, held, joining, joins, ahead, Bool.false_eq_true, if_false]

theorem step3_fires (there : s.reached p.join = true) : s.step3 n =
    let u := (s.issueJoinCue n).fireJoin n c p
    if u.armedAfter n p.join then u.fireDue n c else u := by
  simp only [step3, held, joining, joins, there, if_true]

end

/-- An armed cue due after the join point and reached fires behind the join cue (R13). -/
theorem armedBehind_fires {j : Pos} {a : Armed} (armed : (s.slot n).armed = some a)
    (behind : Pos.after s.rate a.firePos j = true) (there : s.reached a.firePos = true) :
    (if s.armedAfter n j then s.fireDue n c else s) =
      (s.fireArmed n c a a.lateBy).handOff s n c (s.keyOf c a.event) := by
  simp only [armedAfter, armed, Option.elim_some, behind, fireDue, there, if_true]

theorem armedBehind_waits {j : Pos} (waits : ∀ a, (s.slot n).armed = some a →
    Pos.after s.rate a.firePos j = false ∨ s.reached a.firePos = false) :
    (if s.armedAfter n j then s.fireDue n c else s) = s := by
  cases armed : (s.slot n).armed with
  | none => simp only [armedAfter, armed, Option.elim_none, Bool.false_eq_true, if_false]
  | some a =>
    obtain before | ahead := waits a armed
    · simp only [armedAfter, armed, Option.elim_some, before, Bool.false_eq_true, if_false]
    · simp only [fireDue, armed, ahead, Bool.false_eq_true, if_false, ite_self]

end Sys2Proof.Machine.State

/-! ## The fire of a join cue (R134 to R136, R139, R140) -/

namespace Sys2Proof.Machine

/-- A slot that puts a join's cue to air, before the tally watch of a CLIP begins (R140). -/
def Slot.joined (x : Slot) (cue : Cue) : Slot :=
  { x.clearWatch with
      state := .onAir, join := none, joinOwed := false, cur := some cue, pending := [], nextRepeat := []
      fired := true }

theorem Slot.unread_event (x : Slot) : x.unread.cur.bind Cue.event = x.cur.bind Cue.event := by
  cases cur : x.cur <;> simp [Slot.unread, cur]

/-- What a current cue is besides its event and its end: its source, its fire position, its actual start and its
material position. -/
def Cue.shown (q : Cue) : Source × Pos × Pos × Option Nat := (q.source, q.firePos, q.actual, q.material)

theorem Slot.unread_shown (x : Slot) : x.unread.cur.map Cue.shown = x.cur.map Cue.shown := by
  cases cur : x.cur <;> simp [Slot.unread, cur, Cue.shown]

/-- No restart, fault or confirmation stands in the slot (R151). -/
def Slot.Untroubled (x : Slot) : Prop :=
  x.restarts = 0 ∧ x.restartPlay = none ∧ x.faultPending = false ∧ x.faultDue = false ∧ x.confirmed = false

theorem Slot.Untroubled.of_unread {x y : Slot} (h : y.Untroubled) (same : x.unread = y.unread) : x.Untroubled := by
  have unread : x.unread.Untroubled := same ▸ (show y.unread.Untroubled from h)
  exact unread

theorem Source.isClip_of_clip {src : Source} (clip : ∃ m i, src = .clip m i) : src.isClip = true := by
  obtain ⟨m, i, rfl⟩ := clip
  rfl

theorem Source.isClip_of_other {src : Source} (other : ∀ m i, src ≠ .clip m i) : src.isClip = false := by
  cases src with
  | clip m i => exact absurd rfl (other m i)
  | live _ | slate _ => rfl

namespace State

variable {s : State} {n : SlotId} {c : Chan} {p : Plan} {e : Rec} {start : Pos}

/-! ### Entries about what a slot holds (R175, R176) -/

theorem slotEntry_out (s : State) (n : SlotId) (kind : AsRunKind) (event : Option Nat) (lateness : Option Int) :
    (s.slotEntry n kind event lateness).out = s.out := rfl

theorem slotEntry_log (s : State) (n : SlotId) (kind : AsRunKind) (event : Option Nat) (lateness : Option Int) :
    (s.slotEntry n kind event lateness).log = (if s.log.length < 512 then s.log else s.log.drop 1) ++
      [⟨s.logNext, s.now, kind, some n, (s.slot n).chan, event, lateness, none, none⟩] := rfl

theorem slotEntry_getLast? (s : State) (n : SlotId) (kind : AsRunKind) (event : Option Nat) (lateness : Option Int) :
    (s.slotEntry n kind event lateness).log.getLast? =
      some ⟨s.logNext, s.now, kind, some n, (s.slot n).chan, event, lateness, none, none⟩ := List.getLast?_concat

/-- The entry before the last is still held. -/
theorem slotEntry_behind (s : State) (n : SlotId) (kind : AsRunKind) (event : Option Nat) (lateness : Option Int)
    {xs : List AsRun} {z : AsRun} (log : s.log = xs ++ [z]) : ∃ ys, (s.slotEntry n kind event lateness).log =
      ys ++ [z, ⟨s.logNext, s.now, kind, some n, (s.slot n).chan, event, lateness, none, none⟩] := by
  rw [slotEntry_log, log]
  split
  next => exact ⟨xs, List.append_assoc _ _ _⟩
  next full =>
    cases xs with
    | nil => exact absurd (by simp) full
    | cons x xs => exact ⟨xs, List.append_assoc _ _ _⟩

/-! ### What a join shows (R139, R140) -/

/-- The source a join puts to air: the default slate for a SKIP, else the plan's (R134, R140). -/
def joinSource (s : State) (c : Chan) (p : Plan) : Source :=
  if p.kind = .skip then .slate (s.defaultSlate c) else p.source

theorem joinSource_skip (skip : p.kind = .skip) : s.joinSource c p = .slate (s.defaultSlate c) := if_pos skip
theorem joinSource_played (plays : p.kind ≠ .skip) : s.joinSource c p = p.source := if_neg plays

theorem joinSource_fireWord (s : State) (c : Chan) (p : Plan) : (s.joinSource c p).fireWord =
    if p.kind = .skip then .slate (s.defaultSlate c) else p.source.fireWord := by
  unfold joinSource
  split <;> rfl

/-- The current cue a join gives (R140, R147). -/
def joinCue (s : State) (c : Chan) (p : Plan) (e : Rec) (start : Pos) : Cue :=
  { event := some e.stated.id, source := s.joinSource c p, firePos := p.join, actual := s.now, material := p.material
    cueEnd := none, anchored := start, cues := if p.kind = .skip then [] else e.stated.cues }

/-- The join's source at air and its event the current cue, before the anchor is written (R140). -/
def joinShown (s : State) (n : SlotId) (c : Chan) (p : Plan) (e : Rec) (start : Pos) : State :=
  let t := (s.emit n (s.joinSource c p).fireWord).modSlot n fun x => x.joined (s.joinCue c p e start)
  if (s.joinSource c p).isClip then t.startWatch n else t

/-- The join's event at air with its AIR anchor, before its entries are written (R140). -/
def joinAired (s : State) (n : SlotId) (c : Chan) (p : Plan) (e : Rec) (start : Pos) : State :=
  (s.joinShown n c p e start).writeAnchor c ⟨e.stated.id, start, .air, s.now⟩

/-- The join of an event that plays, its FIRED entry written (R140, R151). -/
def joinPlayed (s : State) (n : SlotId) (c : Chan) (p : Plan) (e : Rec) (start : Pos) : State :=
  let t := s.joinAired n c p e start
  (t.slotEntry n .fired (some e.stated.id) (if p.kind = .wholeStart then none else some p.offset)).modSlot n fun x =>
    { x with firedSeq := some t.logNext }

/-- The join of an event that is skipped, its SKIPPED and SLATE FILL entries written (R134). -/
def joinSkipped (s : State) (n : SlotId) (c : Chan) (p : Plan) (e : Rec) (start : Pos) : State :=
  ((s.joinAired n c p e start).slotEntry n .skipped (some e.stated.id) (some p.offset)).slotEntry n .slateFill none none

section
variable (event : p.event = some e.stated.id) (listed : findEvent e.stated.id (s.chan c).list = some e)
  (starts : p.actual = some start)
include event listed starts

theorem fireJoin_played (plays : p.kind ≠ .skip) :
    s.fireJoin n c p = (s.joinPlayed n c p e start).handOff s n c e.stated.lockKey := by
  simp only [fireJoin, event, Option.bind_some, listed, starts, plays, ne_eq, not_false_eq_true, decide_true, if_true,
    Bool.true_and, joinPlayed, joinAired, joinShown, joinCue, joinSource_played plays, if_false]
  rfl

theorem fireJoin_skipped (skip : p.kind = .skip) : s.fireJoin n c p = s.joinSkipped n c p e start := by
  simp only [fireJoin, event, Option.bind_some, listed, starts, skip, ne_eq, not_true_eq_false, decide_false,
    Bool.false_eq_true, if_false, Bool.false_and, joinSkipped, joinAired, joinShown, joinCue, joinSource_skip skip,
    if_true, Source.isClip]
  rfl

end

theorem fireJoin_fill (gone : p.actual = none ∨ p.event.bind (fun id => findEvent id (s.chan c).list) = none) :
    s.fireJoin n c p = s.joinFill n c := by
  unfold fireJoin
  split
  next e start found starts =>
    obtain unstarted | absent := gone
    · cases starts.symm.trans unstarted
    · cases found.symm.trans absent
  next => rfl

/-! ### The slot as the join shows it, before the anchor (R140, R151) -/

theorem joinShown_slot (s : State) (n : SlotId) (c : Chan) (p : Plan) (e : Rec) (start : Pos) :
    (s.joinShown n c p e start).slot n =
      let x := (s.slot n).joined (s.joinCue c p e start)
      if (s.joinSource c p).isClip then
        { x with expectedBy := some (s.now.add s.rate s.cfg.confirm), sincePlay := 0, highSincePlay := x.tally
                 confirmed := false, playPos := some s.now }
      else x := by
  unfold joinShown
  dsimp only
  split
  · rw [startWatch_slot, modSlot_slot]; rfl
  · rw [modSlot_slot]; rfl

theorem joinShown_told (s : State) (n : SlotId) (c : Chan) (p : Plan) (e : Rec) (start : Pos) :
    (s.joinShown n c p e start).told = (s.emit n (s.joinSource c p).fireWord).told := by
  unfold joinShown
  dsimp only
  split <;> rfl

theorem joinShown_chans (s : State) (n : SlotId) (c : Chan) (p : Plan) (e : Rec) (start : Pos) :
    (s.joinShown n c p e start).chans = s.chans := by
  unfold joinShown
  dsimp only
  split <;> rfl

theorem joinShown_cur : ((s.joinShown n c p e start).slot n).cur = some (s.joinCue c p e start) := by
  rw [joinShown_slot]
  dsimp only
  split <;> rfl

theorem joinShown_bound : (s.joinShown n c p e start).bound n = (.onAir, (s.slot n).chan, none) := by
  rw [bound, joinShown_slot]
  dsimp only
  split <;> rfl

theorem joinShown_untroubled : ((s.joinShown n c p e start).slot n).Untroubled := by
  rw [joinShown_slot]
  dsimp only
  split <;> exact ⟨rfl, rfl, rfl, rfl, rfl⟩

theorem joinShown_holding (holding : s.holdingSlot c = some n) :
    (s.joinShown n c p e start).holdingSlot c = some n := by
  have shown : ((s.emit n (s.joinSource c p).fireWord).modSlot n fun x =>
      x.joined (s.joinCue c p e start)).holdingSlot c = some n :=
    holdingSlot_modSlot (s := s.emit n (s.joinSource c p).fireWord) holding rfl (holdingSlot_eq_some.mp holding).1.2
  unfold joinShown
  dsimp only
  split
  · obtain ⟨⟨holds, held⟩, _⟩ := holdingSlot_eq_some.mp shown
    exact holdingSlot_modSlot shown holds held
  · exact shown

theorem joinShown_held (held : (s.slot n).chan = some c) : ((s.joinShown n c p e start).slot n).chan = some c :=
  (congrArg (fun b => b.2.1) joinShown_bound).trans held

theorem joinShown_listed (listed : findEvent e.stated.id (s.chan c).list = some e) :
    findEvent e.stated.id ((s.joinShown n c p e start).chan c).list = some e := by
  rw [chan_congr (joinShown_chans s n c p e start)]
  exact listed

/-! ### The slot at the join's anchor (R140, R147, R151) -/

theorem joinAired_told (s : State) (n : SlotId) (c : Chan) (p : Plan) (e : Rec) (start : Pos) :
    (s.joinAired n c p e start).told = (s.emit n (s.joinSource c p).fireWord).told :=
  (writeAnchor_told _ _ _).trans (joinShown_told s n c p e start)

theorem joinAired_now (s : State) (n : SlotId) (c : Chan) (p : Plan) (e : Rec) (start : Pos) :
    (s.joinAired n c p e start).now = s.now := by
  have base : (s.joinShown n c p e start).base = s.base := by
    unfold joinShown
    dsimp only
    split <;> rfl
  exact congrArg TimeBase.pos (base_time ((base_writeAnchor _ _ _).trans base))

theorem joinAired_anchor (s : State) (n : SlotId) (c : Chan) (p : Plan) (e : Rec) (start : Pos) :
    ((s.joinAired n c p e start).chan c).anchor = some ⟨e.stated.id, start, .air, s.now⟩ := writeAnchor_anchor _ _ _

section
variable (held : (s.slot n).chan = some c) (listed : findEvent e.stated.id (s.chan c).list = some e)
include held listed

/-- The walk at the join's anchor rereads the slot that shows it, or leaves it. -/
theorem joinAired_unread :
    ((s.joinAired n c p e start).slot n).unread = ((s.joinShown n c p e start).slot n).unread :=
  writeAnchor_unread (joinShown_held held) joinShown_cur rfl (joinShown_listed listed)

theorem joinAired_event : ((s.joinAired n c p e start).slot n).cur.bind Cue.event = some e.stated.id := by
  rw [← Slot.unread_event, joinAired_unread held listed, Slot.unread_event, joinShown_cur]
  rfl

theorem joinAired_shown : ((s.joinAired n c p e start).slot n).cur.map Cue.shown =
    some (s.joinSource c p, p.join, s.now, p.material) := by
  rw [← Slot.unread_shown, joinAired_unread held listed, Slot.unread_shown, joinShown_cur]
  rfl

theorem joinAired_chan : ((s.joinAired n c p e start).slot n).chan = some c :=
  (congrArg Slot.chan (joinAired_unread held listed)).trans (joinShown_held held)

theorem joinAired_join : ((s.joinAired n c p e start).slot n).join = none :=
  (congrArg Slot.join (joinAired_unread held listed)).trans (congrArg (fun b => b.2.2) joinShown_bound)

theorem joinAired_untroubled : ((s.joinAired n c p e start).slot n).Untroubled :=
  joinShown_untroubled.of_unread (joinAired_unread held listed)

/-- The window of a CLIP is open to now plus W, its count at 0, with its PLAY position now (R151 step 8; log 28). -/
theorem joinAired_window_open (clip : (s.joinSource c p).isClip = true) :
    let y := (s.joinAired n c p e start).slot n
    y.expectedBy = some (s.now.add s.rate s.cfg.confirm) ∧ y.sincePlay = 0 ∧ y.highSincePlay = (s.slot n).tally ∧
      y.playPos = some s.now := by
  have unread := joinAired_unread held listed (p := p) (start := start)
  rw [joinShown_slot] at unread
  simp only [clip, if_true] at unread
  exact ⟨congrArg Slot.expectedBy unread, congrArg Slot.sincePlay unread, congrArg Slot.highSincePlay unread,
    congrArg Slot.playPos unread⟩

theorem joinAired_window_none (other : (s.joinSource c p).isClip = false) :
    ((s.joinAired n c p e start).slot n).expectedBy = none := by
  have unread := joinAired_unread held listed (p := p) (start := start)
  rw [joinShown_slot] at unread
  simp only [other, Bool.false_eq_true, if_false] at unread
  exact congrArg Slot.expectedBy unread

theorem joinAired_goesByEnd (holding : s.holdingSlot c = some n) (watched : (s.chan c).watched = true) :
    ((s.joinAired n c p e start).slot n).GoesByEnd := by
  have watches : ((s.joinShown n c p e start).chan c).watched = true :=
    (congrArg ChannelRec.watched (chan_congr (joinShown_chans s n c p e start) c)).trans watched
  obtain ⟨_, _, _, _, read⟩ := writeAnchor_slot_holding (a := ⟨e.stated.id, start, .air, s.now⟩)
    (joinShown_held held) joinShown_cur rfl (joinShown_listed listed) (joinShown_holding holding) watches
  rw [joinAired, read]
  exact Slot.goesByEnd_reread (congrArg Prod.fst joinShown_bound) joinShown_cur _ _ _ _

theorem joinAired_state : ((s.joinAired n c p e start).slot n).state = .onAir ∨
    ((s.joinAired n c p e start).slot n).state = .holding := by
  have air : ((s.joinShown n c p e start).slot n).state = .onAir := congrArg Prod.fst joinShown_bound
  obtain same | ⟨_, _, _, _, read⟩ := writeAnchor_slot (a := ⟨e.stated.id, start, .air, s.now⟩)
    (joinShown_held held) joinShown_cur rfl (joinShown_listed listed)
  · rw [joinAired, same]
    exact .inl air
  · rw [joinAired, read]
    exact (Slot.goesByEnd_reread air joinShown_cur _ _ _ _).cases

end

theorem joinAired_out : (s.joinAired n c p e start).out = s.out ++ [.word n (s.joinSource c p).fireWord] := by
  rw [told_out (joinAired_told s n c p e start), emit_out]

theorem joinPlayed_slot : (s.joinPlayed n c p e start).slot n =
    { (s.joinAired n c p e start).slot n with firedSeq := some (s.joinAired n c p e start).logNext } := by
  unfold joinPlayed
  rw [modSlot_slot, slot_congr (slotEntry_slots _ _ _ _ _)]

theorem joinPlayed_chan (d : Chan) : (s.joinPlayed n c p e start).chan d = (s.joinAired n c p e start).chan d := by
  unfold joinPlayed
  rw [modSlot_chan, chan_congr (slotEntry_chans _ _ _ _ _)]

theorem joinPlayed_out : (s.joinPlayed n c p e start).out = s.out ++ [.word n (s.joinSource c p).fireWord] := by
  unfold joinPlayed
  rw [modSlot_out, slotEntry_out, joinAired_out]

theorem joinSkipped_slot (m : SlotId) :
    (s.joinSkipped n c p e start).slot m = (s.joinAired n c p e start).slot m := by
  unfold joinSkipped
  rw [slot_congr (slotEntry_slots _ _ _ _ _), slot_congr (slotEntry_slots _ _ _ _ _)]

theorem joinSkipped_chan (d : Chan) : (s.joinSkipped n c p e start).chan d = (s.joinAired n c p e start).chan d := by
  unfold joinSkipped
  rw [chan_congr (slotEntry_chans _ _ _ _ _), chan_congr (slotEntry_chans _ _ _ _ _)]

theorem joinSkipped_out : (s.joinSkipped n c p e start).out = s.out ++ [.word n (s.joinSource c p).fireWord] := by
  unfold joinSkipped
  rw [slotEntry_out, slotEntry_out, joinAired_out]

/-- The FIRED entry of a join is the log's last. -/
theorem joinPlayed_last : (s.joinPlayed n c p e start).log.getLast? = some
    ⟨(s.joinAired n c p e start).logNext, s.now, .fired, some n, ((s.joinAired n c p e start).slot n).chan,
      some e.stated.id, if p.kind = .wholeStart then none else some p.offset, none, none⟩ := by
  rw [← joinAired_now s n c p e start]
  exact slotEntry_getLast? _ _ _ _ _

/-- The SLATE FILL entry of a SKIP is the log's last, behind its SKIPPED entry (R134). -/
theorem joinSkipped_last : ∃ ys seq seq', (s.joinSkipped n c p e start).log = ys ++
    [⟨seq, s.now, .skipped, some n, ((s.joinAired n c p e start).slot n).chan, some e.stated.id, some p.offset, none,
        none⟩,
      ⟨seq', s.now, .slateFill, some n, ((s.joinAired n c p e start).slot n).chan, none, none, none, none⟩] := by
  obtain ⟨ys, log⟩ := slotEntry_behind
    ((s.joinAired n c p e start).slotEntry n .skipped (some e.stated.id) (some p.offset)) n .slateFill none none
    (slotEntry_log _ _ _ _ _)
  rw [← joinAired_now s n c p e start]
  exact ⟨ys, _, _, log⟩

/-! ### The join fill (R135, R136) -/

/-- The slot that shows a join fill, its cue end not yet read. -/
def fillShown (s : State) (n : SlotId) (c : Chan) : State :=
  (s.emit n (.slate (s.defaultSlate c))).modSlot n fun x => x.joined (fillCue s.now (s.defaultSlate c))

theorem joinFill_eq (s : State) (n : SlotId) (c : Chan) :
    s.joinFill n c = ((s.fillShown n c).refreshEnd n).slotEntry n .slateFill none none := rfl

theorem joinFill_slot (held : (s.slot n).chan = some c) : ∃ e, (s.joinFill n c).slot n =
    { (s.slot n).joined { fillCue s.now (s.defaultSlate c) with cueEnd := e } with
      state := SlotState.byEnd .onAir e } := by
  have shown : (s.fillShown n c).slot n = (s.slot n).joined (fillCue s.now (s.defaultSlate c)) :=
    modSlot_slot _ n _
  have ended := refreshEnd_slot (s := s.fillShown n c) (by rw [shown]; exact held) (congrArg Slot.cur shown)
  exact ⟨_, by rw [joinFill_eq, slot_congr (slotEntry_slots _ _ _ _ _), ended, shown]; rfl⟩

theorem joinFill_chans : (s.joinFill n c).chans = s.chans := by
  rw [joinFill_eq, slotEntry_chans, refreshEnd_chans]
  rfl

theorem joinFill_out : (s.joinFill n c).out = s.out ++ [.word n (.slate (s.defaultSlate c))] :=
  told_out (refreshEnd_told (s.fillShown n c) n)

end State

end Sys2Proof.Machine

namespace Sys2Proof.JoiningTheSchedule

open Sys2Proof.Machine

/-- Settles O38: the commands at step 3, the steps before it, the fire of an event that plays before its hand-off, and
every fire without one. -/
theorem joinCuesAreIssuedAndFired : Obligations.JoinCuesAreIssuedAndFired := by
  refine ⟨fun n s c p opened => ?commands, fun n s => ?steps, ?played, fun n s c p held => ?fired⟩
  case commands =>
    intro t done due joining held joins
    have taken : s.slotTo n 3 = (done (t.step3 n)).review :=
      State.slotTo_three opened due (congrArg SlotState.holds joining)
    have issue : exec (.joinCueIssue n) s = .next (done (t.step3 n)).review := congrArg Host.Outcome.next taken
    have fire : exec (.joinCueFire n) s = .next (done (t.step3 n)).review := congrArg Host.Outcome.next taken
    have waits (ahead : t.reached p.join = false) : t.step3 n = t.issueJoinCue n :=
      State.step3_waits joining held joins ahead
    refine ⟨fun ahead paid => ?_, fun m i q ahead owed clip material => ?_, fun ahead owed bare => ?_,
      fun there => ?_⟩
    · rw [issue, fire, waits ahead, State.issueJoinCue_paid paid]
      exact ⟨rfl, rfl⟩
    · rw [issue, waits ahead, State.issueJoinCue_clip joins owed clip material]
    · rw [issue, waits ahead, State.issueJoinCue_bare joins owed bare]
    · intro u
      have fires := State.step3_fires joining held joins there
      refine ⟨fun waiting => ?_, fun a armed behind reached => ?_⟩
      · rw [fire, fires]
        exact congrArg (fun v => Host.Outcome.next (done v).review) (State.armedBehind_waits waiting)
      · rw [fire, fires]
        exact congrArg (fun v => Host.Outcome.next (done v).review) (State.armedBehind_fires armed behind reached)
  case steps =>
    have bound := State.firstSteps_bound s n
    rw [State.slotThrough_two]
    exact ⟨rfl, fun done => State.slotThrough_two s n ▸ State.slotThrough_two_done done,
      fun due => ⟨State.firstSteps_stepsDone due, congrArg Prod.fst bound, congrArg (fun b => b.2.1) bound,
        congrArg (fun b => b.2.2) bound⟩⟩
  case played =>
    intro n s c p e start held event plays listed starts
    have source : s.joinSource c p = p.source := State.joinSource_played plays
    obtain ⟨restarts, restartPlay, faultPending, faultDue, confirmed⟩ :=
      State.joinAired_untroubled (p := p) (start := start) held listed
    refine ⟨s.joinPlayed n c p e start, State.fireJoin_played event listed starts plays, ?_⟩
    rw [State.joinPlayed_out, State.joinPlayed_chan, State.joinPlayed_slot, State.joinPlayed_last, source]
    refine ⟨rfl, State.joinAired_anchor s n c p e start, State.joinAired_event held listed, ?_, restarts, restartPlay,
      faultPending, faultDue, confirmed, rfl, fun clip => ?_, fun other => ?_, State.joinAired_goesByEnd held listed⟩
    · rw [← source]
      exact State.joinAired_shown held listed
    · exact State.joinAired_window_open held listed (source ▸ Source.isClip_of_clip clip)
    · exact State.joinAired_window_none held listed (source ▸ Source.isClip_of_other other)
  case fired =>
    intro u slate
    refine ⟨fun e start event listed starts quiet => ?event, fun gone => ?fill⟩
    case event =>
      have chan := State.joinAired_chan (p := p) (start := start) held listed
      have airs := State.joinAired_event (p := p) (start := start) held listed
      have joins := State.joinAired_join (p := p) (start := start) held listed
      have state := State.joinAired_state (p := p) (start := start) held listed
      have anchor := State.joinAired_anchor s n c p e start
      have word := State.joinSource_fireWord s c p
      by_cases skip : p.kind = .skip
      · have joined : u = s.joinSkipped n c p e start := State.fireJoin_skipped event listed starts skip
        have noClip : (s.joinSource c p).isClip = false := by rw [State.joinSource_skip skip]; rfl
        obtain ⟨restarts, restartPlay, faultPending, _, _⟩ :=
          State.joinAired_untroubled (p := p) (start := start) held listed
        obtain ⟨ys, seq, seq', log⟩ := State.joinSkipped_last (s := s) (n := n) (c := c) (p := p) (e := e)
          (start := start)
        rw [joined, State.joinSkipped_slot, State.joinSkipped_chan, State.joinSkipped_out, word]
        refine ⟨airs, joins, chan, state, anchor, rfl,
          ⟨seq', s.now, .slateFill, some n, _, none, none, none, none⟩, ?_, rfl, rfl, chan, (if_pos skip).symm,
          fun plays => absurd skip plays, fun _ => ⟨rfl, rfl, ys, _, log, rfl, rfl, rfl, chan, rfl, rfl⟩,
          fun _ => ⟨State.joinAired_window_none held listed noClip, restarts, restartPlay, faultPending,
            State.joinAired_goesByEnd held listed⟩⟩
        rw [log]
        exact List.getLast?_append_cons _ _ _
      · have joined : u = s.joinPlayed n c p e start := by
          rw [show u = _ from State.fireJoin_played event listed starts skip, quiet.resolve_left skip]
          rfl
        rw [joined, State.joinPlayed_slot, State.joinPlayed_chan, State.joinPlayed_out, word]
        refine ⟨airs, joins, chan, state, anchor, rfl, _, State.joinPlayed_last, rfl, rfl, chan,
          (if_neg skip).symm, fun _ => ⟨rfl, ?_⟩, fun skips => absurd skips skip, fun skips => absurd skips skip⟩
        split <;> rfl
    case fill =>
      have filled : u = s.joinFill n c := State.fireJoin_fill gone
      obtain ⟨e, shown⟩ := State.joinFill_slot held
      rw [filled, shown]
      exact ⟨rfl, rfl, rfl, rfl, rfl, rfl, rfl, State.joinFill_chans, State.joinFill_out, _,
        State.slotEntry_getLast? _ _ _ _ _, rfl, rfl, rfl⟩

end Sys2Proof.JoiningTheSchedule

/-! ## What the other operations leave told (R175, R176)

The log changes only where an entry is written or confirmed. What an operation leaves told, its outputs, its log and the
next sequence number, is said here for the operations that `Laws/Leaves.lean` does not name; the operations of a slot,
which write, keep the log's form further down. -/

namespace Sys2Proof.Machine

theorem forChans_told (f : Chan → State → State) (h : ∀ c s, (f c s).told = s.told) (s : State) :
    (forChans f s).told = s.told := State.foldl_keeps State.told (fun s c => h c s) _ s

namespace State

/-! ### The line (R166, R174, R181 to R184, R189) -/

@[simp] theorem lineBecomesIdle_told (s : State) : s.lineBecomesIdle.told = s.told := rfl
@[simp] theorem lineBecomesBusy_told (s : State) : s.lineBecomesBusy.told = s.told := by
  unfold lineBecomesBusy; split <;> rfl
@[simp] theorem echoLost_told (s : State) : s.echoLost.told = s.told := rfl
@[simp] theorem beaconDue_told (s : State) : s.beaconDue.told = s.told := by
  unfold beaconDue; split <;> simp
@[simp] theorem answer_told (s : State) (dst : Addr) (tag : Nat) (code : ResultCode) (items : List (List Byte)) :
    (s.answer dst tag code items).told = s.told := foldl_keeps told (fun t _ => offerReply_told t _) _ s

/-! ### Edits, images and their timers (R37 to R59) -/

@[simp] theorem loadTimeout_told (s : State) (c : Chan) : (s.loadTimeout c).told = s.told := by
  unfold loadTimeout; (repeat' split) <;> simp
@[simp] theorem targetTimeout_told (s : State) (c : Chan) : (s.targetTimeout c).told = s.told := by
  unfold targetTimeout; (repeat' split) <;> simp
@[simp] theorem roundRestart_told (s : State) (c : Chan) : (s.roundRestart c).told = s.told := by
  unfold roundRestart; (repeat' split) <;> simp
@[simp] theorem parkedTimeout_told (s : State) (c : Chan) : (s.parkedTimeout c).told = s.told := by
  unfold parkedTimeout; (repeat' split) <;> simp
@[simp] theorem applyEdit_told (s : State) (c : Chan) (e : EditOp) : (s.applyEdit c e).told = s.told := by
  by_cases profile : ∃ p, e = .setProfile p
  · obtain ⟨p, rfl⟩ := profile
    simp [applyEdit]
  · push Not at profile
    have edited : (s.editedList c e).told = s.told := by unfold editedList; split <;> rfl
    rw [applyEdit_eq s c profile]
    simp [State.edited, edited]
@[simp] theorem takeDue_told (s : State) (c : Chan) (op : Byte) (operands : List Byte) :
    (s.takeDue c op operands).told = s.told := by
  obtain ⟨e, _, eq⟩ | ⟨code, eq⟩ := s.takeDue_cases c op operands <;> rw [eq] <;> simp
@[simp] theorem drainParked_told (c : Chan) (k : Nat) (s : State) : (drainParked c k s).told = s.told := by
  induction k generalizing s with
  | zero => rfl
  | succ k ih => unfold drainParked; dsimp only; (repeat' split) <;> simp [ih]
@[simp] theorem drain_told (s : State) (c : Chan) : (s.drain c).told = s.told := drainParked_told c 17 s
@[simp] theorem editAbove_told (s : State) (c : Chan) : (s.editAbove c).told = s.told := by
  unfold editAbove; split <;> simp
@[simp] theorem editNotCurrent_told (s : State) (c : Chan) (src : Addr) (epoch seq : Nat) (op : Byte)
    (operands : List Byte) : (s.editNotCurrent c src epoch seq op operands).told = s.told := by
  unfold editNotCurrent; (repeat' split) <;> simp
@[simp] theorem editCurrent_told (s : State) (c : Chan) (src : Addr) (epoch seq : Nat) (op : Byte)
    (operands : List Byte) : (s.editCurrent c src epoch seq op operands).told = s.told := by
  unfold editCurrent; dsimp only; (repeat' split) <;> simp
@[simp] theorem setWithheld_told (s : State) (c : Chan) : (s.setWithheld c).told = s.told := rfl
@[simp] theorem editArrives_told (s : State) (c : Chan) (src : Addr) (epoch seq : Nat) (op : Byte)
    (operands : List Byte) : (s.editArrives c src epoch seq op operands).told = s.told := by
  unfold editArrives; dsimp only; (repeat' split) <;> simp
@[simp] theorem abandonFor_told (s : State) (c : Chan) (cause : StaleCause) : (s.abandonFor c cause).told = s.told := by
  simp [abandonFor]
@[simp] theorem install_told (s : State) (c : Chan) (sh : Shadow) : (s.install c sh).told = s.told := by
  unfold install; dsimp only; split <;> simp
@[simp] theorem completeLoad_told (s : State) (c : Chan) : (s.completeLoad c).told = s.told := by
  unfold completeLoad; (repeat' split) <;> simp
@[simp] theorem storeSegment_told (s : State) (c : Chan) (g : Segment) : (s.storeSegment c g).told = s.told := by
  unfold storeSegment; dsimp only; (repeat' split) <;> simp
@[simp] theorem takeSegment_told (s : State) (c : Chan) (g : Segment) : (s.takeSegment c g).told = s.told := by
  unfold takeSegment; dsimp only; (repeat' split) <;> simp [openShadow, segmentAccepted]
@[simp] theorem imageArrives_told (s : State) (c : Chan) (src : Addr) (g : Segment) :
    (s.imageArrives c src g).told = s.told := by
  unfold imageArrives; dsimp only; (repeat' split) <;> simp
@[simp] theorem imagereqArrives_told (s : State) (src : Addr) (byte : Byte) :
    (s.imagereqArrives src byte).told = s.told := by
  unfold imagereqArrives; (repeat' split) <;> simp
@[simp] theorem startImage_told (s : State) (c : Chan) : (s.startImage c).told = s.told := rfl
@[simp] theorem queueSegment_told (s : State) (dst : Addr) (c : Chan) : (s.queueSegment dst c).told = s.told := by
  unfold queueSegment; (repeat' split) <;> rfl
@[simp] theorem serveNext_told (s : State) : s.serveNext.told = s.told := by
  unfold serveNext; (repeat' split) <;> simp
@[simp] theorem imageDone_told (s : State) (m : OutMsg) : (s.imageDone m).told = s.told := by
  unfold imageDone; (repeat' split) <;> simp
@[simp] theorem askEchoed_told (s : State) (c : Chan) (d : Addr) : (s.askEchoed c d).told = s.told := rfl

/-! ### Watching, peers and claims (R60 to R126) -/

@[simp] theorem frameWatch_told (s : State) (c : Chan) : (s.frameWatch c).told = s.told := by simp [frameWatch]
@[simp] theorem peerGone_told (s : State) (a : Addr) : (s.peerGone a).told = s.told := by
  unfold peerGone
  split
  · exact (modPeer_told ..).trans ((forChans_told _ (fun c t => by split <;> simp) _).trans (modPeer_told ..))
  · rfl
@[simp] theorem relayGone_told (s : State) (a : Addr) : (s.relayGone a).told = s.told := by
  unfold relayGone; split <;> rfl
@[simp] theorem silences_told (s : State) : s.silences.told = s.told :=
  (foldl_keeps told (fun t a => relayGone_told t a) _ _).trans (foldl_keeps told (fun t a => peerGone_told t a) _ s)
@[simp] theorem recordBeat_told (s : State) (c : Chan) (b : BeatEntry) : (s.recordBeat c b).told = s.told := rfl
@[simp] theorem judgeBeat_told (s : State) (c : Chan) (b : BeatEntry) : (s.judgeBeat c b).told = s.told := by
  unfold judgeBeat; dsimp only; (repeat' split) <;> simp
@[simp] theorem beatArrives_told (s : State) (raw : RawBeat) : (s.beatArrives raw).told = s.told := by
  unfold beatArrives; (repeat' split) <;> simp
theorem foldl_beatArrives_told (s : State) (entries : List RawBeat) :
    (entries.foldl beatArrives s).told = s.told := foldl_keeps told (fun t b => beatArrives_told t b) _ s
@[simp] theorem relaystateArrives_told (s : State) (a : Addr) (link : Nat) :
    (s.relaystateArrives a link).told = s.told := by unfold relaystateArrives; split <;> rfl
@[simp] theorem verdictArrives_told (s : State) (a : Addr) (chan verdict : Nat) :
    (s.verdictArrives a chan verdict).told = s.told := by unfold verdictArrives; (repeat' split) <;> rfl
@[simp] theorem giveVerdict_told (s : State) (p : ProbeId) : (s.giveVerdict p).told = s.told := by
  unfold giveVerdict; dsimp only; split <;> simp
@[simp] theorem formVerdict_told (s : State) (p : ProbeId) (v : Verdict) : (s.formVerdict p v).told = s.told := by
  unfold formVerdict; split <;> simp
@[simp] theorem judgeGrid_told (s : State) (p : ProbeId) (c : Chan) (lock : Bool) (cells : List Byte) :
    (s.judgeGrid p c lock cells).told = s.told := by unfold judgeGrid; dsimp only; split <;> simp
@[simp] theorem gridArrives_told (s : State) (probe : Nat) (lock : Bool) (cells : List Byte) :
    (s.gridArrives probe lock cells).told = s.told := by unfold gridArrives; (repeat' split) <;> simp
@[simp] theorem probeGone_told (s : State) (p : ProbeId) : (s.probeGone p).told = s.told := by
  unfold probeGone; split <;> simp
@[simp] theorem repeatVerdict_told (s : State) (p : ProbeId) : (s.repeatVerdict p).told = s.told := by
  unfold repeatVerdict; split <;> simp
@[simp] theorem offers_told (s : State) : s.offers.told = s.told := by
  unfold offers
  dsimp only
  refine (forChans_told _ (fun c t => askTarget_told t c) _).trans ?_
  exact (foldl_keeps told (fun t p => by simp) _ _).trans (by simp)
@[simp] theorem frameChannel_told (s : State) (c : Chan) : (s.frameChannel c).told = s.told := by simp [frameChannel]
@[simp] theorem deadWinner_told (s : State) (c : Chan) : (s.deadWinner c).told = s.told := by
  unfold deadWinner; dsimp only; (repeat' split) <;> simp
@[simp] theorem expireExclusions_told (s : State) (c : Chan) : (s.expireExclusions c).told = s.told := rfl
@[simp] theorem expireIneligible_told (s : State) (c : Chan) : (s.expireIneligible c).told = s.told := rfl
@[simp] theorem frameClaims_told (s : State) : s.frameClaims.told = s.told := by
  unfold frameClaims
  dsimp only
  rw [look_told, review_told, offerTake_told]
  exact forChans_told _ (fun c t => by simp) s
@[simp] theorem force_told (s : State) (c : Chan) : (s.force c).1.told = s.told := by
  have start : (s.forceStart c).1.told = s.told := by unfold forceStart; (repeat' split) <;> simp
  have resend : (s.forceResend c).1.told = s.told := by unfold forceResend; dsimp only; (repeat' split) <;> simp
  unfold force; dsimp only; (repeat' split) <;> simp [start, resend]
@[simp] theorem beaconDuplicate_told (s : State) (c : Chan) (a : Addr) (e : Nat) :
    (s.beaconDuplicate c a e).told = s.told := by unfold beaconDuplicate; dsimp only; (repeat' split) <;> simp
@[simp] theorem beaconHolder_told (s : State) (c : Chan) (a : Addr) (e : Nat) :
    (s.beaconHolder c a e).told = s.told := by unfold beaconHolder; dsimp only; split <;> simp
@[simp] theorem beaconEntry_told (s : State) (a : Addr) (c : Chan) (e : Nat) :
    (s.beaconEntry a c e).told = s.told := by unfold beaconEntry; (repeat' split) <;> simp
@[simp] theorem beaconArrives_told (s : State) (a : Addr) (b : RawBeacon) : (s.beaconArrives a b).told = s.told := by
  unfold beaconArrives
  dsimp only
  repeat' split
  · rfl
  · refine (forChans_told _ (fun c t => by split <;> simp) _).trans ?_
    exact (foldl_keeps told (fun t (x : Chan × Nat) => beaconEntry_told t a x.1 x.2) _ _).trans (modPeer_told ..)
  · rfl
@[simp] theorem claimEchoed_told (s : State) (c : Chan) (serial : Nat) : (s.claimEchoed c serial).told = s.told := by
  unfold claimEchoed; dsimp only; split <;> simp
@[simp] theorem claimArrives_told (s : State) (c : Chan) (a : Addr) (claim : Claim) :
    (s.claimArrives c a claim).told = s.told := by unfold claimArrives; dsimp only; (repeat' split) <;> simp
@[simp] theorem takeArrives_told (s : State) (c : Chan) (a : Addr) (claim : Claim) (epoch : Nat) :
    (s.takeArrives c a claim epoch).told = s.told := by unfold takeArrives; dsimp only; split <;> simp
@[simp] theorem releaseArrives_told (s : State) (c : Chan) (a : Addr) (reason : ReleaseReason) (ret : Option Nat) :
    (s.releaseArrives c a reason ret).told = s.told := by unfold releaseArrives; dsimp only; (repeat' split) <;> simp
@[simp] theorem endCurrent_told (s : State) : s.endCurrent.told = s.told := rfl
@[simp] theorem noticeEchoed_told (s : State) (c : Chan) (event : Nat) (h : Pos) (ret : Nat) :
    (s.noticeEchoed c event h ret).told = s.told := by unfold noticeEchoed; split <;> rfl

/-! ### Station states, restarts and the configuration (R198 to R203) -/

@[simp] theorem referenceChanged_told (s : State) : s.referenceChanged.told = s.told := by
  unfold referenceChanged; split <;> simp
@[simp] theorem openFrame_told (s : State) : s.openFrame.told = s.told := rfl
@[simp] theorem timePasses_told (s : State) (dt : Nat) : (s.timePasses dt).told = s.told := rfl
@[simp] theorem pulse_told (s : State) (dt : Nat) : (s.pulse dt).told = s.told := by
  unfold pulse; dsimp only; (repeat' split) <;> simp
@[simp] theorem loseReference_told (s : State) (dt : Nat) : (s.loseReference dt).told = s.told := by
  unfold loseReference; (repeat' split) <;> simp
@[simp] theorem substitute_told (s : State) (dt : Nat) : (s.substitute dt).told = s.told := by
  unfold substitute; (repeat' split) <;> simp
@[simp] theorem afterRelease_told (s : State) : s.afterRelease.told = s.told := by
  unfold afterRelease; split <;> rfl
@[simp] theorem watchChannel_told (s : State) (c : Chan) : (s.watchChannel c).told = s.told := by
  unfold watchChannel; split <;> rfl
@[simp] theorem handOver_told (s : State) (cfg : Settings) : (s.handOver cfg).told = s.told := by
  unfold handOver
  dsimp only
  rw [told_mk, told_eta, forChans_told _ (fun c t => watchChannel_told t c)]
  split <;> rfl
@[simp] theorem enterListening_told (s : State) : s.enterListening.told = s.told := by
  unfold enterListening
  dsimp only
  rw [forChans_told _ (fun c t => by split <;> simp)]
  simp
@[simp] theorem configured_told (s : State) (straps : BitVec 5) (block : Option (List Byte)) :
    (s.configured straps block).told = s.told := by unfold configured; dsimp only; split <;> simp
@[simp] theorem restartChannel_told (s : State) (c : Chan) : (s.restartChannel c).told = s.told := by
  unfold restartChannel; dsimp only; (repeat' split) <;> simp
/-- A soft restart keeps the log (R178). -/
@[simp] theorem enterStart_told (s : State) : s.enterStart.told = s.told := by
  unfold enterStart
  dsimp only
  rw [told_mk, told_eta, forChans_told _ (fun c t => walk_told t c), setRepl_told, told_mk, told_eta,
    forChans_told _ (fun c t => restartChannel_told t c)]
  rfl
@[simp] theorem endPhase_told (s : State) : s.endPhase.told = s.told := by
  unfold endPhase; (repeat' split) <;> simp

/-! ### The console commands (R155, R168 to R170, R191 to R197) -/

@[simp] theorem queryListCmd_told (s : State) (src : Addr) (tag : Nat) (c : Chan) (start count : Nat) :
    (s.queryListCmd src tag c start count).told = s.told := by unfold queryListCmd; (repeat' split) <;> simp
@[simp] theorem forceTakeCmd_told (s : State) (src : Addr) (tag : Nat) (c : Chan) :
    (s.forceTakeCmd src tag c).told = s.told := by unfold forceTakeCmd; (repeat' split) <;> simp
@[simp] theorem forceReleaseCmd_told (s : State) (src : Addr) (tag : Nat) (c : Chan) :
    (s.forceReleaseCmd src tag c).told = s.told := by unfold forceReleaseCmd; (repeat' split) <;> simp
@[simp] theorem inhibitCmd_told (s : State) (dst src : Addr) (tag : Nat) (c : Chan) (on : Bool) :
    (s.inhibitCmd dst src tag c on).told = s.told := by unfold inhibitCmd; (repeat' split) <;> simp
@[simp] theorem nextCommand_told (s : State) (src : Addr) (tag : Nat) (c : Chan) :
    (s.nextCommand src tag c).told = s.told := by unfold nextCommand; dsimp only; (repeat' split) <;> simp
@[simp] theorem handbackCmd_told (s : State) (src : Addr) (tag : Nat) (c : Chan) (at? : Option Nat) :
    (s.handbackCmd src tag c at?).told = s.told := by unfold handbackCmd; dsimp only; (repeat' split) <;> simp
@[simp] theorem editRequestCmd_told (s : State) (src : Addr) (tag : Nat) (c : Chan) (op : Byte)
    (operands : List Byte) : (s.editRequestCmd src tag c op operands).told = s.told := by
  unfold editRequestCmd; dsimp only; (repeat' split) <;> simp
@[simp] theorem restartCmd_told (s : State) (src : Addr) (tag : Nat) : (s.restartCmd src tag).told = s.told := by
  unfold restartCmd; dsimp only; (repeat' split) <;> simp

end State

end Sys2Proof.Machine


/-! ## What writes the as-run log keeps its form (R175, R176) -/

namespace Sys2Proof.Machine

/-- The second of two entries is numbered one above the first, on the ring of 2^32 (R176). -/
def AsRun.NextTo (a b : AsRun) : Prop := b.seq = (a.seq + 1) % 4294967296

/-- What an entry finds of the log: the whole of it, or of 512 entries all but the oldest (R176). -/
def roomMade (log : List AsRun) : List AsRun := if log.length < 512 then log else log.drop 1

theorem roomMade_length {log : List AsRun} (short : log.length ≤ 512) : (roomMade log).length < 512 := by
  unfold roomMade
  split
  · assumption
  · rw [List.length_drop]; omega

theorem roomMade_suffix (log : List AsRun) : roomMade log <:+ log := by
  unfold roomMade
  split
  · exact List.suffix_refl _
  · exact List.drop_suffix 1 _

namespace State

variable {s : State}

theorem risingByOne_iff (log : List AsRun) : risingByOne log ↔ log.IsChain AsRun.NextTo := by
  induction log with
  | nil => exact ⟨fun _ => .nil, fun _ => trivial⟩
  | cons a log ih =>
    cases log with
    | nil => exact ⟨fun _ => .singleton a, fun _ => trivial⟩
    | cons b log => rw [risingByOne, List.isChain_cons_cons, ih]; rfl

theorem LogSound.congr {t : State} (h : s.LogSound) (log : t.log = s.log) (next : t.logNext = s.logNext) :
    t.LogSound := by
  obtain ⟨short, fits, seqs, rising, last⟩ := h
  exact ⟨log ▸ short, next ▸ fits, log ▸ seqs, log ▸ rising, fun e he => next.trans (last e (log ▸ he))⟩

theorem logSound_congr {t : State} (log : t.log = s.log) (next : t.logNext = s.logNext) :
    t.LogSound ↔ s.LogSound := ⟨fun h => h.congr log.symm next.symm, fun h => h.congr log next⟩

theorem logSound_of_told {t : State} (told : t.told = s.told) : t.LogSound ↔ s.LogSound :=
  logSound_congr (told_log told) (told_logNext told)

/-- An entry written takes the number after the last one's, and the oldest of 512 makes room for it (R176). -/
@[simp] theorem LogSound.writeEntry (h : s.LogSound) (kind : AsRunKind) (slot : Option SlotId) (chan : Option Chan)
    (event : Option Nat) (lateness : Option Int) (reason : Option ReleaseReason) :
    (s.writeEntry kind slot chan event lateness reason).LogSound := by
  obtain ⟨short, next, fits, rising, last⟩ := h
  rw [risingByOne_iff] at rising
  have suffix : roomMade s.log <:+ s.log := roomMade_suffix s.log
  obtain ⟨before, whole⟩ := id suffix
  refine ⟨?short, Nat.mod_lt _ (by decide), fun e he => ?fits, (risingByOne_iff _).mpr ?rising, fun e he => ?last⟩
  case short => exact (List.length_append ..).trans_le (roomMade_length short)
  case fits =>
    obtain old | new := List.mem_append.mp he
    · exact fits e (suffix.subset old)
    · rw [List.mem_singleton.mp new]; exact next
  case rising =>
    refine List.isChain_append.mpr ⟨rising.suffix suffix, .singleton _, fun x hx y hy => ?_⟩
    cases hy
    refine last x ?_
    rw [← whole, List.getLast?_append, show (roomMade s.log).getLast? = some x from hx]
    rfl
  case last =>
    cases List.getLast?_concat.symm.trans he
    rfl

@[simp] theorem LogSound.slotEntry (h : s.LogSound) (n : SlotId) (kind : AsRunKind) (event : Option Nat)
    (lateness : Option Int) : (s.slotEntry n kind event lateness).LogSound := h.writeEntry ..

/-- A confirmation changes no entry's number (R159, R175). -/
@[simp] theorem LogSound.confirmEntry (h : s.LogSound) (seq : Nat) (p : Pos) : (s.confirmEntry seq p).LogSound := by
  obtain ⟨short, next, fits, rising, last⟩ := h
  rw [risingByOne_iff] at rising
  have numbered (e : AsRun) : (if e.seq = seq then
      { e with tally := if e.tally.isNone || Config.secondTally then some p else e.tally } else e).seq = e.seq := by
    split <;> rfl
  refine ⟨(List.length_map _).trans_le short, next, fun e he => ?fits, (risingByOne_iff _).mpr ?rising,
    fun e he => ?last⟩
  case fits =>
    obtain ⟨x, hx, rfl⟩ := List.mem_map.mp he
    rw [numbered]; exact fits x hx
  case rising =>
    refine (List.isChain_map _).mpr (rising.imp fun a b (step : b.seq = _) => ?_)
    rw [AsRun.NextTo, numbered, numbered, step]
  case last =>
    rw [State.confirmEntry, List.getLast?_map] at he
    obtain ⟨x, hx, rfl⟩ := Option.map_eq_some_iff.mp he
    rw [numbered]; exact last x hx

/-! ### What the writers of the log do beside writing -/

@[simp] theorem logSound_emit (n : SlotId) (w : CueWord) : (s.emit n w).LogSound ↔ s.LogSound :=
  logSound_congr rfl rfl
@[simp] theorem logSound_clearOut : s.clearOut.LogSound ↔ s.LogSound := logSound_congr rfl rfl
@[simp] theorem logSound_modSlot (n : SlotId) (f : Slot → Slot) : (s.modSlot n f).LogSound ↔ s.LogSound :=
  logSound_of_told (modSlot_told ..)
@[simp] theorem logSound_modView (c : Chan) (f : View → View) : (s.modView c f).LogSound ↔ s.LogSound :=
  logSound_of_told (modView_told ..)
@[simp] theorem logSound_setTime (f : TimeBase → TimeBase) : (s.setTime f).LogSound ↔ s.LogSound :=
  logSound_of_told (setTime_told ..)
@[simp] theorem logSound_startWatch (n : SlotId) : (s.startWatch n).LogSound ↔ s.LogSound :=
  logSound_of_told (startWatch_told ..)
@[simp] theorem logSound_takeCue (n : SlotId) (cue : Cue) : (s.takeCue n cue).LogSound ↔ s.LogSound :=
  logSound_of_told (takeCue_told ..)
@[simp] theorem logSound_leaveFallback (n : SlotId) (src : Source) : (s.leaveFallback n src).LogSound ↔ s.LogSound :=
  logSound_of_told (leaveFallback_told ..)
@[simp] theorem logSound_writeAnchor (c : Chan) (a : Anchor) : (s.writeAnchor c a).LogSound ↔ s.LogSound :=
  logSound_of_told (writeAnchor_told ..)
@[simp] theorem logSound_expireAnchor (c : Chan) : (s.expireAnchor c).LogSound ↔ s.LogSound :=
  logSound_of_told (expireAnchor_told ..)
@[simp] theorem logSound_refreshEnd (n : SlotId) : (s.refreshEnd n).LogSound ↔ s.LogSound :=
  logSound_of_told (refreshEnd_told ..)
@[simp] theorem logSound_armIfReady (n : SlotId) : (s.armIfReady n).LogSound ↔ s.LogSound :=
  logSound_of_told (armIfReady_told ..)
@[simp] theorem logSound_refill (n : SlotId) : (s.refill n).LogSound ↔ s.LogSound := logSound_of_told (refill_told ..)
@[simp] theorem logSound_offerCancel (m : OutMsg) : (s.offerCancel m).LogSound ↔ s.LogSound :=
  logSound_of_told (offerCancel_told ..)
@[simp] theorem logSound_offerRelease (m : OutMsg) : (s.offerRelease m).LogSound ↔ s.LogSound :=
  logSound_of_told (offerRelease_told ..)
@[simp] theorem logSound_mainReturns (c : Chan) (epoch : Option Nat) :
    (s.mainReturns c epoch).LogSound ↔ s.LogSound :=
  logSound_of_told (mainReturns_told ..)
@[simp] theorem logSound_restartHealth (c : Chan) : (s.restartHealth c).LogSound ↔ s.LogSound :=
  logSound_of_told (restartHealth_told ..)
@[simp] theorem logSound_authorityTest (c : Chan) : (s.authorityTest c).LogSound ↔ s.LogSound :=
  logSound_of_told (authorityTest_told ..)
@[simp] theorem logSound_acceptTake (c : Chan) (a : Addr) (epoch : Nat) (claim : Option Claim) :
    (s.acceptTake c a epoch claim).LogSound ↔ s.LogSound := logSound_of_told (acceptTake_told ..)
@[simp] theorem logSound_freeReserved (c : Chan) : (s.freeReserved c).LogSound ↔ s.LogSound :=
  logSound_of_told (freeReserved_told ..)
@[simp] theorem logSound_endCurrent : s.endCurrent.LogSound ↔ s.LogSound := logSound_of_told s.endCurrent_told
@[simp] theorem logSound_look : s.look.LogSound ↔ s.LogSound := logSound_of_told s.look_told
@[simp] theorem logSound_leaveHead : s.leaveHead.LogSound ↔ s.LogSound := logSound_of_told s.leaveHead_told
@[simp] theorem logSound_review : s.review.LogSound ↔ s.LogSound := logSound_of_told s.review_told
@[simp] theorem logSound_updateStation : s.updateStation.LogSound ↔ s.LogSound :=
  logSound_of_told s.updateStation_told
@[simp] theorem logSound_enterStart : s.enterStart.LogSound ↔ s.LogSound := logSound_of_told s.enterStart_told

/-! ### Releases (R164, R165, R173) -/

@[simp] theorem logSound_linesOff (n : SlotId) : (s.linesOff n).LogSound ↔ s.LogSound := by
  unfold linesOff
  generalize s.slot n = x, List.finRange 4 = ls
  induction ls generalizing s with
  | nil => rfl
  | cons l ls ih => rw [List.foldl_cons, ih]; split <;> simp
@[simp] theorem vacate_told (s : State) (n : SlotId) (c : Chan) : (s.vacate n c).told = s.told := by
  unfold vacate; dsimp only; split <;> simp
@[simp] theorem logSound_vacate (n : SlotId) (c : Chan) : (s.vacate n c).LogSound ↔ s.LogSound :=
  logSound_of_told (vacate_told ..)
@[simp] theorem releaseView_told (s : State) (c : Chan) (reason : ReleaseReason) :
    (s.releaseView c reason).told = s.told := by unfold releaseView; split <;> simp
@[simp] theorem logSound_releaseView (c : Chan) (reason : ReleaseReason) :
    (s.releaseView c reason).LogSound ↔ s.LogSound := logSound_of_told (releaseView_told ..)
@[simp] theorem LogSound.cancelPlan (h : s.LogSound) (n : SlotId) (c : Chan) (reason : ReleaseReason) :
    (s.cancelPlan n c reason).LogSound := by unfold State.cancelPlan; (repeat' split) <;> simp [h]
@[simp] theorem LogSound.releaseSlot (h : s.LogSound) (n : SlotId) (reason : ReleaseReason) :
    (s.releaseSlot n reason).LogSound := by
  unfold State.releaseSlot
  split
  · exact h
  · dsimp only
    cases reason <;> simp [h]
@[simp] theorem LogSound.releaseBy (h : s.LogSound) (n : SlotId) (reason : ReleaseReason) :
    (s.releaseBy n reason).LogSound := h.releaseSlot n _
@[simp] theorem LogSound.takeRelease (h : s.LogSound) (n : SlotId) : (s.takeRelease n).LogSound := by
  unfold State.takeRelease; split <;> simp [h]

/-! ### A slot's steps at a frame event (R127, R146 to R161, R172, R173) -/

@[simp] theorem LogSound.joinSchedule (h : s.LogSound) (c : Chan) (epoch : Nat) :
    (s.joinSchedule c epoch).LogSound := by unfold State.joinSchedule; dsimp only; (repeat' split) <;> simp [h]
@[simp] theorem LogSound.takeEchoed (h : s.LogSound) (c : Chan) (claim : Claim) (epoch : Nat) :
    (s.takeEchoed c claim epoch).LogSound := by unfold State.takeEchoed; dsimp only; (repeat' split) <;> simp [h]
@[simp] theorem LogSound.cutOutgoing (h : s.LogSound) (n : SlotId) (c : Chan) :
    (s.cutOutgoing n c).LogSound := by unfold State.cutOutgoing; dsimp only; (repeat' split) <;> simp [h]
@[simp] theorem LogSound.skipEntries (h : s.LogSound) (n : SlotId) (ids : List Nat) :
    (s.skipEntries n ids).LogSound := by
  unfold State.skipEntries
  induction ids generalizing s with
  | nil => exact h
  | cons id ids ih => exact ih (h.slotEntry n .skipped (some id) none)
@[simp] theorem LogSound.fireFrom (h : s.LogSound) (n : SlotId) (c : Chan) (e : Rec) (firePos : Pos) (lateBy : Nat)
    (skipped : List Nat) : (s.fireFrom n c e firePos lateBy skipped).LogSound := by
  have cut := (h.skipEntries n skipped).cutOutgoing n c
  unfold State.fireFrom; dsimp only; split <;> simp [cut]
@[simp] theorem LogSound.fireArmed (h : s.LogSound) (n : SlotId) (c : Chan) (a : Armed) (lateBy : Nat) :
    (s.fireArmed n c a lateBy).LogSound := by unfold State.fireArmed; dsimp only; split <;> simp [h]
@[simp] theorem LogSound.step1 (h : s.LogSound) (n : SlotId) : (s.step1 n).LogSound := by
  unfold State.step1
  dsimp only
  rw [logSound_modSlot]
  generalize s.slot n = x, List.finRange 4 = ls
  induction ls generalizing s with
  | nil => exact h
  | cons l ls ih => exact ih (by dsimp only; split <;> simp [h])
@[simp] theorem step2_told (s : State) (n : SlotId) : (s.step2 n).told = s.told := by
  unfold step2; (repeat' split) <;> rfl
@[simp] theorem logSound_step2 (n : SlotId) : (s.step2 n).LogSound ↔ s.LogSound := logSound_of_told (step2_told s n)
theorem LogSound.takeStep (h : s.LogSound) (n : SlotId) (i : Nat) {f : State → State}
    (hf : ∀ {t : State}, t.LogSound → (f t).LogSound) : (s.takeStep n i f).LogSound := by
  unfold State.takeStep; (repeat' split) <;> simp [h, hf]
@[simp] theorem LogSound.firstSteps (h : s.LogSound) (n : SlotId) : (s.firstSteps n).LogSound :=
  (h.takeStep n 1 fun ht => ht.step1 n).takeStep n 2 fun ht => by simp [ht]
@[simp] theorem LogSound.lockstep (h : s.LogSound) (m : SlotId) (c : Chan) (key : Nat) (was : Option Armed) :
    (s.lockstep m c key was).LogSound := by
  have first := h.firstSteps m
  unfold State.lockstep
  dsimp only
  repeat' split
  all_goals simp [h, first]
@[simp] theorem LogSound.handOff (h : s.LogSound) (before : State) (n : SlotId) (c : Chan) (key : Option Nat) :
    (s.handOff before n c key).LogSound := by
  unfold State.handOff
  split
  · exact h
  · exact forSlots_keeps (P := LogSound) (fun m t ht => by split <;> simp [ht]) s h
@[simp] theorem LogSound.issueJoinCue (h : s.LogSound) (n : SlotId) : (s.issueJoinCue n).LogSound := by
  unfold State.issueJoinCue; dsimp only; (repeat' split) <;> simp [h]
@[simp] theorem LogSound.joinFill (h : s.LogSound) (n : SlotId) (c : Chan) : (s.joinFill n c).LogSound := by
  simp [State.joinFill, h]
@[simp] theorem LogSound.fireJoin (h : s.LogSound) (n : SlotId) (c : Chan) (p : Plan) :
    (s.fireJoin n c p).LogSound := by unfold State.fireJoin; dsimp only; (repeat' split) <;> simp [h]
@[simp] theorem LogSound.commitCheck (h : s.LogSound) (n : SlotId) : (s.commitCheck n).LogSound := by
  unfold State.commitCheck; dsimp only; (repeat' split) <;> simp [h]
@[simp] theorem LogSound.fireDue (h : s.LogSound) (n : SlotId) (c : Chan) : (s.fireDue n c).LogSound := by
  unfold State.fireDue; (repeat' split) <;> simp [h]
@[simp] theorem LogSound.step3 (h : s.LogSound) (n : SlotId) : (s.step3 n).LogSound := by
  have issued := h.issueJoinCue n
  unfold State.step3; dsimp only; (repeat' split) <;> simp [h, issued]
@[simp] theorem LogSound.step4 (h : s.LogSound) (n : SlotId) : (s.step4 n).LogSound := by
  unfold State.step4; (repeat' split) <;> simp [h]
@[simp] theorem LogSound.fallBack (h : s.LogSound) (n : SlotId) (c : Chan) : (s.fallBack n c).LogSound := by
  simp [State.fallBack, h]
@[simp] theorem LogSound.step5 (h : s.LogSound) (n : SlotId) : (s.step5 n).LogSound := by
  unfold State.step5; dsimp only; (repeat' split) <;> simp [h]
@[simp] theorem LogSound.step6 (h : s.LogSound) (n : SlotId) : (s.step6 n).LogSound := by
  unfold State.step6; dsimp only; (repeat' split) <;> simp [h]
@[simp] theorem LogSound.confirmCue (h : s.LogSound) (n : SlotId) (p : Pos) : (s.confirmCue n p).LogSound := by
  unfold State.confirmCue; dsimp only; split <;> simp [h]
@[simp] theorem LogSound.foundFault (h : s.LogSound) (n : SlotId) : (s.foundFault n).LogSound := by
  simp [State.foundFault, h]
@[simp] theorem LogSound.confirmStep (h : s.LogSound) (n : SlotId) : (s.confirmStep n).LogSound := by
  unfold State.confirmStep; (repeat' split) <;> simp [h]
@[simp] theorem LogSound.fallbackStep (h : s.LogSound) (n : SlotId) : (s.fallbackStep n).LogSound := by
  unfold State.fallbackStep; (repeat' split) <;> simp [h]
@[simp] theorem LogSound.issueOcc (h : s.LogSound) (n : SlotId) (o : Occ) : (s.issueOcc n o).LogSound := by
  unfold State.issueOcc; dsimp only; split <;> simp [h]
theorem LogSound.issueDue (h : s.LogSound) (n : SlotId) (k : Nat) : (issueDue n k s).LogSound := by
  induction k generalizing s with
  | zero => exact h
  | succ k ih => unfold State.issueDue; (repeat' split) <;> simp [h, ih]
@[simp] theorem LogSound.cueArmed (h : s.LogSound) (n : SlotId) : (s.cueArmed n).LogSound := by
  unfold State.cueArmed; dsimp only; (repeat' split) <;> simp [h]
@[simp] theorem LogSound.step9 (h : s.LogSound) (n : SlotId) : (s.step9 n).LogSound := by
  unfold State.step9; dsimp only; split <;> simp [h]
@[simp] theorem LogSound.slotStep (h : s.LogSound) (n : SlotId) (k : Nat) : (s.slotStep n k).LogSound := by
  unfold State.slotStep; split <;> simp [h, State.step7, State.step8, LogSound.issueDue]
@[simp] theorem LogSound.slotThrough (h : s.LogSound) (n : SlotId) (k : Nat) :
    (s.slotThrough n k).LogSound := by
  unfold State.slotThrough
  generalize [1, 2, 3, 4, 5, 6, 7, 8, 9] = steps
  induction steps generalizing s with
  | nil => exact h
  | cons i steps ih => exact ih (by dsimp only; split; exacts [h.takeStep n i fun ht => ht.slotStep n i, h])
@[simp] theorem LogSound.slotRun (h : s.LogSound) (n : SlotId) (k : Nat) : (s.slotRun n k).LogSound := by
  unfold State.slotRun State.leaderFirst; (repeat' split) <;> simp [h]
@[simp] theorem LogSound.slotReleaseStep (h : s.LogSound) (n : SlotId) : (s.slotReleaseStep n).LogSound := by
  unfold State.slotReleaseStep; (repeat' split) <;> simp [h]

/-! ### Marks, tally pins and the work of a frame event (R11, R126, R159, R203) -/

@[simp] theorem LogSound.adoptMark (h : s.LogSound) (m : Pos) (d : Int) (entry : Bool) :
    (s.adoptMark m d entry).LogSound := by unfold State.adoptMark; dsimp only; split <;> simp [h]
@[simp] theorem LogSound.judgeMark (h : s.LogSound) : s.judgeMark.LogSound := by
  unfold State.judgeMark; dsimp only; (repeat' split) <;> simp [h]
@[simp] theorem LogSound.tallyRises (h : s.LogSound) (n : SlotId) : (s.tallyRises n).LogSound := by
  unfold State.tallyRises; dsimp only; (repeat' split) <;> simp [h]
@[simp] theorem LogSound.tallyFalls (h : s.LogSound) (n : SlotId) : (s.tallyFalls n).LogSound := by
  unfold State.tallyFalls; dsimp only; (repeat' split) <;> simp [h]
@[simp] theorem LogSound.timeOutPhase (h : s.LogSound) : s.timeOutPhase.LogSound := by
  have released : (forSlots (fun n t => t.slotReleaseStep n) s).LogSound :=
    forSlots_keeps (P := LogSound) (fun n t ht => ht.slotReleaseStep n) s h
  unfold State.timeOutPhase; (repeat' split) <;> simp [h, released]
@[simp] theorem LogSound.frameWork (h : s.LogSound) : s.frameWork.LogSound := by
  unfold State.frameWork
  dsimp only
  have watched : (forChans (fun c t => t.frameWatch c) (forChans (fun c t => t.frameChannel c)
      s.judgeMark.silences.offers)).updateStation.review.told = s.judgeMark.told := by
    rw [review_told, updateStation_told, forChans_told _ (fun c t => frameWatch_told t c),
      forChans_told _ (fun c t => frameChannel_told t c), offers_told, silences_told]
  have released := forSlots_keeps (P := LogSound) (f := fun n t => t.slotReleaseStep n)
    (fun n t ht => ht.slotReleaseStep n) _ ((logSound_of_told watched).mpr h.judgeMark)
  have worked := forSlots_keeps (P := LogSound) (f := fun n t => t.slotRun n 9) (fun n t ht => ht.slotRun n 9) _
    released
  exact ((logSound_of_told ((endPhase_told _).trans (frameClaims_told _))).mpr worked).timeOutPhase
@[simp] theorem LogSound.settle (h : s.LogSound) : s.settle.LogSound := by
  unfold State.settle; split <;> simp [h]

/-! ### What is sent (R182, R184) -/

@[simp] theorem LogSound.waitRunsOut (h : s.LogSound) : s.waitRunsOut.LogSound := by
  have sends {t : State} (ht : t.LogSound) (k : Cls) : (t.startSending k).LogSound := by
    unfold startSending
    split <;> exact ht.congr rfl rfl
  unfold State.waitRunsOut
  split
  · refine sends ?_ _
    exact h.congr rfl rfl
  · exact h

theorem logSound_afterFullReset (s : State) : s.afterFullReset.LogSound := reset_logSound.congr rfl rfl

/-! ### The shapes of the commands -/

theorem LogSound.event (h : s.LogSound) {f : State → State} (hf : ∀ {t : State}, t.LogSound → (f t).LogSound) :
    (s.event f).LogSound := (logSound_review).mpr (hf (LogSound.settle (logSound_clearOut.mpr h)))

theorem LogSound.event_of_told (h : s.LogSound) {f : State → State} (hf : ∀ t, (f t).told = t.told) :
    (s.event f).LogSound := h.event fun ht => (logSound_of_told (hf _)).mpr ht

theorem LogSound.atFrame (h : s.LogSound) {f : State → State} (hf : ∀ {t : State}, t.LogSound → (f t).LogSound) :
    (s.atFrame f).LogSound := by
  have cleared := logSound_clearOut.mpr h
  unfold State.atFrame
  dsimp only
  split
  · exact logSound_review.mpr (hf cleared.judgeMark)
  · exact cleared

theorem LogSound.atFrame_of_told (h : s.LogSound) {f : State → State} (hf : ∀ t, (f t).told = t.told) :
    (s.atFrame f).LogSound := h.atFrame fun ht => (logSound_of_told (hf _)).mpr ht

theorem LogSound.arrival_of_told (h : s.LogSound) (rx : Reception)
    {f : Addr → Addr → Msg → Option (State → State)}
    (hf : ∀ src dst m g t, f src dst m = some g → (g t).told = t.told) : (s.arrival rx f).LogSound := by
  refine h.event_of_told fun t => ?_
  split
  next src dst m _ =>
    split
    next g taken => rw [hf src dst m g _ taken, hear_told]
    next => rfl
  next => rfl

theorem LogSound.console_of_told (h : s.LogSound) (rx : Reception) (broadcast : Bool)
    {f : Addr → Addr → Nat → Command → Option (State → State)}
    (hf : ∀ dst src tag k g t, f dst src tag k = some g → (g t).told = t.told) :
    (s.console rx broadcast f).LogSound := by
  refine h.arrival_of_told rx fun src dst m g t taken => ?_
  split at taken
  next tag code bs =>
    obtain ⟨k, -, mapped⟩ := Option.bind_eq_some_iff.mp taken
    obtain ⟨effect, own, rfl⟩ := Option.map_eq_some_iff.mp mapped
    simp only [commandTaken]
    repeat' split
    · rfl
    · exact answer_told ..
    · exact hf dst src tag k effect t own
  next => cases taken

theorem LogSound.echo (h : s.LogSound) {p : OutMsg → Bool} {f : OutMsg → State → State}
    (hf : ∀ m {t : State}, t.LogSound → (f m t).LogSound) : (s.echo p f).LogSound := by
  refine h.event fun ht => ?_
  split
  · exact hf _ (logSound_leaveHead.mpr ht)
  · exact ht

theorem LogSound.echo_of_told (h : s.LogSound) {p : OutMsg → Bool} {f : OutMsg → State → State}
    (hf : ∀ m t, (f m t).told = t.told) : (s.echo p f).LogSound :=
  h.echo fun m _ ht => (logSound_of_told (hf m _)).mpr ht

/-! ### The commands -/

/-- Every command completes and keeps the log in its form. -/
theorem LogSound.exec (h : s.LogSound) (c : Instr) : ∃ t, exec c s = .next t ∧ t.LogSound := by
  have found : s.clearOut.settle.LogSound := LogSound.settle (logSound_clearOut.mpr h)
  cases c with
  | fullReset => exact ⟨_, rfl, logSound_afterFullReset s⟩
  | resetReleased => exact ⟨_, rfl, h.event_of_told afterRelease_told⟩
  | configReadComplete straps block =>
    refine ⟨_, rfl, h.event_of_told fun t => ?_⟩
    split <;> simp
  | framePulse dt => exact ⟨_, rfl, (logSound_of_told (pulse_told _ dt)).mpr found⟩
  | flywheelEntry dt => exact ⟨_, rfl, (logSound_of_told (loseReference_told _ dt)).mpr found⟩
  | substituteFrameEvent dt => exact ⟨_, rfl, (logSound_of_told (substitute_told _ dt)).mpr found⟩
  | airbeatReceived rx | relaystateReceived rx | editReceived rx | imageSegmentReceived rx | imagereqReceived rx
  | verdictReceived rx | beaconReceived rx | claimHeard rx | takeHeard rx | releaseHeard rx | handoverHeard rx
  | timemarkReceived rx =>
    refine ⟨_, rfl, h.arrival_of_told rx fun src dst m g t taken => ?_⟩
    split at taken
    · obtain rfl := Option.some.inj taken
      repeat' split
      all_goals simp [foldl_beatArrives_told, apply_ite told]
    · cases taken
  | queryStation rx | queryChannel rx | queryList rx | queryAsrun rx | forceTake rx | forceRelease rx | inhibit rx
  | nextCmd rx | handback rx | editRequest rx | restart rx =>
    refine ⟨_, rfl, h.console_of_told rx _ fun dst src tag k g t taken => ?_⟩
    split at taken
    · obtain rfl := Option.some.inj taken; simp [State.queryChannelCmd, State.queryAsrunCmd]
    · cases taken
  | takeEcho =>
    refine ⟨_, rfl, h.echo fun m t ht => ?_⟩
    split <;> simp [ht]
  | imagereqEcho | imageEcho | claimEcho | releaseEcho | handoverEcho | messageEcho =>
    refine ⟨_, rfl, h.echo_of_told fun m t => ?_⟩
    repeat' split
    all_goals simp
  | badCommand | imageSegmentQueued | lineIdle | lineGoesBusy | echoFailed | messageDiscarded | gridDelivery =>
    refine ⟨_, rfl, h.event_of_told fun t => ?_⟩
    repeat' split
    all_goals simp
  | ladderWaitExpiry | tallyRise | tallyFall =>
    refine ⟨_, rfl, h.event fun ht => ?_⟩
    repeat' split
    all_goals simp [ht]
  | beatAnchorExpiry | parkedEditTimeout | imagereqOfferRetry | imageTargetTimeout | imageRoundRestart
  | imageLoadTimeout | beatLost | relaySilent | verdictSourceStale | probeSilent | verdictRepeat | verdictOfferRetry
  | beaconOffered | beaconOfferRetry | peerSilent | claimWindowExpiry | takeOfferRetry | deadWinnerExclusion
  | exclusionExpiry | pendingForceLatchRun | ineligibleExpiry | releaseOutboxOffer | handoverCancelOffer
  | listeningCountExpiry | releasePhaseEnd =>
    exact ⟨_, rfl, h.atFrame_of_told fun t => by simp⟩
  | joinCueIssue | joinCueFire | linePulseEnd | lockPoint | cueFire | armNextCue | restartPlay | serverFaultAction
  | scheduleRunOut | confirmWindowExpiry | fallbackTimeout | secondaryOccurrence | slotRelease | handbackCommitCheck
  | handbackBoundary | timeMarkJudgement | releasePhaseTimeout =>
    exact ⟨_, rfl, h.atFrame fun ht => by simp [ht]⟩

end State

end Sys2Proof.Machine

namespace Sys2Proof.AsRunLog
open Sys2Proof.Machine

/-- Settles O57: a step is the front command on the rest of the queue, or what is left of an open frame event, and each
operation of either leaves the log or writes it in its form. -/
theorem everyStepKeepsTheLogSound : Obligations.EveryStepKeepsTheLogSound := by
  intro s t h stepped
  unfold step at stepped
  split at stepped
  · obtain rfl := Host.Outcome.next.inj stepped
    split
    · exact State.LogSound.settle (State.logSound_clearOut.mpr h)
    · exact h
  next c rest _ =>
    obtain ⟨u, executed, sound⟩ := State.LogSound.exec (s := { s with pending := rest }) (h.congr rfl rfl) c
    rw [executed] at stepped
    exact Host.Outcome.next.inj stepped ▸ sound

end Sys2Proof.AsRunLog

/-! ## Handbacks commit, release or abort at their boundary (R151, R156, R171 to R173) -/

namespace Sys2Proof.Machine.State

variable {s : State} {n : SlotId} {c : Chan} {h : HandbackPlan}

/-- A plan may be committed: its notice is sent, the beats are fresh, and the last entry says STANDBY with the handback
event prepared at the boundary (R172). -/
def commitReady (s : State) (c : Chan) (h : HandbackPlan) : Prop :=
  h.noticeSent = true ∧ s.beatsFresh c = true ∧
    ∃ w b, s.watchRec c = some w ∧ w.lastBeat = some b ∧ b.main = .standby ∧
      b.prepared = some (h.event, h.boundary)

/-- The plan stands committed (R172). -/
def planCommitted (s : State) (n : SlotId) (h : HandbackPlan) : State :=
  s.modSlot n fun x => { x with handback := some { h with committed := true } }

/-- The plan is gone, its cancel offered and its entry written (R173). -/
def planAborted (s : State) (n : SlotId) (c : Chan) (h : HandbackPlan) : State :=
  ((s.offerCancel (.handover c h.event h.boundary h.returnEpoch true)).slotEntry n .handbackAborted (some h.event)
    none).modSlot n fun x => { x with handback := none }

/-! ### The commit check (R172, R173) -/

section
variable (held : (s.slot n).chan = some c) (plan : (s.slot n).handback = some h)
include held plan

theorem commitCheck_committed (committed : h.committed = true) : s.commitCheck n = s := by
  simp [commitCheck, held, plan, committed]

theorem commitCheck_early (early : s.reached (h.boundary.sub s.rate s.cfg.lockLead) ≠ true) :
    s.commitCheck n = s := by
  simp [commitCheck, held, plan, early]

variable (uncommitted : h.committed = false) (due : s.reached (h.boundary.sub s.rate s.cfg.lockLead) = true)
include uncommitted due

theorem commitCheck_ready (ready : s.commitReady c h) : s.commitCheck n = s.planCommitted n h := by
  obtain ⟨noticed, fresh, w, b, watched, beat, standby, prepared⟩ := ready
  simp [commitCheck, held, plan, uncommitted, due, noticed, fresh, watched, beat, standby, prepared, planCommitted]

theorem commitCheck_unready (unready : ¬s.commitReady c h) : s.commitCheck n = s.planAborted n c h := by
  simp only [commitCheck, held, plan, uncommitted, due]
  refine (if_pos rfl).trans (if_neg fun ready => unready ?_)
  simp only [Bool.and_eq_true] at ready
  obtain ⟨⟨noticed, fresh⟩, beats⟩ := ready
  split at beats
  next b beat =>
    obtain ⟨w, watched, last⟩ := Option.bind_eq_some_iff.mp beat
    obtain ⟨standby, prepared⟩ : b.main = .standby ∧ b.prepared = some (h.event, h.boundary) := by
      simpa using beats
    exact ⟨noticed, fresh, w, b, watched, last, standby, prepared⟩
  next => cases beats

end

/-! ### The rest of step 3 (R151, R156, R172) -/

theorem atBoundary_none (none : (s.slot n).handback = none) : s.atBoundary n = false := by rw [atBoundary, none]

theorem atBoundary_some (plan : (s.slot n).handback = some h) :
    s.atBoundary n = (h.committed && s.reached h.boundary) := by rw [atBoundary, plan]

theorem atBoundary_planCommitted : (s.planCommitted n h).atBoundary n = s.reached h.boundary :=
  atBoundary_some (h := { h with committed := true }) (congrArg Slot.handback (modSlot_slot s n _))

theorem planCommitted_releasePending : ((s.planCommitted n h).slot n).releasePending = (s.slot n).releasePending := by
  rw [planCommitted, modSlot_slot]

theorem atBoundary_planAborted : (s.planAborted n c h).atBoundary n = false :=
  atBoundary_none (congrArg Slot.handback (modSlot_slot _ n _))

/-- A slot that shows its channel: at a committed boundary it is released, else its due cue fires (R151, R172). -/
theorem step3_shown (held : (s.slot n).chan = some c)
    (shows : (s.slot n).state = .onAir ∨ (s.slot n).state = .holding ∨ (s.slot n).state = .fallback) :
    s.step3 n = if (s.commitCheck n).atBoundary n then (s.commitCheck n).releaseBy n .handback
      else (s.commitCheck n).fireDue n c := by
  obtain state | state | state := shows <;> simp [step3, held, state]

theorem step3_releases (held : (s.slot n).chan = some c)
    (shows : (s.slot n).state = .onAir ∨ (s.slot n).state = .holding ∨ (s.slot n).state = .fallback)
    (there : (s.commitCheck n).atBoundary n = true) : s.step3 n = (s.commitCheck n).releaseBy n .handback :=
  (step3_shown held shows).trans (if_pos there)

theorem step3_goesOn (held : (s.slot n).chan = some c)
    (shows : (s.slot n).state = .onAir ∨ (s.slot n).state = .holding ∨ (s.slot n).state = .fallback)
    (ahead : (s.commitCheck n).atBoundary n = false) : s.step3 n = (s.commitCheck n).fireDue n c :=
  (step3_shown held shows).trans (if_neg (Bool.eq_false_iff.mp ahead))

/-! ### The armed cue (R151, R156) -/

theorem fireDue_waits (waits : ∀ a, (s.slot n).armed = some a → s.reached a.firePos = false) :
    s.fireDue n c = s := by
  unfold fireDue
  split
  next a armed => exact if_neg (Bool.eq_false_iff.mp (waits a armed))
  next => rfl

theorem fireDue_due {a : Armed} (armed : (s.slot n).armed = some a) (due : s.reached a.firePos = true) :
    s.fireDue n c = (s.fireArmed n c a a.lateBy).handOff s n c (s.keyOf c a.event) := by
  simp only [fireDue, armed, due, if_true]

theorem fireDue_listed {a : Armed} {e : Rec} (armed : (s.slot n).armed = some a) (due : s.reached a.firePos = true)
    (listed : findEvent a.event (s.chan c).list = some e) :
    s.fireDue n c = ((s.emit n e.stated.source.fireWord).fireFrom n c e a.firePos a.lateBy a.skipped).handOff s n c
      e.stated.lockKey := by
  rw [fireDue_due armed due, fireArmed, keyOf, listed]
  rfl

theorem fireDue_lost {a : Armed} (armed : (s.slot n).armed = some a) (due : s.reached a.firePos = true)
    (lost : findEvent a.event (s.chan c).list = none) : s.fireDue n c = s.fireArmed n c a a.lateBy := by
  rw [fireDue_due armed due, keyOf, lost]
  rfl

end Sys2Proof.Machine.State

namespace Sys2Proof.Handback
open Sys2Proof.Machine

/-- Settles O43: both commands come to step 3, where the commit check leaves, commits or aborts the plan, and then the
committed boundary releases the channel or the due cue fires. -/
theorem handbacksCommitOrAbort : Obligations.HandbacksCommitOrAbort := by
  refine ⟨fun n s c h opened => ?plan, fun n c s => ?cue⟩
  case plan =>
    intro t x done stepsDone shows held plan ready due committed aborted
    have holds : x.state.holds = true := by obtain state | state | state := shows <;> rw [state] <;> rfl
    have first : t.slotThrough n 2 = t := State.slotThrough_two_done (Nat.le_of_eq stepsDone.symm)
    have taken : s.slotTo n 3 = (done (t.step3 n)).review := by
      rw [State.slotTo_three opened (by rw [first]; exact stepsDone) (by rw [first]; exact holds), first]
    have check : exec (.handbackCommitCheck n) s = .next (done (t.step3 n)).review := congrArg Host.Outcome.next taken
    have boundary : exec (.handbackBoundary n) s = .next (done (t.step3 n)).review := congrArg Host.Outcome.next taken
    have ahead (near : h.committed = false ∨ t.reached h.boundary = false) : t.atBoundary n = false := by
      rw [State.atBoundary_some plan]
      obtain uncommitted | far := near
      · rw [uncommitted]; rfl
      · rw [far, Bool.and_false]
    refine ⟨fun uncommitted early => ?_, fun uncommitted now fit far => ?_, fun uncommitted now fit there => ?_,
      fun uncommitted now unfit => ?_, fun closed there => ?_, fun closed far => ?_⟩
    · have same : t.commitCheck n = t := State.commitCheck_early held plan early
      rw [check, State.step3_goesOn held shows (by rw [same]; exact ahead (.inl uncommitted)), same]
    · have commits : t.commitCheck n = committed := State.commitCheck_ready held plan uncommitted now fit
      have commitsFar := State.step3_goesOn held shows (by rw [commits]; exact State.atBoundary_planCommitted.trans far)
      rw [check, commitsFar, commits]
    · have commits : t.commitCheck n = committed := State.commitCheck_ready held plan uncommitted now fit
      have pending : (committed.slot n).releasePending = x.releasePending := State.planCommitted_releasePending
      rw [check, State.step3_releases held shows (by rw [commits]; exact State.atBoundary_planCommitted.trans there),
        commits, State.releaseBy, pending]
    · have aborts : t.commitCheck n = aborted := State.commitCheck_unready held plan uncommitted now unfit
      rw [check, State.step3_goesOn held shows (by rw [aborts]; exact State.atBoundary_planAborted), aborts]
    · have same : t.commitCheck n = t := State.commitCheck_committed held plan closed
      have reached : (s.atStep.commitCheck n).atBoundary n = true := by
        rw [same, State.atBoundary_some plan, closed, there]
        rfl
      rw [boundary, State.step3_releases held shows reached, same]
      rfl
    · have same : t.commitCheck n = t := State.commitCheck_committed held plan closed
      rw [boundary, State.step3_goesOn held shows (by rw [same]; exact ahead (.inr far)), same]
  case cue =>
    exact ⟨State.fireDue_waits, fun a armed due => ⟨fun e => State.fireDue_listed armed due,
      State.fireDue_lost armed due⟩⟩

end Sys2Proof.Handback

/-! ## Releases and handovers owed wait for room in class 0 (R166, R170, R174, R182 to R185) -/

namespace Sys2Proof.Machine

/-- The line with more messages at the tail of class 0, and its wait. -/
def Line.urged (l : Line) (ms : List OutMsg) (w : Option Wait) : Line :=
  { l with q0 := l.q0 ++ ms.map (fun m => ⟨m, false⟩), wait := w }

theorem Line.urged_none (l : Line) : l.urged [] l.wait = l := by
  rw [urged, List.map_nil, List.append_nil]

theorem Line.urged_urged (l : Line) (ms ms' : List OutMsg) (w w' : Option Wait) :
    (l.urged ms w).urged ms' w' = l.urged (ms ++ ms') w' := by
  simp [urged]

namespace State

variable {s : State}

/-! ### A waiting list drains into class 0 (R166, R174, R182) -/

/-- How many of a waiting list's messages find a free entry of class 0. -/
def roomFor (s : State) (ms : List OutMsg) : Nat := min ms.length (12 - s.line.q0.length)

theorem enqueue_urgent {m : OutMsg} (urgent : m.cls = .zero) :
    ∃ w, s.enqueue m = s.setLine fun l => l.urged [m] w := by
  rw [enqueue, urgent]
  exact ⟨_, rfl⟩

theorem roomFor_cons {m : OutMsg} {ms : List OutMsg} (urgent : m.cls = .zero) (room : s.hasRoom .zero = true) :
    s.roomFor (m :: ms) = (s.enqueue m).roomFor ms + 1 := by
  have free : s.line.q0.length < 12 := (s.hasRoom_iff .zero).mp room
  obtain ⟨w, enters⟩ := s.enqueue_urgent urgent
  rw [roomFor, roomFor, enters]
  simp only [setLine_line, Line.urged, List.length_append, List.length_map, List.length_cons, List.length_nil]
  omega

theorem roomFor_full {ms : List OutMsg} (full : s.hasRoom .zero ≠ true) : s.roomFor ms = 0 := by
  have none : ¬s.line.q0.length < 12 := fun free => full ((s.hasRoom_iff .zero).mpr free)
  rw [roomFor]
  omega

theorem setLine_urged_none (s : State) : (s.setLine fun l => l.urged [] s.line.wait) = s :=
  congrArg (fun l => s.setLine fun _ => l) s.line.urged_none

theorem drainInto_urgent {ms : List OutMsg} (urgent : ∀ m ∈ ms, m.cls = .zero) :
    ∃ w, drainInto ms s = (s.setLine fun l => l.urged (ms.take (s.roomFor ms)) w, ms.drop (s.roomFor ms)) := by
  induction ms generalizing s with
  | nil => exact ⟨s.line.wait, by rw [drainInto, List.take_nil, List.drop_nil, setLine_urged_none]⟩
  | cons m ms ih =>
    by_cases room : s.hasRoom .zero = true
    · have first : m.cls = .zero := urgent m List.mem_cons_self
      obtain ⟨w, enters⟩ := s.enqueue_urgent first
      obtain ⟨w', drains⟩ := ih (s := s.enqueue m) fun x among => urgent x (List.mem_cons_of_mem _ among)
      refine ⟨w', ?_⟩
      rw [drainInto, if_pos room, drains, roomFor_cons first room, enters, List.take_succ_cons, List.drop_succ_cons]
      exact congrArg (fun l => (s.setLine fun _ => l, _)) (s.line.urged_urged [m] _ w w')
    · refine ⟨s.line.wait, ?_⟩
      rw [drainInto, if_neg room, roomFor_full room, List.take_zero, List.drop_zero, setLine_urged_none]

theorem drainInto_cancels (ms : List OutMsg) (s : State) : (drainInto ms s).1.line.cancels = s.line.cancels := by
  induction ms generalizing s with
  | nil => rfl
  | cons m ms ih =>
    have enters : (s.enqueue m).line.cancels = s.line.cancels := by rw [enqueue]; cases m.cls <;> rfl
    rw [drainInto]
    split
    · rw [ih, enters]
    · rfl

theorem offerOutbox_cancels (s : State) : s.offerOutbox.line.cancels = s.line.cancels :=
  drainInto_cancels s.line.outbox s

theorem offerOutbox_urgent (urgent : ∀ m ∈ s.line.outbox, m.cls = .zero) :
    ∃ w, s.offerOutbox = s.setLine fun l =>
      { l.urged (l.outbox.take (s.roomFor l.outbox)) w with outbox := l.outbox.drop (s.roomFor l.outbox) } := by
  obtain ⟨w, drains⟩ := drainInto_urgent urgent
  exact ⟨w, by rw [offerOutbox, drains]; rfl⟩

/-- The cancels are offered to what the outbox has left of class 0 (R174, R183). -/
theorem offerCancels_urgent (urgent : ∀ m ∈ s.line.cancels, m.cls = .zero) :
    ∃ w, s.offerCancels = s.offerOutbox.setLine fun l =>
      { l.urged (l.cancels.take (s.offerOutbox.roomFor l.cancels)) w with
        cancels := l.cancels.drop (s.offerOutbox.roomFor l.cancels) } := by
  obtain ⟨w, drains⟩ := drainInto_urgent (s := s.offerOutbox) (offerOutbox_cancels s ▸ urgent)
  exact ⟨w, by rw [offerCancels, drains]; rfl⟩

/-! ### The echo of a HANDOVER (R170, R184) -/

theorem modSlot_congr {n : SlotId} {f g : Slot → Slot} (same : f (s.slot n) = g (s.slot n)) :
    s.modSlot n f = s.modSlot n g := by
  rw [modSlot, modSlot, vmod, vmod, show f (s.slots.get n) = g (s.slots.get n) from same]

/-- A change that gives the slot back is none. -/
theorem modSlot_self {n : SlotId} {f : Slot → Slot} (same : f (s.slot n) = s.slot n) : s.modSlot n f = s := by
  have back : vmod s.slots n f = s.slots := by
    rw [vmod, show f (s.slots.get n) = s.slots.get n from same, Vector.get_eq_getElem]
    exact Vector.set_getElem_self _
  rw [modSlot, back]

section
variable {c : Chan} {event : Nat} {h : Pos} {ret : Nat}

theorem noticeEchoed_unheld (unheld : s.holdingSlot c = none) : s.noticeEchoed c event h ret = s := by
  simp only [noticeEchoed, unheld]

variable {n : SlotId} (holds : s.holdingSlot c = some n)
include holds

theorem noticeEchoed_plan {p : HandbackPlan} (plan : (s.slot n).handback = some p)
    (bears : p.event = event ∧ p.boundary = h ∧ p.returnEpoch = ret) : s.noticeEchoed c event h ret =
      s.modSlot n fun x => { x with handback := some { p with noticeSent := true } } := by
  simp only [noticeEchoed, holds]
  refine modSlot_congr ?_
  rw [plan, Option.map_some, if_pos bears]

theorem noticeEchoed_other (other : ∀ p, (s.slot n).handback = some p → p.event ≠ event ∨ p.boundary ≠ h ∨
    p.returnEpoch ≠ ret) : s.noticeEchoed c event h ret = s := by
  simp only [noticeEchoed, holds]
  refine modSlot_self ?_
  cases plan : (s.slot n).handback with
  | none => rw [Option.map_none, ← plan]
  | some p =>
    have differs : ¬(p.event = event ∧ p.boundary = h ∧ p.returnEpoch = ret) := fun ⟨same, place, epoch⟩ =>
      (other p plan).elim (· same) fun rest => rest.elim (· place) (· epoch)
    rw [Option.map_some, if_neg differs, ← plan]

end

theorem exec_releaseEcho {m : OutMsg} (echoed : s.found.sendingHead (fun m => decide (m.kind = .release)) = some m) :
    exec .releaseEcho s = .next s.found.leaveHead.review :=
  congrArg Host.Outcome.next (echo_taken s _ (fun _ t => t) m echoed)

theorem exec_handoverEcho {c : Chan} {event : Nat} {h : Pos} {ret : Nat} {cancel : Bool}
    (echoed : s.found.sendingHead (fun m => decide (m.kind = .handover)) = some (.handover c event h ret cancel)) :
    exec .handoverEcho s =
      .next (if cancel then s.found.leaveHead else s.found.leaveHead.noticeEchoed c event h ret).review := by
  refine (congrArg Host.Outcome.next (echo_taken s _ _ _ echoed)).trans ?_
  cases cancel <;> rfl

theorem exec_handoverHeard {rx : Reception} {src dst : Addr} {chan event : Nat} {h : Pos} {ret cancel : Nat}
    (heard : s.found.receive rx = .deliver src dst (.handover chan event h ret cancel)) :
    exec (.handoverHeard rx) s = .next (s.found.hear src).review :=
  congrArg Host.Outcome.next (arrival_taken s rx _ src dst _ id heard rfl)

end State

end Sys2Proof.Machine

namespace Sys2Proof.Handback
open Sys2Proof.Machine

/-- Settles O46: what the drains of the outbox and of the cancels leave of the line, and the echoes that follow. -/
theorem releasesAndHandoversWaitForRoom : Obligations.ReleasesAndHandoversWaitForRoom := by
  refine ⟨⟨fun s opened => ⟨?_, ?_⟩, fun s urgent => ?outbox, fun s urgent => ?cancels,
    fun s m echoed => State.exec_releaseEcho echoed⟩,
    fun s c event h ret cancel => ?echo, fun rx s src dst chan event h ret cancel => State.exec_handoverHeard⟩
  · exact congrArg Host.Outcome.next (State.atFrame_open s _ opened)
  · exact congrArg Host.Outcome.next (State.atFrame_open s _ opened)
  case outbox =>
    obtain ⟨w, offered⟩ := State.offerOutbox_urgent urgent
    rw [offered]
    exact ⟨rfl, rfl, rfl, rfl, rfl⟩
  case cancels =>
    obtain ⟨w, offered⟩ := State.offerCancels_urgent urgent
    rw [offered]
    exact ⟨rfl, rfl, rfl⟩
  case echo =>
    intro t echoed u
    rw [State.exec_handoverEcho echoed]
    refine ⟨fun plain => ?_, fun n notice holds => ⟨fun p plan event boundary epoch => ?_, fun other => ?_⟩⟩
    · cases cancel with
      | true => rfl
      | false =>
        have unheld := plain.resolve_left Bool.false_ne_true
        rw [if_neg Bool.false_ne_true, State.noticeEchoed_unheld unheld]
    · rw [if_neg (by rw [notice]; decide), State.noticeEchoed_plan holds plan ⟨event, boundary, epoch⟩]
    · rw [if_neg (by rw [notice]; decide), State.noticeEchoed_other holds other]

end Sys2Proof.Handback

/-! ## The items of a REPLY, laid out by the table of R189 -/

namespace Sys2Proof.Machine

/-! ### The fields of a value (R189) -/

@[simp] theorem replyPos_length (r : Rate) (p : Option Pos) : (replyPos r p).length = 9 := by
  cases p <;> simp [replyPos, Pos.bytes, Label.bytes]

/-- A position's label stands behind it. -/
theorem replyPos_fields (r : Rate) (p : Option Pos) : replyPos r p = p.elim (List.replicate 9 255#8) fun p =>
    toBE 2 p.day ++ toBE 3 p.frame ++ toBE 1 (Label.ofFrame r p.frame).hh ++ toBE 1 (Label.ofFrame r p.frame).mm ++
      toBE 1 (Label.ofFrame r p.frame).ss ++ toBE 1 (Label.ofFrame r p.frame).ff := by
  cases p with
  | none => rfl
  | some p => simp only [replyPos, Pos.bytes, Label.bytes, Option.elim_some, List.append_assoc]

/-- A number kept in the bounds of its field. -/
theorem toBESigned_clamped (n : Int) :
    toBESigned n = toBE 4 ((max (-2147483647) (min 2147483647 n)) % 4294967296).toNat := by
  have clamped : (if n < -2147483647 then -2147483647 else if n > 2147483647 then 2147483647 else n) =
      max (-2147483647) (min 2147483647 n) := by
    split
    · omega
    · split <;> omega
  rw [toBESigned, clamped]

@[simp] theorem toBESigned_length (n : Int) : (toBESigned n).length = 4 := by
  rw [toBESigned_clamped, toBE_length]

theorem levelsByte_lines (v : Vector Bool 4) : levelsByte v = toBE 1 ((if v.get 0 then 1 else 0) +
    (if v.get 1 then 2 else 0) + (if v.get 2 then 4 else 0) + (if v.get 3 then 8 else 0)) := by
  have lines : List.finRange 4 = [0, 1, 2, 3] := rfl
  rw [levelsByte, lines]
  simp only [List.foldl_cons, List.foldl_nil]
  cases v.get 0 <;> cases v.get 1 <;> cases v.get 2 <;> cases v.get 3 <;> rfl

theorem map_getD_elim {α : Type} (f : α → Nat) (x : Option α) : (x.map f).getD 0 = x.elim 0 f := by cases x <;> rfl

theorem codeOr0_map {α β : Type} (f : α → β) (g : β → Nat) (x : Option α) :
    codeOr0 g (x.map f) = toBE 1 (x.elim 0 fun a => g (f a)) := by cases x <;> rfl

@[simp] theorem codeOr0_length {α : Type} (f : α → Nat) (x : Option α) : (codeOr0 f x).length = 1 :=
  toBE_length 1 _

@[simp] theorem claimPart_length (k : Option Claim) : (State.claimPart k).length = 3 := by
  rw [State.claimPart, List.length_append, toBE_length]
  rfl

@[simp] theorem flagPart_length (r : Rate) (f : EvFlag) : (State.flagPart r f).length = 12 := by
  simp [State.flagPart]

@[simp] theorem beatPart_length (r : Rate) (b : Option BeatEntry) : (State.beatPart r b).length = 37 := by
  simp [State.beatPart]

theorem beatPart_fields (r : Rate) (b : Option BeatEntry) : State.beatPart r b = [[flagByte b.isSome],
    toBE 4 (b.elim 0 BeatEntry.epoch), toBE 1 (b.elim 0 fun b => b.main.code), toBE 4 (b.elim 0 BeatEntry.event),
    toBE 4 (b.elim 0 BeatEntry.offset), replyPos r (b.map BeatEntry.report),
    [flagByte (b.bind BeatEntry.prepared).isSome], toBE 4 ((b.bind BeatEntry.prepared).elim 0 Prod.fst),
    replyPos r ((b.bind BeatEntry.prepared).map Prod.snd)].flatten := by
  simp only [State.beatPart, map_getD_elim, codeOr0_map, someFlag]
  simp

@[simp] theorem ageOfAnchor_length (a : Option Anchor) (f : Anchor → Int) :
    (a.elim (toBE 4 0) fun a => toBESigned (f a)).length = 4 := by cases a <;> simp

@[simp] theorem replyLate_length (n : Option Int) : (replyLate n).length = 4 := by cases n <;> simp [replyLate]

/-- An item is its code, the length of its value and the value, which is the run of the fields. -/
theorem item_laid {code length : Nat} {value : List Byte} {fields : List (List Byte)} (run : value = fields.flatten)
    (long : fields.flatten.length = length) : item code value = toBE 1 code ++ toBE 1 length ++ fields.flatten ∧
      fields.flatten.length = length := by
  rw [item, run, long]
  exact ⟨rfl, rfl⟩

end Sys2Proof.Machine


/-! ## The parts of a REPLY, its place in class 1, and the reads of the as-run log (R176, R177, R183, R189, R191) -/

namespace Sys2Proof.Machine

/-! ### The parts (R189, R192) -/

/-- What stands in the part at hand goes out in front of the items that still fit. -/
theorem packItems_groups (cur : List Byte) (items : List (List Byte)) : ∃ group groups,
    (group :: groups).flatten = items ∧ packItems cur items = (cur ++ group.flatten) :: groups.map List.flatten := by
  induction items generalizing cur with
  | nil => exact ⟨[], [], rfl, by simp [packItems]⟩
  | cons x xs ih =>
    rw [packItems]
    split
    · obtain ⟨group, groups, whole, parts⟩ := ih (cur ++ x)
      exact ⟨x :: group, groups, congrArg (x :: ·) whole, by simp [parts]⟩
    · obtain ⟨group, groups, whole, parts⟩ := ih x
      exact ⟨[], (x :: group) :: groups, congrArg (x :: ·) whole, by simp [parts]⟩

theorem packItems_short {cur : List Byte} {items : List (List Byte)} (front : cur.length ≤ 235)
    (short : ∀ x ∈ items, x.length ≤ 235) : ∀ p ∈ packItems cur items, p.length ≤ 235 := by
  induction items generalizing cur with
  | nil => simpa [packItems] using front
  | cons x xs ih =>
    obtain ⟨first, rest⟩ := List.forall_mem_cons.mp short
    rw [packItems]
    split
    next fits => exact ih (by rwa [List.length_append]) rest
    next => exact List.forall_mem_cons.mpr ⟨front, ih first rest⟩

/-! ### A REPLY in class 1 (R183) -/

theorem dropFirst_append {p : OutMsg → Bool} {as bs : List QEntry} {e : QEntry}
    (before : ∀ y ∈ as, y.begun = true ∨ p y.msg = false) (waits : e.begun = false) (named : p e.msg = true) :
    State.dropFirst p (as ++ e :: bs) = as ++ bs := by
  induction as with
  | nil => simp [State.dropFirst, waits, named]
  | cons a as ih =>
    obtain ⟨first, rest⟩ := List.forall_mem_cons.mp before
    have passed : (!a.begun && p a.msg) ≠ true := by rcases first with begun | other <;> simp [*]
    rw [List.cons_append, State.dropFirst, if_neg passed, ih rest, List.cons_append]

namespace State

variable {s : State} {m : OutMsg}

theorem offerReply_room (room : s.hasRoom .one = true) : s.offerReply m = s.enqueue m := if_pos room

section
variable (full : s.hasRoom .one = false)
include full

theorem offerReply_dropped (none : s.waiting isReply = false) : s.offerReply m = s := by
  rw [offerReply, if_neg (Bool.eq_false_iff.mp full), if_neg (Bool.eq_false_iff.mp none)]

theorem offerReply_replaces (waits : s.waiting isReply = true) :
    s.offerReply m = (s.setQueue .one (dropFirst isReply (s.queue .one))).enqueue m := by
  rw [offerReply, if_neg (Bool.eq_false_iff.mp full), if_pos waits]

end

theorem enqueue_one (one : m.cls = .one) : (s.enqueue m).line.q1 = s.line.q1 ++ [⟨m, false⟩] := by
  rw [enqueue, one]
  rfl

theorem waiting_of_mem {p : OutMsg → Bool} {e : QEntry} (queued : e ∈ s.line.q1) (waits : e.begun = false)
    (named : p e.msg = true) : s.waiting p = true :=
  List.any_eq_true.mpr ⟨e, queued, by rw [waits, named]; rfl⟩

/-- Nothing but class 1 and the wait may differ between two states. -/
def SameButClassOne (s t : State) : Prop := ∃ q w, t = s.setLine fun l => { l with q1 := q, wait := w }

theorem SameButClassOne.refl (s : State) : s.SameButClassOne s := ⟨s.line.q1, s.line.wait, rfl⟩

theorem SameButClassOne.trans {s t u : State} (first : s.SameButClassOne t) (second : t.SameButClassOne u) :
    s.SameButClassOne u := by
  obtain ⟨q, w, rfl⟩ := first
  obtain ⟨q', w', rfl⟩ := second
  exact ⟨q', w', rfl⟩

theorem enqueue_sameButClassOne (one : m.cls = .one) : s.SameButClassOne (s.enqueue m) := by
  rw [enqueue, one]
  exact ⟨_, _, rfl⟩

theorem offerReply_sameButClassOne (one : m.cls = .one) : s.SameButClassOne (s.offerReply m) := by
  unfold offerReply
  split
  · exact enqueue_sameButClassOne one
  · split
    · exact .trans ⟨_, s.line.wait, rfl⟩ (enqueue_sameButClassOne one)
    · exact .refl s

theorem answer_sameButClassOne (dst : Addr) (tag : Nat) (code : ResultCode) (items : List (List Byte)) :
    s.SameButClassOne (s.answer dst tag code items) := by
  have queued (total : Nat) (parts : List (List Byte × Nat)) : ∀ s : State,
      s.SameButClassOne (parts.foldl (fun t x => t.offerReply (.reply dst tag code x.2 total x.1)) s) := by
    induction parts with
    | nil => exact .refl
    | cons part parts ih => exact fun s => .trans (offerReply_sameButClassOne rfl) (ih _)
  exact queued _ _ s

/-! ### The queries (R189, R192, R193) -/

section
variable {rx : Reception} {src dst : Addr} {tag code : Nat} {bs : List Byte}
  (heard : s.found.receive rx = .deliver src dst (.command tag code bs)) (one : dst ≠ 0)
  (normal : (s.found.hear src).loader.releasePhase = none)
include heard one normal

theorem exec_queryStation (read : readCommand code bs = some .queryStation) : exec (.queryStation rx) s =
    .next ((s.found.hear src).answer src tag .done (s.found.hear src).stationReply).review :=
  congrArg Host.Outcome.next ((console_taken s rx false _ src dst tag code bs _
    (fun t => t.answer src tag .done t.stationReply) heard read rfl).trans
      (congrArg State.review (commandTaken_judged (.inl one) normal)))

theorem exec_queryChannel {c : Chan} (read : readCommand code bs = some (.queryChannel c)) :
    exec (.queryChannel rx) s = .next ((s.found.hear src).queryChannelCmd src tag c).review :=
  congrArg Host.Outcome.next ((console_taken s rx false _ src dst tag code bs _
    (fun t => t.queryChannelCmd src tag c) heard read rfl).trans
      (congrArg State.review (commandTaken_judged (.inl one) normal)))

theorem exec_queryList {c : Chan} {start count : Nat} (read : readCommand code bs = some (.queryList c start count)) :
    exec (.queryList rx) s = .next ((s.found.hear src).queryListCmd src tag c start count).review :=
  congrArg Host.Outcome.next ((console_taken s rx false _ src dst tag code bs _
    (fun t => t.queryListCmd src tag c start count) heard read rfl).trans
      (congrArg State.review (commandTaken_judged (.inl one) normal)))

theorem exec_queryAsrun {start count : Nat} (read : readCommand code bs = some (.queryAsrun start count)) :
    exec (.queryAsrun rx) s = .next ((s.found.hear src).queryAsrunCmd src tag start count).review :=
  congrArg Host.Outcome.next ((console_taken s rx false _ src dst tag code bs _
    (fun t => t.queryAsrunCmd src tag start count) heard read rfl).trans
      (congrArg State.review (commandTaken_judged (.inl one) normal)))

end

section
variable {src : Addr} {tag : Nat} {c : Chan} {start count : Nat}

theorem queryChannelCmd_watched (watched : (s.chan c).watched = true) :
    s.queryChannelCmd src tag c = s.answer src tag .done (s.channelReply c) := by rw [queryChannelCmd, if_pos watched]

theorem queryChannelCmd_unwatched (unwatched : (s.chan c).watched = false) :
    s.queryChannelCmd src tag c = s.answer src tag .notWatched (s.channelReply c) := by
  rw [queryChannelCmd, if_neg (Bool.eq_false_iff.mp unwatched)]

/-- The items of a channel's watch record (R192). -/
def watchItems (s : State) (c : Chan) : List (List Byte) :=
  match s.watchRec c with
  | some w => s.watchItem c w :: w.sources.map s.sourceItem
  | none => []

/-- The items of the slot that stands for a channel (R192). -/
def slotItems (s : State) (c : Chan) : List (List Byte) :=
  match s.slotFor c with
  | some n =>
    s.slotItem n :: ((if (s.slot n).state = .joining then ((s.slot n).join.map s.planItem).toList else []) ++
      ((s.slot n).handback.map s.handbackItem).toList)
  | none => []

/-- The items of a channel's view and of what stands for it, in the order of R192. -/
def heldItems (s : State) (c : Chan) : List (List Byte) :=
  s.viewItem c :: ((s.view c).exclusions.map (s.exclusionItem c) ++ s.slotItems c)

theorem channelReply_items : s.channelReply c =
    s.replicaItem c :: ((if (s.chan c).watched then s.watchItems c else []) ++ s.heldItems c) := by
  rw [channelReply, heldItems, slotItems, watchItems]
  cases s.watchRec c <;> cases s.slotFor c <;> simp

theorem channelReply_watched (watched : (s.chan c).watched = true) :
    s.channelReply c = s.replicaItem c :: (s.watchItems c ++ s.heldItems c) := by
  rw [channelReply_items, if_pos watched]

theorem channelReply_unwatched (unwatched : (s.chan c).watched = false) :
    s.channelReply c = s.replicaItem c :: s.heldItems c := by
  rw [channelReply_items, if_neg (Bool.eq_false_iff.mp unwatched), List.nil_append]

theorem queryListCmd_unwatched (unwatched : (s.chan c).watched = false) :
    s.queryListCmd src tag c start count = s.answer src tag .notWatched [] :=
  if_neg (Bool.eq_false_iff.mp unwatched)

theorem queryListCmd_run (watched : (s.chan c).watched = true) {run : List Rec}
    (listed : s.listRun c start count = some run) :
    s.queryListCmd src tag c start count = s.answer src tag .done (s.replicaItem c :: run.map s.eventItem) := by
  rw [queryListCmd, if_pos watched, listed]

theorem queryListCmd_notFound (watched : (s.chan c).watched = true) (unlisted : s.listRun c start count = none) :
    s.queryListCmd src tag c start count = s.answer src tag .notFound [] := by
  rw [queryListCmd, if_pos watched, unlisted]

theorem listRun_zero : s.listRun c 0 count = some ((s.chan c).list.take (min 6 count)) := by
  rw [listRun, if_pos rfl]

theorem listRun_missing (named : start ≠ 0) (missing : findEvent start (s.chan c).list = none) :
    s.listRun c start count = none := by
  rw [listRun, if_neg named, Option.map_eq_none_iff.mp missing, Option.map_none]

theorem listRun_found (named : start ≠ 0) (found : (findEvent start (s.chan c).list).isSome = true) :
    s.listRun c start count = some ((eventsAfter start (s.chan c).list).take (min 6 count)) := by
  rw [findEvent, Option.isSome_map] at found
  obtain ⟨split, stands⟩ := Option.isSome_iff_exists.mp found
  rw [listRun, if_neg named, eventsAfter, stands]
  rfl

end

/-! ### A read of the as-run log (R176, R177) -/

/-- From an entry to the end of the log each sequence number is one above the one before. -/
theorem seq_to_next {log : List AsRun} {next : Nat} (rising : risingByOne log)
    (last : ∀ e, log.getLast? = some e → next = (e.seq + 1) % 4294967296) {i : Nat} {e : AsRun}
    (stands : log[i]? = some e) : next = (e.seq + (log.length - i)) % 4294967296 := by
  induction log generalizing i e with
  | nil => cases stands
  | cons a log ih =>
    cases log with
    | nil =>
      obtain ⟨rfl, rfl⟩ : i = 0 ∧ a = e := by simpa [List.getElem?_singleton] using stands
      simpa using last a rfl
    | cons b log =>
      obtain ⟨step, rises⟩ := rising
      have rest {i : Nat} {e : AsRun} := @ih rises (fun e hind => last e (by simpa using hind)) i e
      cases i with
      | zero =>
        obtain rfl : a = e := by simpa using stands
        have fromNext := rest (i := 0) (e := b) rfl
        simp only [List.length_cons] at fromNext ⊢
        omega
      | succ i =>
        have fromHere := rest (i := i) (by simpa using stands)
        simpa using fromHere

/-- The distance of a start below the next sequence number, on the ring (R177). -/
def readBack (s : State) (start : Nat) : Nat := (s.logNext + (4294967296 - start)) % 4294967296

section
variable {start count : Nat} (ring : start < 4294967296)
include ring

theorem readLog_held (held : s.readBack start ≤ s.log.length) :
    s.readLog start count = ((s.log.drop (s.log.length - s.readBack start)).take (min 8 count), false) := by
  have back : (s.logNext + 4294967296 - start % 4294967296) % 4294967296 = s.readBack start := by
    rw [readBack, Nat.mod_eq_of_lt ring, Nat.add_sub_assoc (Nat.le_of_lt ring)]
  simp only [readLog, back]
  exact if_pos held

theorem readLog_gap (gone : s.log.length < s.readBack start) :
    s.readLog start count = (s.log.take (min 8 count), true) := by
  have back : (s.logNext + 4294967296 - start % 4294967296) % 4294967296 = s.readBack start := by
    rw [readBack, Nat.mod_eq_of_lt ring, Nat.add_sub_assoc (Nat.le_of_lt ring)]
  simp only [readLog, back]
  exact if_neg (Nat.not_le.mpr gone)

/-- The entry as far from the end as the start is below the next number bears the start's number. -/
theorem seq_at_start (sound : s.LogSound) (held : s.readBack start ≤ s.log.length) {j : Nat}
    (within : j < s.readBack start) :
    (s.log[s.log.length - s.readBack start + j]?).map AsRun.seq = some ((start + j) % 4294967296) := by
  have inside : s.log.length - s.readBack start + j < s.log.length := by omega
  have stands := List.getElem?_eq_getElem inside
  have last := seq_to_next sound.rising sound.last stands
  have fits := sound.fits _ (List.getElem_mem inside)
  have short := sound.short
  have next := sound.next
  rw [stands, Option.map_some, Option.some_inj]
  unfold readBack at *
  omega

end

end State

end Sys2Proof.Machine

namespace Sys2Proof.Queries
open Sys2Proof.Machine

/-- Settles O50: each query's items, their parts and places, their layouts, and the entries a read returns. -/
theorem queriesAnswerWithTheirItems : Obligations.QueriesAnswerWithTheirItems := by
  refine ⟨⟨fun rx s src dst tag code bs => ?queries, fun s dst tag code items => ⟨?frame, rfl⟩,
    fun s m one => ?place, fun items => ?parts⟩, fun s => ?items, fun s start count sound ring => ?read⟩
  case frame => exact State.answer_sameButClassOne dst tag code items
  case queries =>
    intro t heard one normal
    refine ⟨fun read => ?station, fun c read => ?channel, fun c start count read => ?list,
      fun start count read => State.exec_queryAsrun heard one normal read⟩
    case station =>
      rw [State.exec_queryStation heard one normal read, State.stationReply]
      rfl
    case channel =>
      intro watch slot rest
      refine ⟨fun watched => ?_, fun unwatched => ?_⟩
      · rw [State.exec_queryChannel heard one normal read, State.queryChannelCmd_watched watched,
          State.channelReply_watched watched]
        rfl
      · rw [State.exec_queryChannel heard one normal read, State.queryChannelCmd_unwatched unwatched,
          State.channelReply_unwatched unwatched]
        rfl
    case list =>
      intro served
      rw [State.exec_queryList heard one normal read]
      refine ⟨fun unwatched => ?_, fun watched zero => ?_, fun watched named missing => ?_,
        fun watched named found => ?_⟩
      · rw [State.queryListCmd_unwatched unwatched]
      · rw [zero, State.queryListCmd_run watched State.listRun_zero]
      · rw [State.queryListCmd_notFound watched (State.listRun_missing named missing)]
      · rw [State.queryListCmd_run watched (State.listRun_found named found)]
  case place =>
    refine ⟨State.offerReply_room, State.offerReply_dropped, fun as e bs full queue waits reply before => ?_⟩
    have queued : e ∈ s.line.q1 := queue ▸ List.mem_append_right as List.mem_cons_self
    rw [State.offerReply_replaces full (State.waiting_of_mem queued waits reply), State.enqueue_one one]
    exact congrArg (· ++ _) ((congrArg (State.dropFirst _) queue).trans (dropFirst_append before waits reply))
  case parts =>
    obtain ⟨group, groups, whole, parts⟩ := packItems_groups [] items
    exact ⟨group :: groups, whole, parts, packItems_short (Nat.zero_le _)⟩
  case items =>
    intro laid pos bit no claim flag signed
    have position (p : Option Pos) : pos p = replyPos s.rate p := (replyPos_fields s.rate p).symm
    have flagged (b : Bool) : bit b = [flagByte b] := rfl
    have numbered (c : Option Chan) : no c = toBE 1 (chanNo? c) := rfl
    have claimed (k : Option Claim) : claim k = State.claimPart k := by rw [State.claimPart, map_getD_elim]; rfl
    have evidence (f : EvFlag) : flag f = State.flagPart s.rate f := by rw [State.flagPart, ← position]; rfl
    have number (n : Int) : signed n = toBESigned n := (toBESigned_clamped n).symm
    have late (n : Option Int) : n.elim (toBE 4 2147483648) signed = replyLate n := by
      cases n with
      | none => rfl
      | some n => exact number n
    simp only [position, flagged, numbered, claimed, evidence, number, late]
    clear_value pos bit no claim flag signed
    refine ⟨?station, ?slot, ?probe, ?peer, ?replica, ?watch, ?source, ?view, ?exclusion, ?plan, ?handback, ?event,
      ?asrun, ?final⟩
    case station => exact item_laid (by simp) (by simp)
    case slot => exact fun n => item_laid (by simp [map_getD_elim, levelsByte_lines]) (by simp)
    case probe => exact fun p => item_laid (by simp) (by simp)
    case peer =>
      refine fun a => ⟨fun own => ?_, fun other => ?_⟩
      · exact item_laid (by simp [own, toBE]) (by simp)
      · exact item_laid (by simp [other, codeOr0]) (by simp)
    case replica => exact fun c => item_laid (by simp [map_getD_elim, codeOr0_map, State.age]; rfl) (by simp)
    case watch => exact fun c w => item_laid (by simp only [beatPart_fields]; simp) (by simp)
    case source => exact fun x => item_laid (by simp [replyAge, State.age]) (by simp)
    case view => exact fun c => item_laid (by simp [map_getD_elim]) (by simp)
    case exclusion => exact fun c x => item_laid (by simp) (by simp)
    case plan => exact fun p => item_laid (by simp) (by simp)
    case handback => exact fun p => item_laid (by simp) (by simp)
    case event => exact fun p => item_laid (by simp [Derived.resolved]) (by simp)
    case asrun => exact fun p => item_laid (by simp [codeOr0]) (by simp)
    case final => exact fun p => item_laid (by simp) (by simp)
  case read =>
    intro d k
    have distance : d = s.readBack start := rfl
    clear_value d
    subst distance
    refine ⟨fun zero => ?_, fun some held => ?_, fun gone => State.readLog_gap ring gone⟩
    · rw [State.readLog_held ring (zero ▸ Nat.zero_le _), zero, Nat.sub_zero, List.drop_length, List.take_nil]
    · rw [State.readLog_held ring held]
      refine ⟨rfl, ?_, fun j within => ?_⟩
      · rw [List.length_take, List.length_drop, Nat.sub_sub_self held]
      · obtain ⟨counted, near⟩ := lt_min_iff.mp within
        rw [List.getElem?_take_of_lt counted, List.getElem?_drop]
        exact State.seq_at_start ring sound held near

end Sys2Proof.Queries

/-! ## What leaves class 0 and what waits for it (R166, R174, R182)

Class 0, the outbox and the cancels that wait: what a release does after its messages leaves all three. -/

namespace Sys2Proof.Machine.State

variable {s : State}

/-- Class 0, the outbox and the cancels that wait. -/
def urgent (s : State) : List QEntry × List OutMsg × List OutMsg := (s.line.q0, s.line.outbox, s.line.cancels)

theorem urgent_q0 {t : State} (h : t.urgent = s.urgent) : t.line.q0 = s.line.q0 := congrArg Prod.fst h
theorem urgent_outbox {t : State} (h : t.urgent = s.urgent) : t.line.outbox = s.line.outbox := congrArg (·.2.1) h
theorem urgent_cancels {t : State} (h : t.urgent = s.urgent) : t.line.cancels = s.line.cancels := congrArg (·.2.2) h

@[simp] theorem modChan_urgent (c : Chan) (f : ChannelRec → ChannelRec) : (s.modChan c f).urgent = s.urgent := rfl
@[simp] theorem modView_urgent (c : Chan) (f : View → View) : (s.modView c f).urgent = s.urgent := rfl
@[simp] theorem modWatch_urgent (c : Chan) (f : WatchRec → WatchRec) : (s.modWatch c f).urgent = s.urgent := rfl
@[simp] theorem modSlot_urgent (n : SlotId) (f : Slot → Slot) : (s.modSlot n f).urgent = s.urgent := rfl
@[simp] theorem freeParked_urgent (c : Chan) (p : Parked → Bool) : (s.freeParked c p).urgent = s.urgent := rfl

@[simp] theorem setRepl_urgent (f : Replication → Replication) : (s.setRepl f).urgent = s.urgent := rfl
@[simp] theorem takeBack_two_urgent (p : OutMsg → Bool) : (s.takeBack .two p).urgent = s.urgent := rfl

variable (s)

@[simp] theorem offerBeacon_urgent : s.offerBeacon.urgent = s.urgent := by unfold offerBeacon; (repeat' split) <;> rfl
@[simp] theorem putVerdict_urgent (p : ProbeId) : (s.putVerdict p).urgent = s.urgent := by
  unfold putVerdict; dsimp only; (repeat' split) <;> rfl
@[simp] theorem beaconRetry_urgent : s.beaconRetry.urgent = s.urgent := by unfold beaconRetry; split <;> simp
@[simp] theorem beforeVerdict_urgent (k : Nat) : (s.beforeVerdict k).urgent = s.urgent := by
  unfold beforeVerdict; split
  · exact forProbes_keeps (P := fun t => t.urgent = s.urgent) (fun p t h => by split <;> simp [h]) _ (by simp)
  · rfl

/-! ### A walk (R25, R59) -/

variable (c : Chan)

@[simp] theorem imageTouched_urgent : (s.imageTouched c).urgent = s.urgent := by
  unfold imageTouched; (repeat' split) <;> rfl
@[simp] theorem trim_urgent : (s.trim c).urgent = s.urgent := by
  unfold trim; dsimp only; split
  · rfl
  · exact imageTouched_urgent _ c
@[simp] theorem armIfReady_urgent (n : SlotId) : (s.armIfReady n).urgent = s.urgent := by
  unfold armIfReady; (repeat' split) <;> rfl
@[simp] theorem rearm_urgent (n : SlotId) : (s.rearm n).urgent = s.urgent := by
  unfold rearm; (repeat' split) <;> simp
@[simp] theorem refreshEnd_urgent (n : SlotId) : (s.refreshEnd n).urgent = s.urgent := by
  unfold refreshEnd; split <;> rfl
@[simp] theorem refill_urgent (n : SlotId) : (s.refill n).urgent = s.urgent := by unfold refill; split <;> rfl
@[simp] theorem loseEvent_urgent (n : SlotId) (id : Nat) : (s.loseEvent n c id).urgent = s.urgent := by
  unfold loseEvent; dsimp only; split <;> simp
@[simp] theorem afterWalk_urgent : (s.afterWalk c).urgent = s.urgent := by
  unfold afterWalk; dsimp only; (repeat' split) <;> simp
@[simp] theorem walkOwn_urgent : (s.walkOwn c).urgent = s.urgent := by
  unfold walkOwn; split
  · simp [markPast]
  · rfl
@[simp] theorem walk_urgent : (s.walk c).urgent = s.urgent := by
  rw [walk, foldl_keeps urgent fun t f => walkOwn_urgent t f]; exact walkOwn_urgent s c
@[simp] theorem removeAnchor_urgent : (s.removeAnchor c).urgent = s.urgent := walk_urgent _ c

/-! ### A replica and its request (R49 to R53, R59) -/

@[simp] theorem answerNone_urgent (dst : Addr) (b : Byte) : (s.answerNone dst b).urgent = s.urgent := by
  unfold answerNone; split <;> rfl
@[simp] theorem dropService_urgent : (s.dropService c).urgent = s.urgent := by
  unfold dropService; dsimp only; (repeat' split) <;> simp
@[simp] theorem freeShadow_urgent : (s.freeShadow c).urgent = s.urgent := by unfold freeShadow; split <;> rfl
@[simp] theorem abandonLoad_urgent : (s.abandonLoad c).urgent = s.urgent := by
  unfold abandonLoad; split
  · exact freeShadow_urgent s c
  · rfl
@[simp] theorem setStale_urgent (cause : StaleCause) : (s.setStale c cause).urgent = s.urgent := by
  unfold setStale; dsimp only; split
  · rfl
  · refine (freeShadow_urgent _ c).trans ?_
    split
    · exact dropService_urgent s c
    · rfl
@[simp] theorem putAsk_urgent : (s.putAsk c).urgent = s.urgent := by
  unfold putAsk; (repeat' split) <;> rfl
@[simp] theorem beforeAsk_urgent : (s.beforeAsk c).urgent = s.urgent := by
  unfold beforeAsk; split
  · exact forChans_keeps (P := fun t => t.urgent = s.urgent) (fun d t h => by split <;> simp [h]) _ (by simp)
  · rfl
@[simp] theorem chooseTarget_urgent : (s.chooseTarget c).urgent = s.urgent := by
  unfold chooseTarget; (repeat' split)
  · rfl
  · rfl
  · rw [askTarget, putAsk_urgent, beforeAsk_urgent]; rfl
@[simp] theorem newRound_urgent : (s.newRound c).urgent = s.urgent := by
  rw [newRound, chooseTarget_urgent]; rfl
@[simp] theorem beginRequest_urgent : (s.beginRequest c).urgent = s.urgent := by
  unfold beginRequest; split
  · exact newRound_urgent _ c
  · rfl
@[simp] theorem roundAgain_urgent : (s.roundAgain c).urgent = s.urgent := by unfold roundAgain; split <;> simp
@[simp] theorem makeStale_urgent (cause : StaleCause) : (s.makeStale c cause).urgent = s.urgent := by simp [makeStale]
@[simp] theorem epochTouched_urgent (e : Nat) : (s.epochTouched c e).urgent = s.urgent := by
  unfold epochTouched; split <;> simp

/-! ### Authority and holders (R50, R73, R81, R83, R108, R109) -/

@[simp] theorem takeChanges_urgent (e : Nat) : (s.takeChanges c e).urgent = s.urgent := by
  unfold takeChanges; dsimp only; split <;> simp
@[simp] theorem mainReturns_urgent (e : Option Nat) : (s.mainReturns c e).urgent = s.urgent := by
  simp [mainReturns]
@[simp] theorem authorityTest_urgent : (s.authorityTest c).urgent = s.urgent := by
  unfold authorityTest; (repeat' split) <;> simp
@[simp] theorem evaluate_urgent : (s.evaluate c).urgent = s.urgent := by
  unfold evaluate; dsimp only; (repeat' split)
  · exact authorityTest_urgent _ c
  · rfl
  · rfl
@[simp] theorem setHolder_urgent (a : Addr) (e : Nat) (k : Option Claim) : (s.setHolder c a e k).urgent = s.urgent := by
  rw [setHolder_eq, evaluate_urgent, holderSet, takeChanges_urgent]; rfl
@[simp] theorem acceptTake_urgent (a : Addr) (e : Nat) (k : Option Claim) :
    (s.acceptTake c a e k).urgent = s.urgent := by unfold acceptTake; dsimp only; split <;> simp

end Sys2Proof.Machine.State

/-! ## A release by its steps (R165) -/

namespace Sys2Proof.Machine.State

variable {s : State} {n m : SlotId} {c d : Chan} {r : ReleaseReason}

/-! ### The steps -/

/-- Steps 1 to 3: the plan cancelled, STOP and the lines off. -/
def silenced (s : State) (n : SlotId) (c : Chan) (r : ReleaseReason) : State :=
  ((s.cancelPlan n c r).emit n .stop).linesOff n

/-- The event a RELEASE entry bears. -/
def releaseEvent (s : State) (n : SlotId) (r : ReleaseReason) : Option Nat :=
  if r = .handback then (s.slot n).handback.map HandbackPlan.event else (s.slot n).cur.bind Cue.event

/-- The return epoch a RELEASE carries. -/
def releaseReturn (s : State) (n : SlotId) (r : ReleaseReason) : Option Nat :=
  if r = .handback then (s.slot n).handback.map HandbackPlan.returnEpoch else none

/-- The RELEASE broadcast. -/
def releaseMsg (s : State) (n : SlotId) (c : Chan) (r : ReleaseReason) : OutMsg :=
  .release c r s.now (s.releaseReturn n r) s.loader.releasePhase.isSome

/-- Steps 1 to 6: the slot is left and the RELEASE waits for the line. -/
def departed (s : State) (n : SlotId) (c : Chan) (r : ReleaseReason) : State :=
  ((s.silenced n c r).vacate n c).offerRelease (s.releaseMsg n c r)

/-- A HANDBACK returns authority. -/
def handbackReturns (s : State) (c : Chan) (r : ReleaseReason) (ret : Option Nat) : State :=
  if r = .handback then s.mainReturns c ret else s

/-- But for a DUPLICATE the health begins afresh. -/
def healthAfresh (s : State) (c : Chan) (r : ReleaseReason) : State :=
  if r = .duplicate then s else s.restartHealth c

/-- What follows a release by its reason: the test of R81, and ineligibility after an air fault. -/
def aftermath (s : State) (c : Chan) (regained : Pos) : ReleaseReason → State
  | .handback | .duplicate => s
  | .airFault => (s.authorityTest c).modView c fun v => { v with ineligible := some regained }
  | _ => s.authorityTest c

theorem releaseSlot_eq (held : (s.slot n).chan = some c) (r : ReleaseReason) : s.releaseSlot n r =
    ((((((s.departed n c r).releaseView c r).handbackReturns c r (s.releaseReturn n r)).writeEntry .release (some n)
      (some c) (s.releaseEvent n r) none (some r)).healthAfresh c r).aftermath c (s.now.add s.rate 1500) r) := by
  simp only [releaseSlot, held]
  cases r <;> rfl

/-! ### The clock and the walk of a state with the same channels -/

section
variable {t : State} (same : t.base = s.base)
include same

theorem now_of_base : t.now = s.now := congrArg TimeBase.pos (base_time same)
theorem rate_of_base : t.rate = s.rate := congrArg (fun l : Loader => l.cfg.rate) (base_loader same)
theorem cfg_of_base : t.cfg = s.cfg := congrArg Loader.cfg (base_loader same)

theorem walkOwn_chan_congr (chans : t.chans = s.chans) : (t.walkOwn c).chan c = (s.walkOwn c).chan c := by
  have record := chan_congr chans
  have leader : t.leaderStart c = s.leaderStart c := by
    funext key
    simp only [leaderStart, leaderOf, record]
  cases watched : (s.chan c).watched with
  | false => rw [walkOwn_of_unwatched s watched, walkOwn_of_unwatched t (by rw [record, watched]), record]
  | true =>
    rw [walkOwn_chan s watched, walkOwn_chan t (by rw [record, watched]), record, walked, record, leader,
      rate_of_base same, now_of_base same, walked]

end

theorem leaderOf_congr {t : State} (profiles : ∀ d, (t.chan d).profile = (s.chan d).profile) :
    t.leaderOf d = s.leaderOf d := by
  simp only [leaderOf, profiles]

/-! ### The slots and channels a walk leaves -/

theorem walkOwn_slot_elsewhere (away : (s.slot m).chan ≠ some c) : (s.walkOwn c).slot m = s.slot m :=
  walkOwn_slot_away fun holding => away (holdingSlot_eq_some.mp holding).1.2

theorem foldl_walkOwn_slot_elsewhere {fs : List Chan} (away : ∀ f ∈ fs, (s.slot m).chan ≠ some f) :
    (fs.foldl (fun t f => t.walkOwn f) s).slot m = s.slot m := by
  induction fs generalizing s with
  | nil => rfl
  | cons f fs ih =>
    obtain ⟨first, rest⟩ := List.forall_mem_cons.mp away
    have stands := walkOwn_slot_elsewhere first
    rw [List.foldl_cons, ih (by rw [stands]; exact rest), stands]

/-- A slot of neither the channel nor a follower of it. -/
def Elsewhere (s : State) (c : Chan) (m : SlotId) : Prop :=
  ∀ d, (s.slot m).chan = some d → d ≠ c ∧ s.leaderOf d ≠ some c

theorem walk_slot_elsewhere (away : s.Elsewhere c m) : (s.walk c).slot m = s.slot m := by
  have own : (s.walkOwn c).slot m = s.slot m := walkOwn_slot_elsewhere fun held => (away c held).1 rfl
  rw [walk, foldl_walkOwn_slot_elsewhere, own]
  intro f follower
  rw [own]
  exact fun held => (away f held).2 (s.mem_followersOf.mp follower)

theorem walk_chan_elsewhere (other : d ≠ c) (leads : s.leaderOf d ≠ some c) : (s.walk c).chan d = s.chan d := by
  rw [walk, foldl_walkOwn_chan, walkOwn_chan_other s other]
  intro f follower same
  exact leads (same ▸ s.mem_followersOf.mp follower)

/-! ### Steps 1 to 3 -/

/-- LINE off for each line that is on, in line order. -/
def lineWords (s : State) (n : SlotId) : List Output :=
  ((List.finRange 4).filter fun l => (s.slot n).lines.get l).map fun l => .word n (.line l false)

theorem linesOff_eq (s : State) (n : SlotId) : s.linesOff n = { s with out := s.out ++ s.lineWords n } := by
  rw [lineWords]
  rw [linesOff]
  generalize (s.slot n).lines = levels, List.finRange 4 = ls
  induction ls generalizing s with
  | nil => simp
  | cons l ls ih =>
    rw [List.foldl_cons, ih]
    cases on : levels.get l <;> simp [on, emit]

theorem cancelPlan_kept (kept : (s.slot n).handback = none ∨ r = .handback) : s.cancelPlan n c r = s := by
  unfold cancelPlan
  split
  next h plan => exact if_pos (kept.resolve_left (by rw [plan]; exact Option.some_ne_none h))
  next => rfl

theorem cancelPlan_cancels {h : HandbackPlan} (plan : (s.slot n).handback = some h) (ends : r ≠ .handback) :
    s.cancelPlan n c r =
      (s.offerCancel (.handover c h.event h.boundary h.returnEpoch true)).slotEntry n .handbackAborted (some h.event)
        none := by
  simp only [cancelPlan, plan, if_neg ends]

/-- A cancel and its entry move the line and the log alone. -/
theorem cancelPlan_eq (s : State) (n : SlotId) (c : Chan) (r : ReleaseReason) : ∃ line log next,
    s.cancelPlan n c r = { s with line := line, log := log, logNext := next } := by
  by_cases kept : (s.slot n).handback = none ∨ r = .handback
  · exact ⟨s.line, s.log, s.logNext, cancelPlan_kept kept⟩
  · obtain ⟨some, ends⟩ := not_or.mp kept
    obtain ⟨h, plan⟩ := Option.ne_none_iff_exists'.mp some
    obtain ⟨l, offered⟩ := s.offerCancel_line (.handover c h.event h.boundary h.returnEpoch true)
    rw [cancelPlan_cancels plan ends, offered]
    exact ⟨_, _, _, rfl⟩

theorem silenced_eq (s : State) (n : SlotId) (c : Chan) (r : ReleaseReason) : s.silenced n c r =
    { s.cancelPlan n c r with out := s.out ++ .word n .stop :: s.lineWords n } := by
  obtain ⟨line, log, next, cancelled⟩ := s.cancelPlan_eq n c r
  rw [silenced, linesOff_eq, cancelled]
  simp only [emit, List.append_assoc]
  rfl

/-- What the words and a cancel leave of the state. -/
theorem silenced_kept (s : State) (n : SlotId) (c : Chan) (r : ReleaseReason) :
    (s.silenced n c r).base = s.base ∧ (s.silenced n c r).chans = s.chans ∧ (s.silenced n c r).watch = s.watch ∧
      (s.silenced n c r).views = s.views ∧ (s.silenced n c r).slots = s.slots := by
  obtain ⟨line, log, next, cancelled⟩ := s.cancelPlan_eq n c r
  rw [silenced_eq, cancelled]
  exact ⟨rfl, rfl, rfl, rfl, rfl⟩

/-! ### Steps 4 and 5 -/

/-- The record of a channel without its anchor. -/
def unanchored (s : State) (c : Chan) : State := s.modChan c fun ch => { ch with anchor := none }

theorem unanchored_leaderOf : (s.unanchored c).leaderOf d = s.leaderOf d := by
  refine leaderOf_congr fun e => ?_
  rw [unanchored, modChan_chan_eq]
  split <;> rfl

theorem Elsewhere.unanchored (away : s.Elsewhere c m) : (s.unanchored c).Elsewhere c m := fun d held => by
  rw [unanchored_leaderOf]
  exact away d held

theorem airEvent_isSome {ch : ChannelRec} :
    ch.airEvent.isSome = true ↔ ∃ a, ch.anchor = some a ∧ a.source = .air := by
  cases anchor : ch.anchor with
  | none => simp [ChannelRec.airEvent, anchor]
  | some a => by_cases air : a.source = .air <;> simp [ChannelRec.airEvent, anchor, air]

/-- The slot discarded but for its tally pin. -/
def slotLeft (s : State) (n : SlotId) : State := s.modSlot n fun x => { Slot.reset x.tally with stepsDone := 9 }

theorem vacate_air (air : (s.chan c).airEvent.isSome = true) :
    s.vacate n c = ((s.slotLeft n).unanchored c).walk c := by
  rw [vacate, if_pos air]
  rfl

theorem vacate_still (still : (s.chan c).airEvent.isSome = false) : s.vacate n c = s.slotLeft n := by
  rw [vacate, if_neg (Bool.eq_false_iff.mp still)]
  rfl

theorem vacate_kept (s : State) (n : SlotId) (c : Chan) : (s.vacate n c).base = s.base ∧
    (s.vacate n c).views = s.views ∧ (s.vacate n c).watch = s.watch ∧ (s.vacate n c).urgent = s.urgent := by
  cases air : (s.chan c).airEvent.isSome with
  | true => rw [vacate_air air]; simp [unanchored, slotLeft]
  | false => rw [vacate_still air]; simp [slotLeft]

theorem slotLeft_elsewhere : (s.slotLeft n).Elsewhere c n := fun d held => by
  rw [slotLeft, modSlot_slot] at held
  cases held

theorem vacate_slot (s : State) (n : SlotId) (c : Chan) :
    (s.vacate n c).slot n = { Slot.reset (s.slot n).tally with stepsDone := 9 } := by
  have left : (s.slotLeft n).slot n = { Slot.reset (s.slot n).tally with stepsDone := 9 } := modSlot_slot ..
  cases air : (s.chan c).airEvent.isSome with
  | true =>
    rw [vacate_air air, walk_slot_elsewhere slotLeft_elsewhere.unanchored, ← left]
    rfl
  | false => rw [vacate_still air, left]

theorem vacate_slot_elsewhere (other : m ≠ n) (away : s.Elsewhere c m) : (s.vacate n c).slot m = s.slot m := by
  have left : (s.slotLeft n).slot m = s.slot m := modSlot_slot_other _ _ _ _ other.symm
  cases air : (s.chan c).airEvent.isSome with
  | true =>
    have still : (s.slotLeft n).Elsewhere c m := fun d held => away d (left ▸ held)
    rw [vacate_air air, walk_slot_elsewhere still.unanchored]
    exact left
  | false => rw [vacate_still air, left]

theorem vacate_chan_elsewhere (other : d ≠ c) (leads : s.leaderOf d ≠ some c) :
    (s.vacate n c).chan d = s.chan d := by
  cases air : (s.chan c).airEvent.isSome with
  | true =>
    rw [vacate_air air, walk_chan_elsewhere other (by rw [unanchored_leaderOf]; exact leads)]
    exact modChan_chan_other _ c d _ other.symm
  | false => rw [vacate_still air]; rfl

theorem vacate_chan_air (air : (s.chan c).airEvent.isSome = true) :
    (s.vacate n c).chan c = ((s.unanchored c).walk c).chan c := by
  rw [vacate_air air, walk_chan, walk_chan]
  exact walkOwn_chan_congr rfl rfl

theorem unanchored_walk_chan : ((s.unanchored c).walk c).chan c =
    { s.chan c with anchor := none, list := (((s.unanchored c).walk c).chan c).list } := by
  have record : (s.unanchored c).chan c = { s.chan c with anchor := none } := modChan_chan s c _
  rw [walk_chan]
  cases watched : ((s.unanchored c).chan c).watched with
  | false => rw [walkOwn_of_unwatched _ watched, record]
  | true => rw [walkOwn_chan _ watched, record]

theorem vacate_chan_still (still : (s.chan c).airEvent.isSome = false) : (s.vacate n c).chan c = s.chan c := by
  rw [vacate_still still]
  rfl

/-! ### Step 6: what has waited stays (R166, R174) -/

/-- A message stands in class 0. -/
def InClassZero (s : State) (m : OutMsg) : Prop := ∃ q ∈ s.line.q0, q.msg = m

theorem InClassZero.congr {t : State} {x : OutMsg} (stands : s.InClassZero x) (same : t.urgent = s.urgent) :
    t.InClassZero x := by
  rwa [InClassZero, urgent_q0 same]

section
variable {x y : OutMsg}

theorem InClassZero.enqueue (stands : s.InClassZero x) : (s.enqueue y).InClassZero x := by
  obtain ⟨q, queued, msg⟩ := stands
  rw [State.enqueue]
  cases y.cls with
  | zero => exact ⟨q, List.mem_append_left _ queued, msg⟩
  | one => exact ⟨q, queued, msg⟩
  | two => exact ⟨q, queued, msg⟩

theorem inClassZero_enqueue (urgent : x.cls = .zero) : (s.enqueue x).InClassZero x := by
  rw [State.enqueue, urgent]
  exact ⟨⟨x, false⟩, List.mem_append_right _ List.mem_cons_self, rfl⟩

theorem InClassZero.drainInto {ms : List OutMsg} (stands : s.InClassZero x) :
    (State.drainInto ms s).1.InClassZero x := by
  induction ms generalizing s with
  | nil => exact stands
  | cons m ms ih =>
    rw [State.drainInto]
    split
    · exact ih stands.enqueue
    · exact stands

theorem InClassZero.offerRelease (stands : s.InClassZero x) : (s.offerRelease y).InClassZero x := by
  have offered : s.offerOutbox.InClassZero x := stands.drainInto (ms := s.line.outbox)
  unfold State.offerRelease
  dsimp only
  split
  · exact offered.enqueue
  · exact offered

theorem offerRelease_cancels : (s.offerRelease y).line.cancels = s.line.cancels := by
  have enters (t : State) : (t.enqueue y).line.cancels = t.line.cancels := by rw [State.enqueue]; cases y.cls <;> rfl
  unfold State.offerRelease
  dsimp only
  split
  · rw [enters, offerOutbox_cancels]
  · exact offerOutbox_cancels s

theorem offerRelease_waits (urgent : x.cls = .zero) :
    (s.offerRelease x).InClassZero x ∨ x ∈ (s.offerRelease x).line.outbox := by
  unfold State.offerRelease
  dsimp only
  split
  · exact .inl (inClassZero_enqueue urgent)
  · exact .inr (List.mem_append_right _ List.mem_cons_self)

theorem offerCancel_waits (urgent : x.cls = .zero) :
    (s.offerCancel x).InClassZero x ∨ x ∈ (s.offerCancel x).line.cancels := by
  unfold State.offerCancel
  dsimp only
  split
  · exact .inl (inClassZero_enqueue urgent)
  · exact .inr (List.mem_append_right _ List.mem_cons_self)

end

/-! ### The slot left (R165 steps 1 to 6) -/

theorem offerRelease_watch (s : State) (x : OutMsg) : (s.offerRelease x).watch = s.watch := by
  obtain ⟨l, offered⟩ := s.offerRelease_line x
  rw [offered]
  rfl

theorem departed_kept (s : State) (n : SlotId) (c : Chan) (r : ReleaseReason) : (s.departed n c r).base = s.base ∧
    (s.departed n c r).views = s.views ∧ (s.departed n c r).watch = s.watch := by
  obtain ⟨base, -, watch, views, -⟩ := s.silenced_kept n c r
  obtain ⟨base', views', watch', -⟩ := (s.silenced n c r).vacate_kept n c
  rw [departed, base_offerRelease, offerRelease_views, offerRelease_watch, base', views', watch']
  exact ⟨base, views, watch⟩

theorem departed_chan_eq (d : Chan) : (s.departed n c r).chan d = ((s.silenced n c r).vacate n c).chan d :=
  chan_congr (offerRelease_chans _ _) d

theorem departed_slot_eq (m : SlotId) : (s.departed n c r).slot m = ((s.silenced n c r).vacate n c).slot m :=
  slot_congr (offerRelease_slots _ _) m

theorem departed_slot : (s.departed n c r).slot n = { Slot.reset (s.slot n).tally with stepsDone := 9 } := by
  obtain ⟨-, -, -, -, slots⟩ := s.silenced_kept n c r
  rw [departed_slot_eq, vacate_slot, slot_congr slots]

theorem silenced_leaderOf : (s.silenced n c r).leaderOf d = s.leaderOf d := by
  obtain ⟨-, chans, -⟩ := s.silenced_kept n c r
  exact leaderOf_congr fun e => by rw [chan_congr chans]

theorem departed_slot_elsewhere (other : m ≠ n) (away : s.Elsewhere c m) :
    (s.departed n c r).slot m = s.slot m := by
  obtain ⟨-, -, -, -, slots⟩ := s.silenced_kept n c r
  have still : (s.silenced n c r).Elsewhere c m := fun d held => by
    rw [silenced_leaderOf]
    exact away d (slot_congr slots m ▸ held)
  rw [departed_slot_eq, vacate_slot_elsewhere other still, slot_congr slots]

theorem departed_chan_elsewhere (other : d ≠ c) (leads : s.leaderOf d ≠ some c) :
    (s.departed n c r).chan d = s.chan d := by
  obtain ⟨-, chans, -⟩ := s.silenced_kept n c r
  rw [departed_chan_eq, vacate_chan_elsewhere other (by rw [silenced_leaderOf]; exact leads),
    chan_congr chans]

theorem departed_chan_air (air : (s.chan c).airEvent.isSome = true) : (s.departed n c r).chan c =
    { s.chan c with anchor := none, list := (((s.unanchored c).walk c).chan c).list } := by
  obtain ⟨base, chans, -⟩ := s.silenced_kept n c r
  have bare : ((s.silenced n c r).unanchored c).chans = (s.unanchored c).chans := by
    rw [unanchored, unanchored, modChan, modChan, chans]
  rw [departed_chan_eq, vacate_chan_air (by rw [chan_congr chans]; exact air), ← unanchored_walk_chan, walk_chan,
    walk_chan]
  exact walkOwn_chan_congr base bare

theorem departed_chan_still (still : (s.chan c).airEvent.isSome = false) :
    (s.departed n c r).chan c = s.chan c := by
  obtain ⟨-, chans, -⟩ := s.silenced_kept n c r
  rw [departed_chan_eq, vacate_chan_still (by rw [chan_congr chans]; exact still), chan_congr chans]

theorem departed_told (s : State) (n : SlotId) (c : Chan) (r : ReleaseReason) : (s.departed n c r).told =
    (s.out ++ .word n .stop :: s.lineWords n, (s.cancelPlan n c r).log, (s.cancelPlan n c r).logNext) := by
  rw [departed, offerRelease_told, vacate_told, silenced_eq]
  rfl

theorem departed_out (s : State) (n : SlotId) (c : Chan) (r : ReleaseReason) :
    (s.departed n c r).out = s.out ++ .word n .stop :: s.lineWords n := by
  have leaves := s.departed_told n c r
  rw [told, Prod.mk.injEq] at leaves
  exact leaves.1

theorem departed_releases (s : State) (n : SlotId) (c : Chan) (r : ReleaseReason) :
    (s.departed n c r).InClassZero (s.releaseMsg n c r) ∨ s.releaseMsg n c r ∈ (s.departed n c r).line.outbox := by
  rw [departed]
  exact offerRelease_waits rfl

/-- A plan that the release ends: its cancel waits for the line. -/
theorem departed_cancels {h : HandbackPlan} (plan : (s.slot n).handback = some h) (ends : r ≠ .handback) :
    (s.departed n c r).InClassZero (.handover c h.event h.boundary h.returnEpoch true) ∨
      .handover c h.event h.boundary h.returnEpoch true ∈ (s.departed n c r).line.cancels := by
  have offered := s.offerCancel_waits (x := .handover c h.event h.boundary h.returnEpoch true) rfl
  have vacated : ((s.silenced n c r).vacate n c).urgent =
      (s.offerCancel (.handover c h.event h.boundary h.returnEpoch true)).urgent := by
    obtain ⟨-, -, -, urgent⟩ := (s.silenced n c r).vacate_kept n c
    rw [urgent, silenced_eq, cancelPlan_cancels plan ends]
    rfl
  rw [departed, offerRelease_cancels, urgent_cancels vacated]
  exact offered.imp_left fun stands => (stands.congr vacated).offerRelease

end Sys2Proof.Machine.State

/-! ## What follows when the slot is left (R79, R81, R109, R110, R165) -/

namespace Sys2Proof.Machine.State

variable {s t u : State} {c d : Chan} {r : ReleaseReason}

/-- The other channels stand beside their requests, and the channel's own schedule stands. -/
structure KeepsSchedule (s t : State) (c : Chan) : Prop where
  others : ∀ d, d ≠ c → t.bare d = s.bare d
  anchor : (t.chan c).anchor = (s.chan c).anchor
  list : (t.chan c).list = (s.chan c).list

theorem KeepsSchedule.trans (first : KeepsSchedule s t c) (second : KeepsSchedule t u c) : KeepsSchedule s u c :=
  ⟨fun d other => (second.others d other).trans (first.others d other), second.anchor.trans first.anchor,
    second.list.trans first.list⟩

theorem keepsSchedule_of_chans (same : t.chans = s.chans) : KeepsSchedule s t c :=
  ⟨fun d _ => bare_congr same d, by rw [chan_congr same], by rw [chan_congr same]⟩

theorem KeepsSchedule.of_bare (h : KeepsSchedule s t c) (same : ∀ d, u.bare d = t.bare d) : KeepsSchedule s u c := by
  have own := chan_of_bare (same c)
  exact ⟨fun d other => (same d).trans (h.others d other), by rw [own]; exact h.anchor, by rw [own]; exact h.list⟩

theorem keepsSchedule_modChan {f : ChannelRec → ChannelRec} (anchor : ∀ ch, (f ch).anchor = ch.anchor)
    (list : ∀ ch, (f ch).list = ch.list) : KeepsSchedule s (s.modChan c f) c :=
  ⟨fun d other => by rw [bare, modChan_chan_other _ c d _ other.symm, bare], by rw [modChan_chan, anchor],
    by rw [modChan_chan, list]⟩

theorem keepsSchedule_freeShadow (s : State) (c : Chan) : KeepsSchedule s (s.freeShadow c) c := by
  unfold freeShadow
  split
  · refine KeepsSchedule.trans ?_ (keepsSchedule_of_chans (freeRecs_chans _ _))
    exact keepsSchedule_modChan (fun _ => rfl) fun _ => rfl
  · exact keepsSchedule_of_chans rfl

theorem keepsSchedule_abandonLoad (s : State) (c : Chan) : KeepsSchedule s (s.abandonLoad c) c := by
  unfold abandonLoad
  split
  · exact (keepsSchedule_freeShadow s c).trans (keepsSchedule_modChan (fun _ => rfl) fun _ => rfl)
  · exact keepsSchedule_of_chans rfl

theorem keepsSchedule_setStale (s : State) (c : Chan) (cause : StaleCause) :
    KeepsSchedule s (s.setStale c cause) c := by
  unfold setStale
  split
  · exact keepsSchedule_of_chans rfl
  · refine .trans (t := if (s.chan c).replica = .current then s.dropService c else s) ?_
      ((keepsSchedule_freeShadow _ c).trans (keepsSchedule_modChan (fun _ => rfl) fun _ => rfl))
    split
    · exact keepsSchedule_of_chans (dropService_chans s c)
    · exact keepsSchedule_of_chans rfl

theorem keepsSchedule_mainReturns (s : State) (c : Chan) (ret : Option Nat) :
    KeepsSchedule s (s.mainReturns c ret) c := by
  refine (KeepsSchedule.trans ?_ (keepsSchedule_setStale _ c .handback)).of_bare fun d => bare_roundAgain _ c d
  exact (keepsSchedule_of_chans (epochTouched_chans s c _)).trans (keepsSchedule_modChan (fun _ => rfl) fun _ => rfl)

theorem keepsSchedule_takeChanges (s : State) (c : Chan) (e : Nat) : KeepsSchedule s (s.takeChanges c e) c := by
  have before : KeepsSchedule s (s.underEpoch c e) c := by
    refine KeepsSchedule.trans ?_ (keepsSchedule_of_chans (freeParked_chans _ c _))
    exact (keepsSchedule_of_chans (epochTouched_chans s c e)).trans (keepsSchedule_modChan (fun _ => rfl) fun _ => rfl)
  refine (before.trans (keepsSchedule_abandonLoad _ c)).of_bare fun d => ?_
  unfold takeChanges
  dsimp only
  split
  · exact bare_newRound _ c d
  · rfl

theorem keepsSchedule_setHolder (s : State) (c : Chan) (a : Addr) (e : Nat) (k : Option Claim) :
    KeepsSchedule s (s.setHolder c a e k) c := by
  have set : KeepsSchedule s (s.holderSet c a e k) c :=
    .trans (t := (s.modView c _).clearOrphan c) (keepsSchedule_of_chans (clearOrphan_chans _ c))
      (keepsSchedule_takeChanges _ c e)
  rw [setHolder_eq]
  exact set.trans (keepsSchedule_of_chans (evaluate_chans_held holderSet_held))

theorem keepsSchedule_acceptTake (s : State) (c : Chan) (a : Addr) (e : Nat) (k : Option Claim) :
    KeepsSchedule s (s.acceptTake c a e k) c := by
  unfold acceptTake
  dsimp only
  split
  · exact ((keepsSchedule_setHolder s c a e k).trans (keepsSchedule_setStale _ c .diverged)).of_bare
      fun d => bare_makeStale _ c d .diverged
  · exact keepsSchedule_setHolder s c a e k

/-! ### The view at the release (R109, R110) -/

/-- The duplicate whose winner takes the channel over at a release, if it is one. -/
def winner (s : State) (c : Chan) (r : ReleaseReason) : Option Duplicate :=
  if r = .duplicate then (s.view c).duplicate else none

/-- The view of a channel whose holder is cleared. -/
def viewCleared (s : State) (c : Chan) : State :=
  ((s.dropHolder c).modView c fun v =>
    { v with contest := .idle, rival := none, own := none, duplicate := none }).clearOrphan c

/-- The view of a channel whose holder is the winner of a duplicate. -/
def viewLost (s : State) (c : Chan) (x : Duplicate) : State :=
  (s.acceptTake c x.addr x.epoch x.claim).modView c fun v =>
    { v with contest := .deferred, rival := none, own := none, duplicate := none }

theorem releaseView_cleared (none : s.winner c r = none) : s.releaseView c r = s.viewCleared c := by
  unfold releaseView
  split
  next x lost => rw [winner, if_pos rfl, lost] at none; cases none
  next => rfl

theorem releaseView_lost {x : Duplicate} (lost : (s.view c).duplicate = some x) :
    s.releaseView c .duplicate = s.viewLost c x := by
  simp only [releaseView, lost]
  rfl

theorem viewCleared_view : (s.viewCleared c).view c = { s.view c with
    holder := none, holderClaim := none, contest := .idle, rival := none, own := none, duplicate := none
    orphanSource := none } := by
  rw [viewCleared, clearOrphan_view, modView_view, dropHolder_view]

theorem viewCleared_watchRec {w : WatchRec} (rec : s.watchRec c = some w) :
    (s.viewCleared c).watchRec c = some { w with orphan := false } :=
  (modWatch_watchRec _ c _).trans (congrArg (Option.map _) rec)

theorem viewLost_view {x : Duplicate} : (s.viewLost c x).view c = { s.view c with
    holder := some x.addr, holderEpoch := x.epoch, holderClaim := x.claim, orphanSource := none, contest := .deferred
    rival := none, own := none, duplicate := none } := by
  rw [viewLost, modView_view, (heldBy_acceptTake s c x.addr x.epoch x.claim).view]

theorem viewLost_authority {x : Duplicate} : ((s.viewLost c x).chan c).authority = .site ∧
    ((s.viewLost c x).chan c).epoch = x.epoch ∧ ((s.viewLost c x).chan c).nextSeq = 0 := by
  have held := heldBy_acceptTake s c x.addr x.epoch x.claim
  exact ⟨held.authority, held.epoch, held.nextSeq⟩

theorem viewLost_watchRec {x : Duplicate} {w : WatchRec} (rec : s.watchRec c = some w) :
    (s.viewLost c x).watchRec c = some { w with
      orphan := false, health := healthChain s.cfg (w.evidence s.rate s.now true) 6 w.health } := by
  have set : (s.holderSet c x.addr x.epoch x.claim).watchRec c = some { w with orphan := false } :=
    (watchRec_congr (takeChanges_watch _ c x.epoch) c).trans
      ((modWatch_watchRec _ c _).trans (congrArg (Option.map _) rec))
  have base : (s.holderSet c x.addr x.epoch x.claim).base = s.base := by simp [holderSet]
  have held : ((s.setHolder c x.addr x.epoch x.claim).watchRec c) = some { w with
      orphan := false, health := healthChain s.cfg (w.evidence s.rate s.now true) 6 w.health } := by
    rw [setHolder_eq, evaluate_eq set, authorityTest_held, ite_self, settleHealth_watchRec set, holderSet_view,
      cfg_of_base base, rate_of_base base, now_of_base base]
    · rfl
    · rw [view_congr (settleHealth_views _ c _)]
      exact holderSet_held
  rw [viewLost, modView_watchRec]
  unfold acceptTake
  dsimp only
  split
  · rw [watchRec_congr (makeStale_watch _ c .diverged), held]
  · exact held

end Sys2Proof.Machine.State

/-! ## A release taken whole (R165) -/

namespace Sys2Proof.Machine.State

variable {s t u : State} {n m : SlotId} {c d : Chan} {r : ReleaseReason}

/-! ### What the steps behind the slot leave -/

/-- What no step behind the slot moves: the clock and the loader, the slots, what left the station, what waits urgently,
the other channels' views and watch records, and the schedules. -/
structure LeavesRest (s t : State) (c : Chan) : Prop where
  base : t.base = s.base
  slots : t.slots = s.slots
  out : t.out = s.out
  urgent : t.urgent = s.urgent
  views : ∀ d, d ≠ c → t.view d = s.view d
  watch : ∀ d, d ≠ c → t.watchRec d = s.watchRec d
  schedule : KeepsSchedule s t c

theorem LeavesRest.refl (s : State) (c : Chan) : LeavesRest s s c :=
  ⟨rfl, rfl, rfl, rfl, fun _ _ => rfl, fun _ _ => rfl, keepsSchedule_of_chans rfl⟩

theorem LeavesRest.trans (first : LeavesRest s t c) (second : LeavesRest t u c) : LeavesRest s u c where
  base := second.base.trans first.base
  slots := second.slots.trans first.slots
  out := second.out.trans first.out
  urgent := second.urgent.trans first.urgent
  views := fun d other => (second.views d other).trans (first.views d other)
  watch := fun d other => (second.watch d other).trans (first.watch d other)
  schedule := first.schedule.trans second.schedule

theorem leavesRest_modView (f : View → View) : LeavesRest s (s.modView c f) c :=
  ⟨rfl, rfl, rfl, rfl, fun d other => modView_view_other _ c d _ other.symm, fun _ _ => rfl,
    keepsSchedule_of_chans rfl⟩

theorem leavesRest_modWatch (f : WatchRec → WatchRec) : LeavesRest s (s.modWatch c f) c :=
  ⟨rfl, rfl, rfl, rfl, fun _ _ => rfl, fun _ other => modWatch_watchRec_other f other, keepsSchedule_of_chans rfl⟩

theorem leavesRest_clearOrphan (s : State) (c : Chan) : LeavesRest s (s.clearOrphan c) c :=
  (leavesRest_modView _).trans (leavesRest_modWatch _)

theorem leavesRest_mainReturns (s : State) (c : Chan) (ret : Option Nat) : LeavesRest s (s.mainReturns c ret) c where
  base := base_mainReturns s c ret
  slots := mainReturns_slots s c ret
  out := told_out (mainReturns_told s c ret)
  urgent := mainReturns_urgent s c ret
  views := fun d _ => view_congr (mainReturns_views s c ret) d
  watch := fun d _ => watchRec_congr (mainReturns_watch s c ret) d
  schedule := keepsSchedule_mainReturns s c ret

theorem leavesRest_authorityTest (s : State) (c : Chan) : LeavesRest s (s.authorityTest c) c := by
  unfold authorityTest
  split
  · split
    · exact leavesRest_mainReturns s c none
    · exact .refl s c
  · exact .refl s c

theorem leavesRest_restartHealth (s : State) (c : Chan) : LeavesRest s (s.restartHealth c) c :=
  (leavesRest_modWatch _).trans (leavesRest_modWatch _)

theorem acceptTake_watchRec_other {a : Addr} {e : Nat} {k : Option Claim} (other : d ≠ c) :
    (s.acceptTake c a e k).watchRec d = s.watchRec d := by
  have set : (s.holderSet c a e k).watchRec d = s.watchRec d :=
    (watchRec_congr (takeChanges_watch _ c e) d).trans (clearOrphan_watchRec_other other)
  have held : (s.setHolder c a e k).watchRec d = s.watchRec d := by
    rw [setHolder_eq]
    obtain same | ⟨start, settled⟩ := evaluate_held (holderSet_held (s := s) (c := c) (a := a) (e := e) (k := k))
    · rw [same, set]
    · rw [settled, settleHealth, modWatch_watchRec_other _ other, set]
  unfold acceptTake
  dsimp only
  split
  · rw [watchRec_congr (makeStale_watch _ c .diverged), held]
  · exact held

theorem leavesRest_acceptTake (s : State) (c : Chan) (a : Addr) (e : Nat) (k : Option Claim) :
    LeavesRest s (s.acceptTake c a e k) c where
  base := base_acceptTake s c a e k
  slots := acceptTake_slots s c a e k
  out := told_out (acceptTake_told s c a e k)
  urgent := acceptTake_urgent s c a e k
  views := (heldBy_acceptTake s c a e k).others
  watch := fun _ other => acceptTake_watchRec_other other
  schedule := keepsSchedule_acceptTake s c a e k

theorem leavesRest_releaseView (s : State) (c : Chan) (r : ReleaseReason) : LeavesRest s (s.releaseView c r) c := by
  unfold releaseView
  split
  · exact (leavesRest_acceptTake s c _ _ _).trans (leavesRest_modView _)
  · exact ((leavesRest_modView _).trans (leavesRest_modView _)).trans (leavesRest_clearOrphan _ c)

theorem leavesRest_handbackReturns (s : State) (c : Chan) (r : ReleaseReason) (ret : Option Nat) :
    LeavesRest s (s.handbackReturns c r ret) c := by
  unfold handbackReturns
  split
  · exact leavesRest_mainReturns s c ret
  · exact .refl s c

theorem leavesRest_healthAfresh (s : State) (c : Chan) (r : ReleaseReason) : LeavesRest s (s.healthAfresh c r) c := by
  unfold healthAfresh
  split
  · exact .refl s c
  · exact leavesRest_restartHealth s c

theorem leavesRest_aftermath (s : State) (c : Chan) (p : Pos) (r : ReleaseReason) :
    LeavesRest s (s.aftermath c p r) c := by
  have tested := leavesRest_authorityTest s c
  cases r with
  | handback | duplicate => exact .refl s c
  | airFault => exact tested.trans (leavesRest_modView _)
  | _ => exact tested

theorem leavesRest_writeEntry (s : State) (c : Chan) (n : SlotId) (event : Option Nat) (r : ReleaseReason) :
    LeavesRest s (s.writeEntry .release (some n) (some c) event none (some r)) c :=
  ⟨rfl, rfl, rfl, rfl, fun _ _ => rfl, fun _ _ => rfl, keepsSchedule_of_chans rfl⟩

/-- The view given up and, for a HANDBACK, authority returned. -/
def givenUp (s : State) (n : SlotId) (c : Chan) (r : ReleaseReason) : State :=
  ((s.departed n c r).releaseView c r).handbackReturns c r (s.releaseReturn n r)

/-- The RELEASE entry written and the health judged from where it stands or afresh. -/
def judged (s : State) (n : SlotId) (c : Chan) (r : ReleaseReason) : State :=
  ((s.givenUp n c r).writeEntry .release (some n) (some c) (s.releaseEvent n r) none (some r)).healthAfresh c r

variable (held : (s.slot n).chan = some c)
include held

theorem releaseSlot_judged (r : ReleaseReason) :
    s.releaseSlot n r = (s.judged n c r).aftermath c (s.now.add s.rate 1500) r := releaseSlot_eq held r

theorem leavesRest_releaseSlot (r : ReleaseReason) : LeavesRest (s.departed n c r) (s.releaseSlot n r) c := by
  rw [releaseSlot_judged held]
  have gave := (leavesRest_releaseView (s.departed n c r) c r).trans
    (leavesRest_handbackReturns _ c r (s.releaseReturn n r))
  exact ((gave.trans (leavesRest_writeEntry _ c n (s.releaseEvent n r) r)).trans
    (leavesRest_healthAfresh _ c r)).trans (leavesRest_aftermath _ c _ r)

end Sys2Proof.Machine.State

namespace Sys2Proof.Machine.State

variable {s : State} {n m : SlotId} {c d : Chan} {r : ReleaseReason} {w : WatchRec}

/-! ### The log (R165, R175, R176) -/

/-- The newest entry is still held when the next is written. -/
theorem roomMade_concat (xs : List AsRun) (z : AsRun) : ∃ ys, roomMade (xs ++ [z]) = ys ++ [z] := by
  unfold roomMade
  split
  next => exact ⟨xs, rfl⟩
  next full =>
    cases xs with
    | nil => exact absurd (by simp) full
    | cons x xs => exact ⟨xs, rfl⟩

/-- The RELEASE entry. -/
def releaseEntry (s : State) (n : SlotId) (c : Chan) (r : ReleaseReason) : AsRun :=
  ⟨(s.cancelPlan n c r).logNext, s.now, .release, some n, some c, s.releaseEvent n r, none, none, some r⟩

theorem aftermath_told (s : State) (c : Chan) (p : Pos) (r : ReleaseReason) : (s.aftermath c p r).told = s.told := by
  cases r <;> simp [aftermath]

theorem healthAfresh_told (s : State) (c : Chan) (r : ReleaseReason) : (s.healthAfresh c r).told = s.told := by
  unfold healthAfresh; split <;> simp

theorem givenUp_told (s : State) (n : SlotId) (c : Chan) (r : ReleaseReason) :
    (s.givenUp n c r).told = (s.departed n c r).told := by
  unfold givenUp handbackReturns; split <;> simp

theorem givenUp_base (s : State) (n : SlotId) (c : Chan) (r : ReleaseReason) : (s.givenUp n c r).base = s.base := by
  obtain ⟨base, -⟩ := s.departed_kept n c r
  exact (leavesRest_handbackReturns _ c r _).base.trans ((leavesRest_releaseView _ c r).base.trans base)

theorem releaseSlot_log (held : (s.slot n).chan = some c) : (s.releaseSlot n r).log =
      roomMade (s.cancelPlan n c r).log ++ [s.releaseEntry n c r] ∧
    (s.releaseSlot n r).logNext = ((s.cancelPlan n c r).logNext + 1) % 4294967296 := by
  have told := (s.givenUp_told n c r).trans (s.departed_told n c r)
  have ended : (s.releaseSlot n r).told = ((s.givenUp n c r).writeEntry .release (some n) (some c)
      (s.releaseEvent n r) none (some r)).told := by
    rw [releaseSlot_judged held, aftermath_told, judged, healthAfresh_told]
  have log : (s.givenUp n c r).log = (s.cancelPlan n c r).log := congrArg (fun x => x.2.1) told
  have next : (s.givenUp n c r).logNext = (s.cancelPlan n c r).logNext := congrArg (fun x => x.2.2) told
  rw [told_log ended, told_logNext ended, writeEntry_spec]
  simp only [log, next, now_of_base (s.givenUp_base n c r), roomMade, releaseEntry, and_self]

/-! ### The view (R109, R110, R125) -/

theorem aftermath_view (s : State) (c : Chan) (p : Pos) (r : ReleaseReason) : (s.aftermath c p r).view c =
    { s.view c with ineligible := if r = .airFault then some p else (s.view c).ineligible } := by
  have tested : (s.authorityTest c).view c = s.view c := view_congr (authorityTest_views s c) c
  cases r with
  | handback | duplicate => rfl
  | airFault => rw [aftermath, modView_view, tested]; rfl
  | _ => exact tested

theorem judged_views (s : State) (n : SlotId) (c : Chan) (r : ReleaseReason) :
    (s.judged n c r).views = ((s.departed n c r).releaseView c r).views := by
  have gave : (s.givenUp n c r).views = ((s.departed n c r).releaseView c r).views := by
    unfold givenUp handbackReturns; split <;> simp
  unfold judged healthAfresh
  split <;> exact gave

theorem departed_view (s : State) (n : SlotId) (c : Chan) (r : ReleaseReason) :
    (s.departed n c r).view c = s.view c := by
  obtain ⟨-, views, -⟩ := s.departed_kept n c r
  exact view_congr views c

theorem departed_duplicate : ((s.departed n c r).view c).duplicate = (s.view c).duplicate := by rw [departed_view]

theorem departed_winner : (s.departed n c r).winner c r = s.winner c r := by rw [winner, departed_view, winner]

section
variable (held : (s.slot n).chan = some c)
include held

theorem releaseSlot_view : (s.releaseSlot n r).view c = { ((s.departed n c r).releaseView c r).view c with
    ineligible := if r = .airFault then some (s.now.add s.rate 1500)
      else (((s.departed n c r).releaseView c r).view c).ineligible } := by
  rw [releaseSlot_judged held, aftermath_view, view_congr (judged_views s n c r)]

theorem releaseSlot_view_cleared (cleared : s.winner c r = none) : (s.releaseSlot n r).view c = { s.view c with
    holder := none, holderClaim := none, contest := .idle, rival := none, own := none, duplicate := none
    orphanSource := none
    ineligible := if r = .airFault then some (s.now.add s.rate 1500) else (s.view c).ineligible } := by
  have cleared' : (s.departed n c r).winner c r = none := departed_winner.trans cleared
  rw [releaseSlot_view held, releaseView_cleared cleared', viewCleared_view, departed_view]

theorem releaseSlot_view_lost {x : Duplicate} (lost : (s.view c).duplicate = some x) :
    (s.releaseSlot n .duplicate).view c = { s.view c with
      holder := some x.addr, holderEpoch := x.epoch, holderClaim := x.claim, orphanSource := none
      contest := .deferred, rival := none, own := none, duplicate := none } := by
  have lost' := (departed_duplicate (n := n) (r := .duplicate)).trans lost
  rw [releaseSlot_view held, releaseView_lost lost', viewLost_view, departed_view]
  rfl

end

/-! ### The watch record (R79, R83, R110) -/

theorem aftermath_watch (s : State) (c : Chan) (p : Pos) (r : ReleaseReason) :
    (s.aftermath c p r).watch = s.watch := by
  cases r <;> simp [aftermath]

/-- A watch record judged afresh from a position, its orphan flag clear, its health still to be found. -/
def restartedRec (w : WatchRec) (p : Pos) : WatchRec :=
  { w with beatLost := w.beatLost.restart p, mainFault := w.mainFault.restart p, pictureBad := w.pictureBad.restart p
           pictureUnknown := w.pictureUnknown.restart p, linkDown := w.linkDown.restart p, orphan := false }

/-- The health of a channel judged afresh with no holder. -/
def restartedHealth (s : State) (w : WatchRec) : Health :=
  healthChain s.cfg ((restartedRec w s.now).evidence s.rate s.now false) 6 .nominal

theorem departed_watchRec (rec : s.watchRec c = some w) : (s.departed n c r).watchRec c = some w := by
  obtain ⟨-, -, watch⟩ := s.departed_kept n c r
  rw [watchRec_congr watch, rec]

theorem winner_eq_none (other : r ≠ .duplicate) : s.winner c r = none := if_neg other

theorem restartHealth_watchRec_clear {t : State} (base : t.base = s.base) (clear : (t.view c).holder = none)
    (rec : t.watchRec c = some { w with orphan := false }) :
    (t.restartHealth c).watchRec c = some { restartedRec w s.now with health := s.restartedHealth w } := by
  rw [restartHealth_watchRec rec, clear, cfg_of_base base, rate_of_base base, now_of_base base]
  rfl

theorem givenUp_watchRec (other : r ≠ .duplicate) (rec : s.watchRec c = some w) :
    (s.givenUp n c r).watchRec c = some { w with orphan := false } := by
  have view : ((s.departed n c r).releaseView c r).watchRec c = some { w with orphan := false } := by
    rw [releaseView_cleared (winner_eq_none other), viewCleared_watchRec (departed_watchRec rec)]
  unfold givenUp handbackReturns
  split
  · rw [watchRec_congr (mainReturns_watch _ c _), view]
  · exact view

theorem judged_view_clear (other : r ≠ .duplicate) : ((s.judged n c r).view c).holder = none := by
  rw [view_congr (judged_views s n c r), releaseView_cleared (winner_eq_none other), viewCleared_view]

theorem judged_watchRec_afresh (other : r ≠ .duplicate) (rec : s.watchRec c = some w) :
    (s.judged n c r).watchRec c = some { restartedRec w s.now with health := s.restartedHealth w } := by
  have clear := judged_view_clear (s := s) (n := n) (c := c) other
  rw [judged, healthAfresh, if_neg other] at clear ⊢
  exact restartHealth_watchRec_clear (t := (s.givenUp n c r).writeEntry .release (some n) (some c)
    (s.releaseEvent n r) none (some r)) (s.givenUp_base n c r) clear (givenUp_watchRec other rec)

theorem writeEntry_watchRec (kind : AsRunKind) (slot : Option SlotId) (chan : Option Chan) (event : Option Nat)
    (lateness : Option Int) (reason : Option ReleaseReason) (d : Chan) :
    (s.writeEntry kind slot chan event lateness reason).watchRec d = s.watchRec d := rfl

theorem handbackReturns_kept {ret : Option Nat} (kept : r ≠ .handback) : s.handbackReturns c r ret = s := if_neg kept

theorem judged_duplicate (s : State) (n : SlotId) (c : Chan) : s.judged n c .duplicate =
    ((s.departed n c .duplicate).releaseView c .duplicate).writeEntry .release (some n) (some c)
      (s.releaseEvent n .duplicate) none (some .duplicate) := by
  rw [judged, healthAfresh, if_pos rfl, givenUp, handbackReturns_kept (by decide)]

section
variable (held : (s.slot n).chan = some c)
include held

theorem releaseSlot_watchRec (r : ReleaseReason) : (s.releaseSlot n r).watchRec c = (s.judged n c r).watchRec c := by
  rw [releaseSlot_judged held, watchRec_congr (aftermath_watch _ c _ r)]

theorem releaseSlot_watchRec_lost {x : Duplicate} (lost : (s.view c).duplicate = some x)
    (rec : s.watchRec c = some w) : (s.releaseSlot n .duplicate).watchRec c = some { w with
      orphan := false, health := healthChain s.cfg (w.evidence s.rate s.now true) 6 w.health } := by
  obtain ⟨base, -⟩ := s.departed_kept n c .duplicate
  have lost' := (departed_duplicate (n := n) (r := .duplicate)).trans lost
  rw [releaseSlot_watchRec held, judged_duplicate, writeEntry_watchRec, releaseView_lost lost',
    viewLost_watchRec (departed_watchRec rec), cfg_of_base base, rate_of_base base, now_of_base base]

end

/-! ### The channel (R50, R81, R110, R165) -/

/-- The channel's record beside its anchor and its list. -/
def unlisted (ch : ChannelRec) : ChannelRec := { ch with anchor := none, list := [] }

theorem departed_unlisted : unlisted ((s.departed n c r).chan c) = unlisted (s.chan c) := by
  cases air : (s.chan c).airEvent.isSome with
  | true => rw [departed_chan_air air]; rfl
  | false => rw [departed_chan_still air]

theorem viewCleared_base (s : State) (c : Chan) : (s.viewCleared c).base = s.base := rfl
theorem viewCleared_chans (s : State) (c : Chan) : (s.viewCleared c).chans = s.chans := rfl

theorem healthAfresh_chans (s : State) (c : Chan) (r : ReleaseReason) : (s.healthAfresh c r).chans = s.chans := by
  unfold healthAfresh; split <;> simp

/-- What a release that is no HANDBACK finds for the test of R81. -/
theorem judged_chans_cleared (cleared : s.winner c r = none) (kept : r ≠ .handback) :
    (s.judged n c r).chans = (s.departed n c r).chans := by
  have cleared' : (s.departed n c r).winner c r = none := departed_winner.trans cleared
  have gave : (s.givenUp n c r).chans = (s.departed n c r).chans := by
    rw [givenUp, handbackReturns_kept kept, releaseView_cleared cleared', viewCleared_chans]
  rw [judged, healthAfresh_chans, writeEntry_chans, gave]

theorem aftermath_chans (other : r ≠ .duplicate) (kept : r ≠ .handback) (p : Pos) :
    (s.aftermath c p r).chans = (s.authorityTest c).chans := by
  cases r with
  | handback => exact absurd rfl kept
  | duplicate => exact absurd rfl other
  | _ => rfl

theorem unlisted_fields {ch ch' : ChannelRec} (same : unlisted ch = unlisted ch') : ch.authority = ch'.authority ∧
    ch.epoch = ch'.epoch ∧ ch.nextSeq = ch'.nextSeq ∧ ch.replica = ch'.replica ∧ ch.cause = ch'.cause ∧
    ch.watched = ch'.watched := by
  simp only [unlisted, ChannelRec.mk.injEq] at same
  obtain ⟨watched, replica, cause, epoch, nextSeq, authority, -⟩ := same
  exact ⟨authority, epoch, nextSeq, replica, cause, watched⟩

theorem judged_base (s : State) (n : SlotId) (c : Chan) (r : ReleaseReason) : (s.judged n c r).base = s.base :=
  (leavesRest_healthAfresh _ c r).base.trans (s.givenUp_base n c r)

/-- The test of R81 over a channel just released. -/
def ReleaseReturns (s : State) (c : Chan) (w : WatchRec) : Prop :=
  (s.loader.station = .ready ∨ s.loader.station = .degraded) ∧ (s.chan c).authority = .site ∧
    s.restartedHealth w = .nominal

theorem judged_unlisted (other : r ≠ .duplicate) (kept : r ≠ .handback) :
    unlisted ((s.judged n c r).chan c) = unlisted (s.chan c) := by
  rw [chan_congr (judged_chans_cleared (winner_eq_none other) kept), departed_unlisted]

theorem judged_returns_iff (other : r ≠ .duplicate) (kept : r ≠ .handback) (w : WatchRec) :
    (s.judged n c r).Returns c { restartedRec w s.now with health := s.restartedHealth w } ↔
      s.ReleaseReturns c w := by
  obtain ⟨authority, -⟩ := unlisted_fields (judged_unlisted (s := s) (n := n) (c := c) other kept)
  rw [Returns, ReleaseReturns, base_loader (s.judged_base n c r), authority, judged_view_clear other]
  simp [restartedRec]

section
variable (held : (s.slot n).chan = some c)
include held

theorem releaseSlot_chan_tested (other : r ≠ .duplicate) (kept : r ≠ .handback) :
    (s.releaseSlot n r).chan c = ((s.judged n c r).authorityTest c).chan c := by
  rw [releaseSlot_judged held, chan_congr (aftermath_chans other kept _)]

theorem releaseSlot_returns (other : r ≠ .duplicate) (kept : r ≠ .handback) (rec : s.watchRec c = some w)
    (back : s.ReleaseReturns c w) : ((s.releaseSlot n r).chan c).epoch = (s.chan c).epoch ∧
      ((s.releaseSlot n r).chan c).authority = .main ∧ ((s.releaseSlot n r).chan c).nextSeq = 0 ∧
      ((s.chan c).replica ≠ .empty → ((s.releaseSlot n r).chan c).replica = .stale ∧
        ((s.releaseSlot n r).chan c).cause = some .handback) := by
  obtain ⟨-, epoch, -, replica, -⟩ := unlisted_fields (judged_unlisted (s := s) (n := n) (c := c) other kept)
  have returns := (judged_returns_iff (n := n) other kept w).mpr back
  rw [releaseSlot_chan_tested held other kept, authorityTest_returns (judged_watchRec_afresh other rec) returns,
    ← epoch, ← replica]
  by_cases empty : ((s.judged n c r).chan c).replica = .empty
  · rw [mainReturns_chan_empty empty]
    exact ⟨rfl, rfl, rfl, fun held => absurd empty held⟩
  · rw [mainReturns_chan_held empty]
    exact ⟨rfl, rfl, rfl, fun _ => ⟨rfl, rfl⟩⟩

theorem releaseSlot_stays (other : r ≠ .duplicate) (kept : r ≠ .handback) (rec : s.watchRec c = some w)
    (stays : ¬s.ReleaseReturns c w) : unlisted ((s.releaseSlot n r).chan c) = unlisted (s.chan c) := by
  have returns := mt (judged_returns_iff (n := n) other kept w).mp stays
  rw [releaseSlot_chan_tested held other kept, authorityTest_kept (judged_watchRec_afresh other rec) returns,
    judged_unlisted other kept]

/-- A HANDBACK returns the channel under its plan's epoch. -/
theorem releaseSlot_chan_handback {h : HandbackPlan} (plan : (s.slot n).handback = some h) :
    (s.releaseSlot n .handback).chan c =
      (((s.departed n c .handback).viewCleared c).mainReturns c (some h.returnEpoch)).chan c := by
  have ended : s.releaseSlot n .handback = s.judged n c .handback := releaseSlot_judged held .handback
  have ret : s.releaseReturn n .handback = some h.returnEpoch := by rw [releaseReturn, if_pos rfl, plan]; rfl
  rw [ended, judged, chan_congr (healthAfresh_chans _ c _), chan_congr (writeEntry_chans ..), givenUp,
    handbackReturns, if_pos rfl, ret, releaseView_cleared (winner_eq_none (by decide))]

theorem releaseSlot_chan_lost {x : Duplicate} (lost : (s.view c).duplicate = some x) :
    (s.releaseSlot n .duplicate).chan c = ((s.departed n c .duplicate).viewLost c x).chan c := by
  have lost' := (departed_duplicate (n := n) (r := .duplicate)).trans lost
  have ended : s.releaseSlot n .duplicate = s.judged n c .duplicate := releaseSlot_judged held .duplicate
  rw [ended, judged_duplicate, chan_congr (writeEntry_chans ..), releaseView_lost lost']

end

end Sys2Proof.Machine.State

namespace Sys2Proof.Machine.State

variable {s : State} {n : SlotId} {c : Chan} {r : ReleaseReason}

/-! ### The release due (R124, R164, R203) -/

theorem dueRelease_free (free : (s.slot n).state.holds = false) : s.dueRelease n = none := by
  simp [dueRelease, free]

theorem dueRelease_pending (holds : (s.slot n).state.holds = true) (pending : (s.slot n).releasePending = some r) :
    s.dueRelease n = some r := by
  simp [dueRelease, holds, pending]

theorem dueRelease_unasked (holds : (s.slot n).state.holds = true) (none : (s.slot n).releasePending = none)
    (chan : (s.slot n).chan = some c) : s.dueRelease n = if (s.view c).duplicate.isSome then some .duplicate
      else if s.loader.releasePhase.isSome then some .restart else Option.none := by
  simp [dueRelease, holds, none, chan]

theorem replicate_get (b : Bool) (l : Fin 4) : (Vector.replicate 4 b).get l = b := by
  rw [Vector.get_eq_getElem, Vector.getElem_replicate]

/-! ### The log with and without a cancel (R165, R173) -/

section
variable (held : (s.slot n).chan = some c)
include held

theorem releaseSlot_logNext_kept (kept : (s.slot n).handback = none ∨ r = .handback) :
    (s.releaseSlot n r).logNext = (s.logNext + 1) % 4294967296 := by
  rw [(releaseSlot_log held).2, cancelPlan_kept kept]

variable {h : HandbackPlan} (plan : (s.slot n).handback = some h) (ends : r ≠ .handback)
include plan ends

theorem cancelPlan_log : (s.cancelPlan n c r).log = roomMade s.log ++
      [⟨s.logNext, s.now, .handbackAborted, some n, some c, some h.event, none, none, none⟩] ∧
    (s.cancelPlan n c r).logNext = (s.logNext + 1) % 4294967296 := by
  obtain ⟨l, offered⟩ := s.offerCancel_line (.handover c h.event h.boundary h.returnEpoch true)
  rw [cancelPlan_cancels plan ends, offered, ← held]
  exact ⟨rfl, rfl⟩

/-- The entry of the plan's end stands before the last. -/
theorem releaseSlot_log_cancelled : (s.releaseSlot n r).logNext = (s.logNext + 1 + 1) % 4294967296 ∧
    ∃ zs, (s.releaseSlot n r).log = (zs ++
      [⟨s.logNext, s.now, .handbackAborted, some n, some c, some h.event, none, none, none⟩]) ++
        [s.releaseEntry n c r] := by
  obtain ⟨cancelled, next⟩ := cancelPlan_log held plan ends
  obtain ⟨log, logNext⟩ := releaseSlot_log (r := r) held
  obtain ⟨zs, made⟩ := roomMade_concat (roomMade s.log)
    ⟨s.logNext, s.now, .handbackAborted, some n, some c, some h.event, none, none, none⟩
  refine ⟨by rw [logNext, next]; omega, zs, ?_⟩
  rw [log, cancelled, made]

end

/-! ### The anchor (R165 step 5) -/

theorem departed_anchor {a : Anchor} (anchor : (s.chan c).anchor = some a) (air : a.source = .air) :
    ((s.departed n c r).chan c).anchor = none ∧
      ((s.departed n c r).chan c).list = (((s.unanchored c).walk c).chan c).list := by
  rw [departed_chan_air (airEvent_isSome.mpr ⟨a, anchor, air⟩)]
  exact ⟨rfl, rfl⟩

theorem departed_anchor_still (still : ∀ a, (s.chan c).anchor = some a → a.source ≠ .air) :
    (s.departed n c r).chan c = s.chan c :=
  departed_chan_still (Bool.eq_false_iff.mpr fun air => by
    obtain ⟨a, anchor, source⟩ := airEvent_isSome.mp air
    exact still a anchor source)

/-! ### Authority returned by a HANDBACK (R50) -/

theorem mainReturns_under (s : State) (c : Chan) (e : Nat) : let ch := (s.mainReturns c (some e)).chan c
    ch.authority = .main ∧ ch.epoch = e ∧ ch.nextSeq = 0 ∧
      ((s.chan c).replica ≠ .empty → ch.replica = .stale ∧ ch.cause = some .handback) ∧
      ((s.chan c).replica = .empty → ch.replica = .empty) ∧ (∀ q, ch.request = some q → q.asked = []) ∧
      (s.active = true → (s.chan c).watched = true → ch.request ≠ none) := by
  have opens := fun q => returnUnder_opens (s := s) (c := c) (e := e) (q := q)
  have asks := returnUnder_asks (s := s) (c := c) (e := e)
  by_cases empty : (s.chan c).replica = .empty
  · have chan := returnUnder_chan_empty (e := e) empty
    refine ⟨?_, ?_, ?_, fun held => absurd empty held, fun _ => ?_, fun q asked => (opens q asked).1,
      asks⟩ <;> rw [chan]
    exact empty
  · have chan := returnUnder_chan_held (e := e) empty
    refine ⟨?_, ?_, ?_, fun _ => ⟨?_, ?_⟩, fun none => absurd none empty, fun q asked => (opens q asked).1,
      asks⟩ <;> rw [chan]

/-- A channel returned to the main site under a HANDBACK's epoch. -/
theorem releaseSlot_handback (held : (s.slot n).chan = some c) {h : HandbackPlan}
    (plan : (s.slot n).handback = some h) : let ch := (s.releaseSlot n .handback).chan c
    ch.authority = .main ∧ ch.epoch = h.returnEpoch ∧ ch.nextSeq = 0 ∧
      ((s.chan c).replica ≠ .empty → ch.replica = .stale ∧ ch.cause = some .handback) ∧
      ((s.chan c).replica = .empty → ch.replica = .empty) ∧ (∀ q, ch.request = some q → q.asked = []) ∧
      (s.active = true → (s.chan c).watched = true → ch.request ≠ none) := by
  obtain ⟨base, -⟩ := s.departed_kept n c .handback
  have own : unlisted (((s.departed n c .handback).viewCleared c).chan c) = unlisted (s.chan c) := by
    rw [chan_congr (viewCleared_chans _ c), departed_unlisted]
  have active : ((s.departed n c .handback).viewCleared c).active = s.active :=
    active_of_base ((viewCleared_base _ c).trans base)
  obtain ⟨-, -, -, replica, -, watched⟩ := unlisted_fields own
  rw [releaseSlot_chan_handback held plan, ← replica, ← watched, ← active]
  exact mainReturns_under _ c h.returnEpoch

end Sys2Proof.Machine.State

namespace Sys2Proof.Handback
open Sys2Proof.Machine

/-- Settles O45: the release due; what a release leaves of the slot, the words, the log, the line, the view, the watch
record and the channel. -/
theorem releasesAreTakenWhole : Obligations.ReleasesAreTakenWhole := by
  refine ⟨fun n s opened => ?step, fun n s => ?due, fun n s c r held => ?whole⟩
  case step =>
    have step : exec (.slotRelease n) s = .next (s.atStep.slotReleaseStep n).review :=
      congrArg Host.Outcome.next (State.atFrame_open s _ opened)
    intro t
    refine ⟨fun none => ?_, fun r due untouched => ?_, fun r due begun => ?_⟩ <;> rw [step, State.slotReleaseStep]
    · rw [if_neg (by rw [none]; decide)]
    · rw [if_pos (by rw [due]; rfl), if_pos untouched, State.takeRelease, due]
    · rw [if_pos (by rw [due]; rfl), if_neg begun]
  case due =>
    intro x
    exact ⟨State.dueRelease_free, fun r => State.dueRelease_pending, fun c => State.dueRelease_unasked⟩
  case whole =>
    intro x u
    have rest : State.LeavesRest (s.departed n c r) u c := State.leavesRest_releaseSlot held r
    have slot : u.slot n = { Slot.reset (s.slot n).tally with stepsDone := 9 } :=
      (State.slot_congr rest.slots n).trans State.departed_slot
    obtain ⟨-, views, watch⟩ := s.departed_kept n c r
    rw [slot]
    refine ⟨rfl, rfl, rfl, rfl, rfl, rfl, rfl, fun l => ⟨?lines, ?pulsed⟩, rfl, rfl, rfl, rfl, rfl, rfl, rfl, rfl,
      rfl, rfl, rfl, fun m other away => ?slots, fun d other => ⟨?views, ?watch⟩, fun d other leads => ?chans,
      fun fresh w rec => ?afresh, fun x w duplicate lost rec => ?lost, ?out, ?log, ?sent, fun a anchor air => ?air,
      fun still => ?still, fun fresh => ?cleared, fun x duplicate lost => ?winner, fun fault => ?fault,
      fun h handback plan => ?handback⟩
    case lines => exact State.replicate_get false l
    case pulsed => exact State.replicate_get false l
    case slots => rw [State.slot_congr rest.slots, State.departed_slot_elsewhere other away]
    case views => rw [rest.views d other, State.view_congr views]
    case watch => rw [rest.watch d other, State.watchRec_congr watch]
    case chans =>
      refine (State.chan_of_bare (rest.schedule.others d other)).trans ?_
      rw [State.departed_chan_elsewhere other leads]
    case afresh =>
      intro clear h
      refine ⟨(State.releaseSlot_watchRec held r).trans (State.judged_watchRec_afresh fresh rec), fun kept => ?_⟩
      intro back
      by_cases returns : s.ReleaseReturns c w
      · obtain ⟨epoch, returned⟩ := State.releaseSlot_returns held fresh kept rec returns
        exact ⟨epoch, fun _ => returned, fun away => absurd returns away⟩
      · obtain ⟨authority, epoch, nextSeq, replica, cause, -⟩ :=
          State.unlisted_fields (State.releaseSlot_stays held fresh kept rec returns)
        exact ⟨epoch, fun back => absurd back returns, fun _ => ⟨authority, nextSeq, replica, cause⟩⟩
    case lost =>
      subst duplicate
      obtain ⟨authority, epoch, nextSeq⟩ :=
        State.viewLost_authority (s := s.departed n c .duplicate) (c := c) (x := x)
      rw [← State.releaseSlot_chan_lost held lost] at authority epoch nextSeq
      have view := State.releaseSlot_view_lost held lost
      exact ⟨authority, epoch, nextSeq, congrArg View.holderClaim view, congrArg View.orphanSource view,
        State.releaseSlot_watchRec_lost held lost rec⟩
    case out => rw [rest.out, State.departed_out, State.lineWords]
    case log =>
      obtain ⟨log, -⟩ := State.releaseSlot_log (r := r) held
      by_cases kept : x.handback = none ∨ r = .handback
      · refine ⟨_, _, log, rfl, rfl, rfl, rfl, rfl, rfl, fun _ => State.releaseSlot_logNext_kept held kept,
          fun h plan ends => absurd kept (by simp [plan, ends])⟩
      · obtain ⟨some, ends⟩ := not_or.mp kept
        obtain ⟨h, plan⟩ := Option.ne_none_iff_exists'.mp some
        obtain ⟨next, zs, log⟩ := State.releaseSlot_log_cancelled held plan ends
        refine ⟨_, _, log, rfl, rfl, rfl, rfl, rfl, rfl, fun none => absurd none kept, fun h' plan' _ => ?_⟩
        obtain rfl : h = h' := Option.some.inj (plan.symm.trans plan')
        refine ⟨next, ⟨zs, _, rfl, rfl, rfl, rfl, rfl, rfl⟩, ?_⟩
        intro cancel
        rw [State.urgent_q0 rest.urgent, State.urgent_cancels rest.urgent]
        exact State.departed_cancels plan ends
    case sent =>
      intro ret sent
      have released := s.departed_releases n c r
      rw [State.InClassZero, State.releaseMsg, State.releaseReturn] at released
      rw [State.urgent_q0 rest.urgent, State.urgent_outbox rest.urgent]
      exact released
    case air =>
      rw [rest.schedule.anchor, rest.schedule.list]
      exact State.departed_anchor anchor air
    case still =>
      rw [rest.schedule.anchor, rest.schedule.list, State.departed_anchor_still still]
      exact ⟨rfl, rfl⟩
    case cleared =>
      rw [State.releaseSlot_view_cleared held (State.winner_eq_none fresh)]
      exact ⟨rfl, rfl, rfl, rfl⟩
    case winner =>
      subst duplicate
      rw [State.releaseSlot_view_lost held lost]
      exact ⟨rfl, rfl, rfl, rfl⟩
    case fault =>
      subst fault
      rw [State.releaseSlot_view_cleared held (State.winner_eq_none (by decide))]
      rfl
    case handback =>
      subst handback
      exact State.releaseSlot_handback held plan

end Sys2Proof.Handback
